-- ==== Sys2Proof/Word.lean ====
section
/-! DEFINITION. The words the part holds: bytes, beats of 16 bytes, 16-bit counts and samples, 32-bit part time. -/

namespace Sys2Proof

/-- One byte of frame memory. -/
abbrev Byte := BitVec 8

/-- The 16 bytes of one beat as one number, byte 0 the least significant (00_scope.md 6.2, Record Formats: little-endian). -/
abbrev Beat := BitVec 128

/-- A free-running 16-bit count that wraps from 65535 to 0 (00_scope.md 6.3). -/
abbrev Count := BitVec 16

/-- Part time, in milliseconds; it wraps from 4,294,967,295 to 0 (R35). -/
abbrev Millis := BitVec 32

/-- One signed 16-bit audio sample. -/
abbrev Sample := BitVec 16

end Sys2Proof
end

