-- ==== Sys2Proof/Config.lean ====
section
/-! DEFINITION. The fixed numbers of the part, and the FREE VALUES: constants with no body, for what the spec leaves open. -/

namespace Sys2Proof.Config

/-- The end of frame memory: 512 MiB (00_scope.md 6.2). -/
def memoryEnd : Nat := 0x20000000

/-- The anchor page, page 0x1FFFF (02, section 2.1). -/
def anchorBase : Nat := 0x1FFFF000

/-- The first page number above every region: the anchor page (R26 check 3, R56). -/
def anchorPage : Nat := 0x1FFFF

/-- The request ring: 32 entries of 32 bytes (02, section 2.1). -/
def ringBase : Nat := 0x1FFFF300

/-- The status block, eight sections of 96 bytes (02, section 2.1). -/
def statusBase : Nat := 0x1FFFF700

/-- The end of the status block. -/
def statusEnd : Nat := 0x1FFFFA00

/-- Bytes of a page. -/
def pageBytes : Nat := 4096

/-- The stride of film slots: 501 pages (R7). -/
def filmSlotStride : Nat := 2052096

/-- The alias offset of the trailer beat (R9). -/
def trailerOffset : Nat := 2048000

/-- The stride of camera slots: 450 pages (07, section 7.4). -/
def cameraSlotStride : Nat := 1843200

/-- FREE VALUE (log 9). The byte the status writer puts where a named field of a section is not meaningful;
the argument is a count of such places. -/
opaque freeByte : Nat → BitVec 8

/-- FREE VALUE (log 7). Whether a composed colour component that is not a whole number is carried on the panel port
as the next whole number above it or below it; the arguments are the exact numerator and denominator. -/
opaque roundsUp : Nat → Nat → Bool

/-- FREE VALUE (log 8). Whether the centre of the pixel at (x, y) lies at (x + 1/2, y + 1/2) in the coordinates of guide
segments, rather than at (x, y). -/
opaque pixelCentreAtHalf : Bool

end Sys2Proof.Config
end

