-- ==== Sys2Proof/Syntax.lean ====
section
/-! DEFINITION. The commands: one constructor of Instr per row of spec/opcode_table.json, with the operands its rule gives it. -/

namespace Sys2Proof

/-- The three panels; codes RL 0, RR 1, C 2 (Record Formats). -/
inductive Panel where
  | rl
  | rr
  | c
deriving DecidableEq, Repr

/-- The level of an input pin. -/
inductive Level where
  | low
  | high
deriving DecidableEq, Repr

/-- The direction of a host request (section 1.1). -/
inductive Direction where
  | read
  | write
deriving DecidableEq, Repr

/-- A data element of a WRITE packet: a byte mask and the 16 data bytes (11.1). -/
structure DataElement where
  mask : BitVec 16
  data : Beat
deriving DecidableEq, Repr

/-- A host request packet (section 1.1, 11.1): its first byte, of which bit 0 is the direction (R176), and its further fields. Bits 1 to 7
of the first byte and the byte at offset 3, which 11.1 does not name, are not read (R177). -/
structure HostRequest where
  first : Byte
  tag : BitVec 8
  address : BitVec 32
  beatCount : BitVec 8
  elements : List DataElement
deriving DecidableEq, Repr

/-- The commands of the block, in the table's order. -/
inductive Instr where
  /-- POWER_ON_RESET (R34). -/
  | powerOnReset
  /-- INIT_END (R35). -/
  | initEnd
  /-- MEMORY_CELL_DISTURBANCE (R15): the data bits of one beat that change. -/
  | memoryCellDisturbance (beat : BitVec 25) (flips : Beat)
  /-- HOST_REQUEST_PACKET (R1). -/
  | hostRequestPacket (packet : HostRequest)
  /-- ARBITER_GRANT (R18). -/
  | arbiterGrant
  /-- HOST_GRANT_COMPLETE (R2). -/
  | hostGrantComplete
  /-- ENTRY_FETCH_COMPLETE (R45). -/
  | entryFetchComplete
  /-- LAYOUT_FETCH_GRANT_COMPLETE (R25). -/
  | layoutFetchGrantComplete
  /-- VALIDATION_END (R28). -/
  | validationEnd
  /-- RESULT_WRITE_COMPLETE (R47). -/
  | resultWriteComplete
  /-- STATUS_SECTION_WRITE_COMPLETE (R36). -/
  | statusSectionWriteComplete
  /-- WRST_ASSERT (R38). -/
  | wrstAssert
  /-- DRAIN_LIMIT_EXPIRY (R38). -/
  | drainLimitExpiry
  /-- WRST_DEASSERT (R40). -/
  | wrstDeassert
  /-- REFRESH_START (R52) of one panel. -/
  | refreshStart (panel : Panel)
  /-- LINE_DUE (R63) of one panel. -/
  | lineDue (panel : Panel)
  /-- LINE_FETCH_GRANT_COMPLETE (R62), of the engine whose grant is in progress. -/
  | lineFetchGrantComplete
  /-- DESCRIPTOR_FETCH_COMPLETE (R91). -/
  | descriptorFetchComplete
  /-- IDLE_TIMER_EXPIRY (R101) of one panel. -/
  | idleTimerExpiry (panel : Panel)
  /-- REV_EDGE (R108), to the level named. -/
  | revEdge (level : Level)
  /-- REV_PENDING_EXPIRY (R108). -/
  | revPendingExpiry
  /-- HOLD_TIMER_EXPIRY (R114). -/
  | holdTimerExpiry
  /-- FIRST_FRAME_DEADLINE_EXPIRY (R116). -/
  | firstFrameDeadlineExpiry
  /-- LOST_TIMER_EXPIRY (R117). -/
  | lostTimerExpiry
  /-- FRAME_START (R120). -/
  | frameStart (frameNo : BitVec 16)
  /-- LINE (R121): line_no, the data bytes as received, line_check. -/
  | line (lineNo : BitVec 16) (data : List Byte) (check : BitVec 32)
  /-- FRAME_END (R122). -/
  | frameEnd
  /-- UNKNOWN_CAMERA_PACKET (R176): its type code, none of 1, 2, 3. -/
  | unknownCameraPacket (typeCode : Byte)
  /-- CAMERA_LINE_WRITE_COMPLETE (R121). -/
  | cameraLineWriteComplete
  /-- STALE_TIMER_EXPIRY (R131). -/
  | staleTimerExpiry
  /-- GUIDE_LIST_GRANT_COMPLETE (R137). -/
  | guideListGrantComplete
  /-- DISTANCE_TIMER_EXPIRY (R141). -/
  | distanceTimerExpiry
  /-- CLIP_DIRECTORY_FETCH_COMPLETE (R151). -/
  | clipDirectoryFetchComplete
  /-- CLIP_BLOCK_FETCH_COMPLETE (R152). -/
  | clipBlockFetchComplete
  /-- TONE_PERIOD_WRAP (R155). -/
  | tonePeriodWrap
  /-- BLOCK_BOUNDARY (R146). -/
  | blockBoundary
  /-- AUDIO_BLOCK_FETCH_COMPLETE (R158). -/
  | audioBlockFetchComplete
  /-- PART_TIME_TICK (R155). -/
  | partTimeTick
deriving DecidableEq, Repr

end Sys2Proof
end

