-- ==== Sys2Proof/Decode.lean ====
section
/-! DEFINITION. What the first byte of a host request packet says, and the command a word of the opcode table spells. spec/opcode_table.json gives no row any bits (its "fields" are
empty and no row has "fixed"), so no word spells a command: commands reach the queue from outside (log 27). -/

namespace Sys2Proof

/-- The direction of a host request packet: bit 0 of its first byte, READ 0 and WRITE 1, so every packet has one (11.1, R176). -/
def HostRequest.direction (p : HostRequest) : Direction := if p.first.getLsbD 0 then .write else .read

/-- The command that a word spells by the table's bits: none, since the table gives no row any bits (log 27). -/
def decodeTableWord (_nbits _w : Nat) : Option Instr := none

end Sys2Proof
end

