-- ==== Sys2Proof/WellFormed.lean ====
section
/-! DEFINITION. Which terms of Instr are commands the part can receive. Every other field is bounded by its type. -/

namespace Sys2Proof

/-- A WRITE packet carries as many data elements as its beat_count gives, also when that count fails a validity check;
a READ packet carries none (11.1). -/
def HostRequest.wellFormed (p : HostRequest) : Bool :=
  match p.direction with
  | .read => p.elements.isEmpty
  | .write => p.elements.length == p.beatCount.toNat

/-- The type codes that 11.3 gives are not unknown: FRAME_START 1, LINE 2, FRAME_END 3 (R176). -/
def unknownTypeCode (t : Byte) : Bool := !(t == 1 || t == 2 || t == 3)

/-- A term of Instr that is a command. -/
def Instr.wellFormed : Instr → Bool
  | .hostRequestPacket p => p.wellFormed
  | .unknownCameraPacket t => unknownTypeCode t
  | .powerOnReset | .initEnd | .memoryCellDisturbance _ _ | .arbiterGrant | .hostGrantComplete | .entryFetchComplete
  | .layoutFetchGrantComplete | .validationEnd | .resultWriteComplete | .statusSectionWriteComplete | .wrstAssert
  | .drainLimitExpiry | .wrstDeassert | .refreshStart _ | .lineDue _ | .lineFetchGrantComplete
  | .descriptorFetchComplete | .idleTimerExpiry _ | .revEdge _ | .revPendingExpiry | .holdTimerExpiry
  | .firstFrameDeadlineExpiry | .lostTimerExpiry | .frameStart _ | .line _ _ _ | .frameEnd
  | .cameraLineWriteComplete | .staleTimerExpiry | .guideListGrantComplete | .distanceTimerExpiry
  | .clipDirectoryFetchComplete | .clipBlockFetchComplete | .tonePeriodWrap | .blockBoundary
  | .audioBlockFetchComplete | .partTimeTick => true

end Sys2Proof
end

