-- ==== Sys2Proof/Machine/State.lean ====
section
/-! DEFINITION. The state of the part as plain data, block by block, the reasons a step can stop, and State.reset, the state right
after POR (R34). -/

namespace Sys2Proof.Machine

/-- Why the machine stops with a fault. -/
inductive Fault where
  /-- Raised by ARBITER_GRANT when the beats it would move lie outside frame memory. No layout that passed validation, no base page a
  block accepted and no valid host request leads to such a grant (R5, R26 check 3, R56). SAFE: the model stops (log 21). -/
  | accessOutsideMemory
deriving DecidableEq, Repr

/-- Why the machine refuses a command. -/
inductive Refusal where
  /-- Raised by an arm of exec for a command that has no meaning yet. SAFE: the model stops. -/
  | notModelled (mnemonic : String)
  /-- Raised by HOST_REQUEST_PACKET and UNKNOWN_CAMERA_PACKET for a term that is not such a packet (Instr.wellFormed).
  SAFE: the model stops (log 22). -/
  | notThatPacket (mnemonic : String)
deriving DecidableEq, Repr

/-! ## Names shared by the blocks -/

/-- A film channel; codes A 0, B 1. -/
inductive Channel where
  | a
  | b
deriving DecidableEq, Repr

/-- A guide bank, GUIDE_0 or GUIDE_1. -/
inductive Bank where
  | bank0
  | bank1
deriving DecidableEq, Repr

/-- One value per panel. -/
structure PerPanel (α : Type) where
  rl : α
  rr : α
  c : α
deriving DecidableEq, Repr

/-- One value per film channel. -/
structure PerChannel (α : Type) where
  a : α
  b : α
deriving DecidableEq, Repr

/-- One value per film slot of a channel. -/
structure PerSlot (α : Type) where
  s0 : α
  s1 : α
  s2 : α
deriving DecidableEq, Repr

/-- One value per camera slot. -/
structure PerCameraSlot (α : Type) where
  s0 : α
  s1 : α
  s2 : α
  s3 : α
deriving DecidableEq, Repr

/-- One value per fault class. -/
structure PerClass (α : Type) where
  advisory : α
  serious : α
  critical : α
deriving DecidableEq, Repr

/-- A timer: STOPPED, or RUNNING with an expiry time in part time (00_scope.md 6.4). -/
inductive Timer where
  | stopped
  | running (expiry : Millis)
deriving DecidableEq, Repr

/-- A block's part in a warm reset in BOUNDARY mode (R48, R127, R163). -/
inductive Drain where
  | none
  | draining
  | drained
deriving DecidableEq, Repr

/-- A claim names one request of 1 to 16 beats within one page (section 1.9). -/
structure Req where
  address : Nat
  beats : Nat
deriving DecidableEq, Repr

/-- The claim of a port: none, waiting at the arbiter, or granted and not yet complete. A granted claim that is not live has been
given up by its owner: it runs to its completion and its data is discarded (R20). -/
inductive Claim where
  | idle
  | waiting (req : Req)
  | granted (live : Bool)
deriving DecidableEq, Repr

/-- The claimant ports, in ring order 1 to 12 (section 1.9). -/
inductive Port where
  | host
  | rqe
  | lyu
  | stw
  | mnu
  | gdu
  | denRl
  | denRr
  | denC
  | ccp
  | aop
  | chu
deriving DecidableEq, Repr

/-! ## Faults -/

/-- The 19 fault kinds, in the order of section 10.1. -/
inductive FaultKind where
  | hostRequestInvalid
  | writeRefused
  | fillOverrun
  | trailerInvalid
  | filmStarved
  | audioUnderrun
  | memCorrected
  | memUncorrectable
  | scanUnderflow
  | cameraLineError
  | cameraLost
  | steerStale
  | sensorFault
  | guideInvalid
  | menuPageInvalid
  | chimeUnderrun
  | clipInvalid
  | requestInvalid
  | layoutInvalid
deriving DecidableEq, Repr

/-- The fault classes; codes ADVISORY 0, SERIOUS 1, CRITICAL 2. -/
inductive FaultClass where
  | advisory
  | serious
  | critical
deriving DecidableEq, Repr

/-- The actions; codes QUIET 0, SIGNAL 1, SAFE 2. -/
inductive FaultAction where
  | quiet
  | signal
  | safe
deriving DecidableEq, Repr

/-- The fault sources, in the order of Record Formats. -/
inductive FaultSource where
  | hostLink
  | memory
  | filmA
  | filmB
  | panelRl
  | panelRr
  | panelC
  | camera
  | guide
  | park
  | chime
  | audio
  | request
  | layout
deriving DecidableEq, Repr

/-- The states of a film channel, in the order of section 5.1. -/
inductive ChannelState where
  | idle
  | priming
  | playing
  | paused
  | ended
deriving DecidableEq, Repr

/-- The list a guide fetch reads: the static list or a bucket's (8.3). -/
inductive GuideList where
  | static
  | bucket (k : Nat)
deriving DecidableEq, Repr

/-- The transaction of a host request (R1). -/
structure Txn where
  tag : BitVec 8
  address : BitVec 32
  direction : Direction
  beatCount : BitVec 8
deriving DecidableEq, Repr

/-- The region of the protection set that a refused write touches (R10). -/
inductive ProtectedRegion where
  | filmSlotsA
  | filmSlotsB
  | cameraRegion
  | guideBank0
  | guideBank1
  | statusBlock
deriving DecidableEq, Repr

/-- The detail of a fault report; each constructor cites the rule that gives its content. -/
inductive Detail where
  /-- R1. -/
  | noCredit
  /-- R5 check 1. -/
  | misaligned
  /-- R5 check 2. -/
  | beatCount
  /-- R5 check 3. -/
  | pageCrossing
  /-- R5 check 4. -/
  | outsideMemory
  /-- R8. -/
  | noFillSlot
  /-- R10. -/
  | touches (region : ProtectedRegion)
  /-- R8, FILL_OVERRUN. -/
  | channelState (state : ChannelState)
  /-- R15, for a HOST grant: index of the lowest affected beat within the request, and the number affected. -/
  | hostBeats (lowest count : Nat)
  /-- R15, for an internal claimant. -/
  | memoryBeats (lowest count : Nat) (port : Port)
  /-- R25, R26: the failing check, and the row for a row check. -/
  | layoutCheck (check : Nat) (row : Option Nat)
  /-- R42: whether AHEAD or BEHIND; rejected value, producer kept, consumer. -/
  | producer (ahead : Bool) (rejected kept consumer : Count)
  /-- R45: the kind code found and the entry's index. -/
  | unknownKind (kind index : Count)
  /-- R56: the rejected base page. -/
  | uiBase (page : BitVec 32)
  /-- R63: the late line. -/
  | lateLine (line : Nat)
  /-- R68 check 1: the frame_seq found. -/
  | badMarker (frameSeq : BitVec 32)
  /-- R68 check 2: the value found and the frame_seq found. -/
  | badDelay (value : Byte) (frameSeq : BitVec 32)
  /-- R73: the frame_seq of the SHOWN frame. -/
  | starvedFrame (frameSeq : BitVec 32)
  /-- R91: the page id and the failing check. -/
  | menuPage (page check : Nat)
  /-- R117: NO_GOOD_FRAME, or FIRST_FRAME_DEADLINE; last_good_frame_no or none. -/
  | cameraLost (deadline : Bool) (lastGood : Option Count)
  /-- R121: next_line, line_no, frame_no. -/
  | outOfOrder (nextLine : Nat) (lineNo frameNo : Count)
  /-- R121. -/
  | badCheck (lineNo frameNo : Count)
  /-- R121. -/
  | bufferOverrun (lineNo frameNo : Count)
  /-- R122: the number missing. -/
  | missingLines (missing : Nat) (frameNo : Count)
  /-- R120. -/
  | startBeforeEnd (frameNo : Count)
  /-- R131: the seq of the last steering beat or none. -/
  | steering (seq : Option Count)
  /-- R137: bank, list, failing check and, for checks 2 to 4, the segment's place. -/
  | guideList (bank : Bank) (list : GuideList) (check : Nat) (segment : Option Nat)
  /-- R141: valid_count and min_valid. -/
  | tooFewValid (validCount minValid : Nat)
  /-- R141: the seq of the last distance beat or none. -/
  | noDistanceBeat (seq : Option Count)
  /-- R151: the clip id and the failing check. -/
  | clipEntry (clip check : Nat)
  /-- R153: the clip id and the position. -/
  | lateClip (clip position : Nat)
  /-- R157: channel, rejected value, producer kept, consumer. -/
  | audioProducer (channel : Channel) (rejected kept consumer : Count)
  /-- R159: LATE, or EMPTY; channel and consumer. -/
  | underrun (late : Bool) (channel : Channel) (consumer : Count)
deriving DecidableEq, Repr

/-- A fault report as a block hands it to FLT (section 10.1). -/
structure Report where
  kind : FaultKind
  source : FaultSource
  detail : Detail
  txn : Option Txn
deriving DecidableEq, Repr

/-- A fault record: the report, its class, and the part time at which FLT took it (chapter 10). -/
structure FaultRecord where
  report : Report
  cls : FaultClass
  time : Millis
deriving DecidableEq, Repr

/-- The attention causes, bit by bit (Record Formats). -/
inductive Cause where
  | fault
  | filmEndedA
  | filmEndedB
  | reverseChanged
  | layoutApplied
  | resetDone
deriving DecidableEq, Repr

/-- FLT's state (chapter 10). A kind set holds bit k for kind k, the cause set bit k for cause k (Record Formats). -/
structure Flt where
  seen : PerClass (BitVec 19)
  first : PerClass (Option FaultRecord)
  latest : PerClass (Option FaultRecord)
  tally : BitVec 8
  overflow : Bool
  degraded : Bool
  causes : BitVec 6
deriving DecidableEq, Repr

/-! ## Layouts -/

/-- One row of the region map: base page and size in pages. -/
structure Region where
  base : Nat
  pages : Nat
deriving DecidableEq, Repr

/-- The region map; a row may be absent (R13, R33). -/
structure RegionMap where
  fillA : Option Region
  fillB : Option Region
  filmSlotsA : Option Region
  filmSlotsB : Option Region
  camera : Option Region
  menuStore : Option Region
  glyphs : Option Region
  guide0 : Option Region
  guide1 : Option Region
  chimeStore : Option Region
  audioA : Option Region
  audioB : Option Region
deriving DecidableEq, Repr

/-- A colour, or a pixel of a plane or a glyph (11.4, 11.6). -/
structure Colour where
  blue : Byte
  green : Byte
  red : Byte
  alpha : Byte
deriving DecidableEq, Repr

/-- Fill policies (R70). -/
inductive FillPolicy where
  | keepAll
  | newest
deriving DecidableEq, Repr

/-- Warm reset modes (R38). -/
inductive WarmResetMode where
  | boundary
  | immediate
deriving DecidableEq, Repr

/-- A subset of the two headphone outputs. -/
structure Route where
  ha : Bool
  hb : Bool
deriving DecidableEq, Repr

/-- An entry of the chime map that is not NONE (R149). -/
structure MappedChime where
  clip : Nat
  priority : Nat
  route : Route
deriving DecidableEq, Repr

/-- The chime map of a layout. -/
structure ChimeMap where
  reverseEngaged : Option MappedChime
  cameraLost : Option MappedChime
  sensorFault : Option MappedChime
  faultCritical : Option MappedChime
deriving DecidableEq, Repr

/-- A beep cadence in ms (8.9). -/
structure Cadence where
  period : Nat
  onTime : Nat
deriving DecidableEq, Repr

/-- The park settings of a host layout; the default layout has none (R33). -/
structure ParkSettings where
  readoutX : Nat
  readoutY : Nat
  minValid : Nat
  t1 : Nat
  t2 : Nat
  t3 : Nat
  t4 : Nat
  zone1 : Cadence
  zone2 : Cadence
  zone3 : Cadence
  zone4 : Cadence
deriving DecidableEq, Repr

/-- The guide palette. -/
structure Palette where
  c0 : Colour
  c1 : Colour
  c2 : Colour
  c3 : Colour
deriving DecidableEq, Repr

/-- A layout: the fields of the layout record (section 2.3). The severity table lists a class per kind, in kind order. -/
structure Layout where
  map : RegionMap
  rrSource : Channel
  fillPolicy : PerChannel FillPolicy
  background : PerPanel Colour
  barColour : Colour
  palette : Palette
  servicePage : Option Nat
  cameraLostPage : Option Nat
  reverseHold : Nat
  idleTimeout : PerPanel Nat
  park : Option ParkSettings
  toneHalfPeriod : Nat
  duckShiftHa : Nat
  duckShiftHb : Nat
  chimeMap : ChimeMap
  severity : List FaultClass
  mask : BitVec 19
  tallySelection : BitVec 19
  action : PerClass FaultAction
  warmResetMode : WarmResetMode
deriving DecidableEq, Repr

/-- Part states (section 2.6). -/
inductive PartState where
  | init
  | running
deriving DecidableEq, Repr

/-- Layout states (section 2.4). -/
inductive LayoutState where
  | unconfigured
  | configured
  | staged
deriving DecidableEq, Repr

/-- The committed source (section 2.4). -/
inductive CommittedSource where
  | default
  | host
deriving DecidableEq, Repr

/-- The warm reset phase (section 2.8). -/
inductive ResetPhase where
  | none
  | draining
  | held
deriving DecidableEq, Repr

/-- The LAYOUT_COMMIT in hand (R25): the half being fetched with what was read before it, or a whole record that waits for its
validation end. -/
inductive CommitStage where
  | none
  | firstHalf
  | secondHalf (first : List Byte)
  | validating (record : List Byte)
deriving DecidableEq, Repr

/-- LYU's state (chapter 2), part time with it (R35). -/
structure Lyu where
  partState : PartState
  layoutState : LayoutState
  source : CommittedSource
  committed : Layout
  staged : Option Layout
  phase : ResetPhase
  resetCount : Count
  lastCommitCheck : Option Nat
  drainLimit : Timer
  commit : CommitStage
  claim : Claim
  partTime : Millis
deriving DecidableEq, Repr

/-! ## The memory path -/

/-- The check state of a beat (section 1.8); the bit of a CORRECTABLE beat is the one that has changed. -/
inductive CheckState where
  | clean
  | correctable (bit : Nat)
  | uncorrectable
deriving DecidableEq, Repr

/-- A beat as FMC delivers it: 16 bytes, with or without the poison indication (R15). -/
structure ReadBeat where
  bytes : List Byte
  poison : Bool
deriving DecidableEq, Repr

/-- The outcomes of a response (section 1.1). -/
inductive HostOutcome where
  | ok
  | invalid
  | refused
  | poisoned
deriving DecidableEq, Repr

/-- A response packet (section 1.1). -/
structure Response where
  tag : BitVec 8
  outcome : HostOutcome
  data : List (List Byte)
deriving DecidableEq, Repr

/-- What a grant is for; it tells which completion ends it. -/
inductive GrantKind where
  | hostTake (response : Response)
  | entryFetch
  | layoutFetch
  | statusSection
  | resultWrite
  | descriptorFetch
  | guideList
  | lineFetch (panel : Panel)
  | cameraWrite
  | audioBlock
  | clipDirectory
  | clipBlock
deriving DecidableEq, Repr

/-- The grant in progress: what it is for and the beats it read (R19). -/
structure Grant where
  kind : GrantKind
  beats : List ReadBeat
deriving DecidableEq, Repr

/-- FMC's state: frame memory, its check states, the grant in progress, and the rotation position of each tier (sections 1.8, 1.9). -/
structure Fmc where
  cells : List Host.Cell
  marks : List (Nat × CheckState)
  busy : Option Grant
  rot1 : Port
  rot2 : Port
  rot3 : Port
  rot4 : Port
deriving DecidableEq, Repr

/-- HLP's state (section 1.2) and the response last sent. -/
structure Hlp where
  queue : List HostRequest
  credits : Nat
  sent : Option Response
deriving DecidableEq, Repr

/-- WDC's state (section 1.5). -/
structure Wdc where
  map : RegionMap
  liveBank : Option Bank
  stagedBank : Option Bank
deriving DecidableEq, Repr

/-! ## The status writer and the request engine -/

/-- The sections of the status block (section 2.1). -/
inductive StatusSection where
  | s0
  | s1
  | s2
  | s3
  | s4
  | s5
  | s6
  | s7
deriving DecidableEq, Repr

/-- The dirty set (R36). -/
structure DirtySet where
  s0 : Bool
  s1 : Bool
  s2 : Bool
  s3 : Bool
  s4 : Bool
  s5 : Bool
  s6 : Bool
  s7 : Bool
deriving DecidableEq, Repr

/-- The result codes of 11.5. -/
inductive ResultCode where
  | ok
  | deferred
  | busy
  | badArgument
  | notConfigured
  | notRouted
  | stackFull
  | stackEmpty
  | pageInvalid
  | queueFull
  | degraded
  | notClear
  | memError
  | unknownKind
deriving DecidableEq, Repr

/-- A result write in hand: the ring position and the code (R37). -/
structure ResultWrite where
  position : Nat
  code : ResultCode
deriving DecidableEq, Repr

/-- STW's one claim (R36, R37). -/
inductive StwClaim where
  | idle
  | sectionWaiting (k : StatusSection)
  | sectionGranted
  | resultWaiting
  | resultGranted
deriving DecidableEq, Repr

/-- STW's state (section 2.7). -/
structure Stw where
  dirty : DirtySet
  result : Option ResultWrite
  claim : StwClaim
deriving DecidableEq, Repr

/-- Phases of the entry in execution (chapter 3). -/
inductive EntryPhase where
  | fetching
  | withOwner
  | writingResult
deriving DecidableEq, Repr

/-- The entry in execution: its index and phase (chapter 3). -/
structure Entry where
  index : Count
  phase : EntryPhase
deriving DecidableEq, Repr

/-- RQE's state (chapter 3). -/
structure Rqe where
  producer : Count
  consumer : Count
  entry : Option Entry
  fetched : List Byte
  drain : Drain
  held : Bool
  claim : Claim
deriving DecidableEq, Repr

/-! ## Film channels -/

/-- Slot states, in the order of section 5.1. -/
inductive SlotState where
  | free
  | filling
  | ready
  | shown
  | retired
deriving DecidableEq, Repr

/-- The frame part of a slot (section 5.1). -/
structure Frame where
  frameSeq : BitVec 32
  presentDelay : Nat
  secondMark : Bool
  endOfFilm : Bool
deriving DecidableEq, Repr

/-- A slot record (section 5.1). -/
structure Slot where
  state : SlotState
  scanHolds : Nat
  frame : Option Frame
deriving DecidableEq, Repr

/-- A film time. -/
structure Elapsed where
  hours : Nat
  minutes : Nat
  seconds : Nat
deriving DecidableEq, Repr

/-- A channel record (section 5.1). -/
structure FilmChannel where
  state : ChannelState
  slots : PerSlot Slot
  queue : List (Fin 3)
  fill : Option (Fin 3)
  holdCount : Nat
  starveRun : Nat
  elapsed : Elapsed
  wrap : Bool
  presented : Count
  repeated : Count
  dropped : Count
deriving DecidableEq, Repr

/-! ## Menus -/

/-- A page descriptor (section 6.1); the elapsed readout is present when READOUT is set. -/
structure Descriptor where
  planeOffset : Nat
  width : Nat
  height : Nat
  x : Nat
  y : Nat
  reverseOk : Bool
  opaquePage : Bool
  readout : Option (Channel × Nat × Nat)
deriving DecidableEq, Repr

/-- A top cache (section 6.2). -/
inductive TopCache where
  | none
  | valid (d : Descriptor)
  | invalid
deriving DecidableEq, Repr

/-- A notice cache (section 6.2). -/
inductive NoticeCache where
  | absent
  | pending
  | inFlight
  | valid (d : Descriptor)
  | invalid
deriving DecidableEq, Repr

/-- A panel's auto-pop (section 6.2). -/
inductive AutoPop where
  | none
  | pending
  | inFlight
deriving DecidableEq, Repr

/-- A panel's menu state: its stack bottom first, top cache, idle timer and auto-pop (section 6.2). -/
structure MenuPanel where
  stack : List Nat
  top : TopCache
  idle : Timer
  autoPop : AutoPop
deriving DecidableEq, Repr

/-- The menu requests that need a fetch (section 6.3). -/
inductive MenuKind where
  | push
  | replace
  | pop
deriving DecidableEq, Repr

/-- The request in hand: its kind, panel and the page whose descriptor it needs (section 6.2). -/
structure MenuRequest where
  kind : MenuKind
  panel : Panel
  page : Nat
deriving DecidableEq, Repr

/-- The purposes of a descriptor fetch (R90). -/
inductive MenuPurpose where
  | request
  | service
  | cameraLost
  | autoPop (panel : Panel)
deriving DecidableEq, Repr

/-- The fetch in flight; one that is not live has been given up and is not judged (R91). -/
structure MenuFetch where
  purpose : MenuPurpose
  page : Nat
  live : Bool
deriving DecidableEq, Repr

/-- MNU's state (section 6.2). -/
structure Mnu where
  panels : PerPanel MenuPanel
  request : Option MenuRequest
  service : NoticeCache
  cameraLost : NoticeCache
  fetch : Option MenuFetch
  held : Bool
  claim : Claim
deriving DecidableEq, Repr

/-! ## Reverse view and camera capture -/

/-- A REV level as RVC holds it; in the order of the state table of chapter 7. -/
inductive RevLevel where
  | asserted
  | deasserted
deriving DecidableEq, Repr

/-- The view state. -/
inductive View where
  | normal
  | engaged
  | hold
deriving DecidableEq, Repr

/-- What caused the latest entry into ENGAGED. -/
inductive EngageCause where
  | none
  | rev
  | host
deriving DecidableEq, Repr

/-- The camera health. -/
inductive Health where
  | awaiting
  | good
  | lost
deriving DecidableEq, Repr

/-- A REV level seen and not yet stable for 20 ms (R108). -/
structure RevPending where
  level : RevLevel
  expiry : Millis
deriving DecidableEq, Repr

/-- RVC's state (chapter 7). hostRequest is true for ON. -/
structure Rvc where
  revQualified : RevLevel
  revPending : Option RevPending
  hostRequest : Bool
  view : View
  engageCause : EngageCause
  holdTimer : Timer
  health : Health
  firstFrameDeadline : Timer
  lostTimer : Timer
  recoveryCount : Nat
  lastGoodFrameNo : Option Count
  acting : Bool
deriving DecidableEq, Repr

/-- Where the camera receiver stands (section 7.4). -/
inductive Reception where
  | waiting
  | receiving
  | discarding
deriving DecidableEq, Repr

/-- The receiving frame (section 7.4), with the slot's base address resolved at its start (R120). -/
structure ReceivingFrame where
  slot : Fin 4
  frameNo : Count
  nextLine : Nat
  base : Nat
deriving DecidableEq, Repr

/-- The closing frame (section 7.4). -/
structure ClosingFrame where
  slot : Fin 4
  frameNo : Count
deriving DecidableEq, Repr

/-- A line received and not yet written: its slot and base address, line_no, data, and the beats written so far (section 7.4). -/
structure CameraLine where
  slot : Fin 4
  base : Nat
  lineNo : Nat
  data : List Byte
  written : Nat
deriving DecidableEq, Repr

/-- CCP's state (section 7.4). capturing is true for RUNNING. -/
structure Ccp where
  capturing : Bool
  reception : Reception
  receiving : Option ReceivingFrame
  closing : Option ClosingFrame
  buffer : List CameraLine
  frameNos : PerCameraSlot (Option Count)
  latest : Option (Fin 4)
  pinned : Option (Fin 4)
  drain : Drain
  held : Bool
  framesGood : Count
  framesDamaged : Count
  claim : Claim
deriving DecidableEq, Repr

/-! ## Guide lines and park distance -/

/-- A guide segment (8.3, R59). -/
structure Segment where
  x0 : Nat
  y0 : Nat
  x1 : Nat
  y1 : Nat
  width : Nat
  colour : Nat
deriving DecidableEq, Repr

/-- The last steering beat taken, its angle clamped (R130). -/
structure Steering where
  seq : Count
  angle : Int
deriving DecidableEq, Repr

/-- Whether the steering angle may bend the lines (section 8.1). -/
inductive SteeringState where
  | absent
  | fresh
  | stale
deriving DecidableEq, Repr

/-- The static cache (section 8.1). -/
inductive StaticCache where
  | absent
  | valid (segments : List Segment)
  | invalid
deriving DecidableEq, Repr

/-- The bucket cache (section 8.1). -/
inductive BucketCache where
  | absent
  | valid (bucket : Nat) (segments : List Segment)
  | invalid (bucket : Nat)
deriving DecidableEq, Repr

/-- The list fetch in flight: its list, bank, given_up, the grants done and the beats read (section 8.1, 8.4). -/
structure GuideFetch where
  list : GuideList
  bank : Bank
  givenUp : Bool
  grants : Nat
  beats : List ReadBeat
deriving DecidableEq, Repr

/-- GDU's state (section 8.1). -/
structure Gdu where
  steering : Option Steering
  steeringState : SteeringState
  staleTimer : Timer
  staleReported : Bool
  wantedBucket : Nat
  working : Bool
  liveBank : Option Bank
  stagedBank : Option Bank
  staticCache : StaticCache
  bucketCache : BucketCache
  fetch : Option GuideFetch
  held : Bool
  claim : Claim
deriving DecidableEq, Repr

/-- A distance record (8.7). -/
structure Distance where
  seq : Count
  valid : BitVec 4
  d0 : Nat
  d1 : Nat
  d2 : Nat
  d3 : Nat
deriving DecidableEq, Repr

/-- The value the distance readout draws (8.7). -/
inductive Readout where
  | none
  | distance (d : Nat)
  | fault
  | clear
deriving DecidableEq, Repr

/-- The cadence last handed to the chime unit (8.7). -/
inductive Handed where
  | zone (z : Nat)
  | halt
deriving DecidableEq, Repr

/-- PDU's state (8.7); nearest is none for CLEAR. -/
structure Pdu where
  active : Bool
  distance : Option Distance
  distanceTimer : Timer
  validCount : Nat
  nearest : Option Nat
  zone : Nat
  sensorFault : Bool
  readout : Readout
  handed : Handed
  held : Bool
deriving DecidableEq, Repr

/-! ## Chimes and audio -/

/-- The part-originated chime events (R149). -/
inductive ChimeEvent where
  | reverseEngaged
  | cameraLost
  | sensorFault
  | faultCritical
deriving DecidableEq, Repr

/-- The origin of a chime (section 9.2). -/
inductive Origin where
  | requested
  | event (e : ChimeEvent)
deriving DecidableEq, Repr

/-- A chime: an entry of the queue, or the voice's (section 9.2). -/
structure Chime where
  clip : Nat
  priority : Nat
  plays : Nat
  route : Route
  requeue : Bool
  origin : Origin
  arrival : Nat
deriving DecidableEq, Repr

/-- The states of the clip voice (section 9.3). -/
inductive VoiceState where
  | idle
  | starting
  | playing
deriving DecidableEq, Repr

/-- A fetched directory entry (section 9.3), with the base of the CHIME_STORE row it was judged against, from which its blocks are read. The
base is the MODEL's own field (log 40). -/
structure ClipEntry where
  base : Nat
  offset : Nat
  length : Nat
  gainShift : Nat
deriving DecidableEq, Repr

/-- A clip block in the voice's buffer (section 9.3). -/
structure ClipBlock where
  position : Nat
  data : List Byte
  poison : Bool
deriving DecidableEq, Repr

/-- The clip voice (section 9.3). The buffer is the block being played (while STARTING, block 0) and the next. -/
structure Voice where
  state : VoiceState
  chime : Chime
  nextRoute : Route
  entry : Option ClipEntry
  position : Nat
  current : Option ClipBlock
  next : Option ClipBlock
  pendingStop : Bool
  underrun : Bool
deriving DecidableEq, Repr

/-- What CHU fetches for the clip voice (section 9.3). -/
inductive ClipTarget where
  | directory
  | block (position : Nat)
deriving DecidableEq, Repr

/-- The clip voice's fetch in flight (section 9.3): its target, given_up, the grants done and what was read. -/
structure ClipFetch where
  target : ClipTarget
  givenUp : Bool
  grants : Nat
  beats : List ReadBeat
deriving DecidableEq, Repr

/-- The pending field of the tone voice (section 9.4). -/
inductive TonePending where
  | none
  | cadence (c : Cadence)
  | stop
deriving DecidableEq, Repr

/-- The tone voice (section 9.4); sounding is true for SOUNDING. wrapDue is the model's own: the tick that reaches the period has
been taken and TONE_PERIOD_WRAP has not (log 16). -/
structure Tone where
  sounding : Bool
  cadence : Cadence
  counter : Nat
  pending : TonePending
  beepStarted : Bool
  phase : Nat
  wrapDue : Bool
deriving DecidableEq, Repr

/-- CHU's state (chapter 9). -/
structure Chu where
  queue : List Chime
  voice : Voice
  fetch : Option ClipFetch
  tone : Tone
  dropped : Count
  arrivals : Nat
  drain : Drain
  held : Bool
  claim : Claim
deriving DecidableEq, Repr

/-- A fetched film audio block (section 9.5). -/
structure AudioBlock where
  index : Count
  data : List Byte
  poison : Bool
deriving DecidableEq, Repr

/-- A film audio fetch in flight (section 9.5). -/
structure AudioFetch where
  index : Count
  givenUp : Bool
  grants : Nat
  beats : List ReadBeat
deriving DecidableEq, Repr

/-- AOP's record of one channel (section 9.5); playing is none for silence. -/
structure AudioChannel where
  producer : Count
  consumer : Count
  ahead : List AudioBlock
  playing : Option (List Byte)
  fetch : Option AudioFetch
  underrun : Bool
deriving DecidableEq, Repr

/-- One TDM frame of eight slots (section 9.1). -/
structure TdmFrame where
  haL : Sample
  haR : Sample
  hbL : Sample
  hbR : Sample
  cabL : Sample
  cabR : Sample
  slot7 : Sample
  slot8 : Sample
deriving DecidableEq, Repr

/-- AOP's state (chapter 9). tdm is the block being sent, first frame first. -/
structure Aop where
  channels : PerChannel AudioChannel
  duckHa : Bool
  duckHb : Bool
  held : Bool
  claim : Claim
  tdm : List TdmFrame
deriving DecidableEq, Repr

/-! ## Display engines -/

/-- The base of a refresh plan (section 4.2). -/
inductive Base where
  | none
  | film (channel : Channel) (slot : Fin 3) (address : Nat)
  | camera (slot : Fin 4) (address : Nat)
  | ui (address : Nat)
deriving DecidableEq, Repr

/-- The guide overlay of a plan (section 4.2, R59). -/
structure GuideOverlay where
  static : List Segment
  bucket : List Segment
  palette : Palette
deriving DecidableEq, Repr

/-- A page of a plan: its descriptor and its plane's address (section 4.2, R60). -/
structure PageLayer where
  page : Descriptor
  plane : Nat
deriving DecidableEq, Repr

/-- A readout of a plan: glyph indices, the position of the first, and the GLYPHS base address (section 4.2, R60). -/
structure ReadoutLayer where
  glyphs : List Nat
  x : Nat
  y : Nat
  strip : Nat
deriving DecidableEq, Repr

/-- The refresh plan (section 4.2). -/
structure Plan where
  fill : Colour
  base : Base
  guide : Option GuideOverlay
  notice : Option PageLayer
  menu : Option PageLayer
  elapsed : Option ReadoutLayer
  distance : Option ReadoutLayer
deriving DecidableEq, Repr

/-- Where a timing generator stands (chapter 4): at a refresh start that has not come yet, in the blanking interval, or at a line. -/
inductive Timing where
  | atRefreshStart
  | blanking
  | line (n : Nat)
deriving DecidableEq, Repr

/-- A fetched line of the line buffer: the beats' bytes in the order they were read (R62), and whether any was poisoned (R64). -/
structure BufferedLine where
  line : Nat
  data : List Byte
  poison : Bool
deriving DecidableEq, Repr

/-- The line being fetched: what it has so far and the requests it still needs (R62). -/
structure FetchingLine where
  line : Nat
  data : List Byte
  poison : Bool
  todo : List Req
deriving DecidableEq, Repr

/-- A composed pixel on a panel port (R61). -/
structure Rgb where
  red : Byte
  green : Byte
  blue : Byte
deriving DecidableEq, Repr

/-- The state every display engine has (chapter 4); nextLine none is done. -/
structure Den where
  timing : Timing
  plan : Plan
  buffer : List BufferedLine
  fetching : Option FetchingLine
  nextLine : Option Nat
  claim : Claim
  underflow : Bool
  held : Bool
  output : List Rgb
deriving DecidableEq, Repr

/-- A hold record: a channel and a slot index (R54). -/
structure Hold where
  channel : Channel
  slot : Fin 3
deriving DecidableEq, Repr

/-- The display engines (chapter 4). -/
structure Engines where
  panels : PerPanel Den
  holdRl : Option Hold
  holdRr : Option Hold
  pin : Option (Fin 4)
  uiPending : Option Nat
  uiCurrent : Option Nat
deriving DecidableEq, Repr

/-- The input pins. -/
structure Pins where
  rev : Level
  wrst : Level
deriving DecidableEq, Repr

/-- The state of the part, and the queue of commands that wait, first in, first out. -/
structure State where
  fmc : Fmc
  hlp : Hlp
  wdc : Wdc
  lyu : Lyu
  stw : Stw
  rqe : Rqe
  den : Engines
  fsq : PerChannel FilmChannel
  mnu : Mnu
  rvc : Rvc
  ccp : Ccp
  gdu : Gdu
  pdu : Pdu
  chu : Chu
  aop : Aop
  flt : Flt
  pins : Pins
  freeCount : Nat
  pending : List Instr
deriving DecidableEq, Repr

/-! ## The state right after POR -/

/-- Black. R33 gives the default layout's colours as black and no alpha. That it is opaque, alpha 255, also in the guide palette, whose alpha
is the one used (02 section 2.3), is the model's choice (log 37). -/
def Colour.black : Colour := ⟨0, 0, 0, 255⟩

/-- A route to no headphone. -/
def Route.empty : Route := ⟨false, false⟩

/-- The default layout's region map (R13, R33). -/
def RegionMap.default : RegionMap :=
  { fillA := none, fillB := none, filmSlotsA := none, filmSlotsB := none, camera := some ⟨0x1F000, 1800⟩,
    menuStore := none, glyphs := none, guide0 := none, guide1 := none, chimeStore := none, audioA := none, audioB := none }

/-- The default column of section 10.1. -/
def defaultSeverity : List FaultClass :=
  [.serious, .advisory, .advisory, .advisory, .advisory, .advisory, .advisory, .serious, .advisory, .advisory,
   .serious, .advisory, .serious, .serious, .advisory, .advisory, .advisory, .advisory, .serious]

/-- The default layout (R33, section 10.2). -/
def Layout.default : Layout :=
  { map := RegionMap.default, rrSource := .b, fillPolicy := ⟨.keepAll, .keepAll⟩,
    background := ⟨Colour.black, Colour.black, Colour.black⟩, barColour := Colour.black,
    palette := ⟨Colour.black, Colour.black, Colour.black, Colour.black⟩,
    servicePage := none, cameraLostPage := none, reverseHold := 0, idleTimeout := ⟨0, 0, 0⟩, park := none,
    toneHalfPeriod := 32, duckShiftHa := 0, duckShiftHb := 0, chimeMap := ⟨none, none, none, none⟩,
    severity := defaultSeverity, mask := 0, tallySelection := 1#19 <<< 6,
    action := ⟨.quiet, .signal, .safe⟩, warmResetMode := .boundary }

/-- Every section dirty (R34). -/
def DirtySet.all : DirtySet := ⟨true, true, true, true, true, true, true, true⟩

/-- A FREE slot (R88). -/
def Slot.empty : Slot := ⟨.free, 0, none⟩

/-- A channel record after POR (R88). -/
def FilmChannel.reset : FilmChannel :=
  { state := .idle, slots := ⟨Slot.empty, Slot.empty, Slot.empty⟩, queue := [], fill := none, holdCount := 0, starveRun := 0,
    elapsed := ⟨0, 0, 0⟩, wrap := false, presented := 0, repeated := 0, dropped := 0 }

/-- A panel's menu state after POR (R107). -/
def MenuPanel.reset : MenuPanel := ⟨[], .none, .stopped, .none⟩

/-- MNU after POR (R107). -/
def Mnu.reset : Mnu :=
  { panels := ⟨MenuPanel.reset, MenuPanel.reset, MenuPanel.reset⟩, request := none, service := .absent, cameraLost := .absent,
    fetch := none, held := false, claim := .idle }

/-- RVC after POR (R128, R129). -/
def Rvc.reset : Rvc :=
  { revQualified := .deasserted, revPending := none, hostRequest := false, view := .normal, engageCause := .none,
    holdTimer := .stopped, health := .awaiting, firstFrameDeadline := .stopped, lostTimer := .stopped, recoveryCount := 0,
    lastGoodFrameNo := none, acting := false }

/-- CCP after POR (R128, R129). -/
def Ccp.reset : Ccp :=
  { capturing := false, reception := .waiting, receiving := none, closing := none, buffer := [],
    frameNos := ⟨none, none, none, none⟩, latest := none, pinned := none, drain := .none, held := false,
    framesGood := 0, framesDamaged := 0, claim := .idle }

/-- GDU after POR (R145). -/
def Gdu.reset : Gdu :=
  { steering := none, steeringState := .absent, staleTimer := .stopped, staleReported := false, wantedBucket := 16,
    working := false, liveBank := none, stagedBank := none, staticCache := .absent, bucketCache := .absent, fetch := none,
    held := false, claim := .idle }

/-- PDU after POR (R145). -/
def Pdu.reset : Pdu :=
  { active := false, distance := none, distanceTimer := .stopped, validCount := 0, nearest := none, zone := 0,
    sensorFault := false, readout := .none, handed := .zone 0, held := false }

/-- The chime of a voice that has none (log 15). -/
def Chime.blank : Chime := ⟨0, 0, 0, Route.empty, false, .requested, 0⟩

/-- An IDLE clip voice (R163); underrun reported is kept from play to play (R153). -/
def Voice.blank (underrun : Bool) : Voice :=
  { state := .idle, chime := Chime.blank, nextRoute := Route.empty, entry := none, position := 0, current := none, next := none,
    pendingStop := false, underrun := underrun }

/-- A SILENT tone voice (R163). -/
def Tone.silent : Tone :=
  { sounding := false, cadence := ⟨0, 0⟩, counter := 0, pending := .none, beepStarted := false, phase := 0, wrapDue := false }

/-- CHU after POR (R163). -/
def Chu.reset : Chu :=
  { queue := [], voice := Voice.blank false, fetch := none, tone := Tone.silent, dropped := 0, arrivals := 0, drain := .none,
    held := false, claim := .idle }

/-- AOP's record of one channel after POR (R163). -/
def AudioChannel.reset : AudioChannel :=
  { producer := 0, consumer := 0, ahead := [], playing := none, fetch := none, underrun := false }

/-- A TDM frame of silence. -/
def TdmFrame.silent : TdmFrame := ⟨0, 0, 0, 0, 0, 0, 0, 0⟩

/-- A block of 256 silent frames (R146). -/
def silentBlock : List TdmFrame := List.replicate 256 TdmFrame.silent

/-- AOP after POR (R163). -/
def Aop.reset : Aop :=
  { channels := ⟨AudioChannel.reset, AudioChannel.reset⟩, duckHa := false, duckHb := false, held := false, claim := .idle,
    tdm := silentBlock }

/-- FLT after POR (R175). -/
def Flt.reset : Flt :=
  { seen := ⟨0, 0, 0⟩, first := ⟨none, none, none⟩, latest := ⟨none, none, none⟩, tally := 0, overflow := false,
    degraded := false, causes := 0 }

/-- A plan of a fill colour alone. -/
def Plan.fillOnly (fill : Colour) : Plan :=
  { fill := fill, base := .none, guide := none, notice := none, menu := none, elapsed := none, distance := none }

/-- A display engine after POR (R66). -/
def Den.reset : Den :=
  { timing := .atRefreshStart, plan := Plan.fillOnly Colour.black, buffer := [], fetching := none, nextLine := none,
    claim := .idle, underflow := false, held := false, output := [] }

/-- The display engines after POR (R66). -/
def Engines.reset : Engines :=
  { panels := ⟨Den.reset, Den.reset, Den.reset⟩, holdRl := none, holdRr := none, pin := none, uiPending := none, uiCurrent := none }

/-- LYU after POR (R34). -/
def Lyu.reset : Lyu :=
  { partState := .init, layoutState := .unconfigured, source := .default, committed := Layout.default, staged := none,
    phase := .none, resetCount := 0, lastCommitCheck := none, drainLimit := .stopped, commit := .none, claim := .idle,
    partTime := 0 }

/-- RQE after POR (R41). -/
def Rqe.reset : Rqe :=
  { producer := 0, consumer := 0, entry := none, fetched := [], drain := .none, held := false, claim := .idle }

/-- The machine right after POR (R34): frame memory listing nothing, every block in its power-on state, the queue empty. -/
def State.reset : State :=
  { fmc := { cells := [], marks := [], busy := none, rot1 := .chu, rot2 := .chu, rot3 := .chu, rot4 := .chu },
    hlp := { queue := [], credits := 0, sent := none },
    wdc := { map := RegionMap.default, liveBank := none, stagedBank := none },
    lyu := Lyu.reset,
    stw := { dirty := DirtySet.all, result := none, claim := .sectionWaiting .s0 },
    rqe := Rqe.reset, den := Engines.reset, fsq := ⟨FilmChannel.reset, FilmChannel.reset⟩, mnu := Mnu.reset,
    rvc := Rvc.reset, ccp := Ccp.reset, gdu := Gdu.reset, pdu := Pdu.reset, chu := Chu.reset, aop := Aop.reset,
    flt := Flt.reset, pins := ⟨.low, .low⟩, freeCount := 0, pending := [] }

end Sys2Proof.Machine
end

