-- ==== Sys2Proof/Machine/Ops.lean ====
section
/-! DEFINITION. The shared operations: tables with one value per panel, channel, slot and class; the canonical memory; beats with
their check states (R14 to R16); timers; claims and ports (R17, R20). -/

namespace Sys2Proof.Machine

/-! ## One value per name -/

/-- The value of one panel. -/
def PerPanel.get {α : Type} (t : PerPanel α) : Panel → α
  | .rl => t.rl
  | .rr => t.rr
  | .c => t.c

/-- The table with one panel's value replaced. -/
def PerPanel.set {α : Type} (t : PerPanel α) (p : Panel) (v : α) : PerPanel α :=
  match p with
  | .rl => { t with rl := v }
  | .rr => { t with rr := v }
  | .c => { t with c := v }

/-- The value of one channel. -/
def PerChannel.get {α : Type} (t : PerChannel α) : Channel → α
  | .a => t.a
  | .b => t.b

/-- The table with one channel's value replaced. -/
def PerChannel.set {α : Type} (t : PerChannel α) (x : Channel) (v : α) : PerChannel α :=
  match x with
  | .a => { t with a := v }
  | .b => { t with b := v }

/-- The value of one film slot. -/
def PerSlot.get {α : Type} (t : PerSlot α) (i : Fin 3) : α :=
  match i with
  | 0 => t.s0
  | 1 => t.s1
  | 2 => t.s2

/-- The table with one film slot's value replaced. -/
def PerSlot.set {α : Type} (t : PerSlot α) (i : Fin 3) (v : α) : PerSlot α :=
  match i with
  | 0 => { t with s0 := v }
  | 1 => { t with s1 := v }
  | 2 => { t with s2 := v }

/-- Every film slot's value changed alike. -/
def PerSlot.map {α : Type} (t : PerSlot α) (f : α → α) : PerSlot α := ⟨f t.s0, f t.s1, f t.s2⟩

/-- The lowest-index film slot whose value passes a test. -/
def PerSlot.lowest {α : Type} (t : PerSlot α) (ok : α → Bool) : Option (Fin 3) :=
  if ok t.s0 then some 0 else if ok t.s1 then some 1 else if ok t.s2 then some 2 else none

/-- The value of one camera slot. -/
def PerCameraSlot.get {α : Type} (t : PerCameraSlot α) (i : Fin 4) : α :=
  match i with
  | 0 => t.s0
  | 1 => t.s1
  | 2 => t.s2
  | 3 => t.s3

/-- The table with one camera slot's value replaced. -/
def PerCameraSlot.set {α : Type} (t : PerCameraSlot α) (i : Fin 4) (v : α) : PerCameraSlot α :=
  match i with
  | 0 => { t with s0 := v }
  | 1 => { t with s1 := v }
  | 2 => { t with s2 := v }
  | 3 => { t with s3 := v }

/-- The value of one fault class. -/
def PerClass.get {α : Type} (t : PerClass α) : FaultClass → α
  | .advisory => t.advisory
  | .serious => t.serious
  | .critical => t.critical

/-- The table with one fault class's value replaced. -/
def PerClass.set {α : Type} (t : PerClass α) (k : FaultClass) (v : α) : PerClass α :=
  match k with
  | .advisory => { t with advisory := v }
  | .serious => { t with serious := v }
  | .critical => { t with critical := v }

/-! ## Canonical tables -/

/-- What a canonical table holds at a key; an unlisted key holds the default. -/
def lookupD {α : Type} (d : α) : List (Nat × α) → Nat → α
  | [], _ => d
  | (k, v) :: t, a => if k = a then v else lookupD d t a

/-- A canonical table with one key's value replaced; writing the default removes the entry. -/
def storeD {α : Type} [DecidableEq α] (d : α) : List (Nat × α) → Nat → α → List (Nat × α)
  | [], a, v => if v = d then [] else [(a, v)]
  | (k, w) :: t, a, v =>
    if a < k then (if v = d then (k, w) :: t else (a, v) :: (k, w) :: t)
    else if a = k then (if v = d then t else (a, v) :: t)
    else (k, w) :: storeD d t a v

/-- The canonical form: keys strictly rising from a lower bound and below a limit, and no value the default. -/
def canonicalFrom {α : Type} [DecidableEq α] (d : α) (limit : Nat) : Nat → List (Nat × α) → Bool
  | _, [] => true
  | lo, (k, v) :: t => decide (lo ≤ k) && decide (k < limit) && decide (v ≠ d) && canonicalFrom d limit (k + 1) t

/-! ## Bytes of frame memory -/

/-- The byte at an address; an unlisted byte reads zero (R14). -/
def readByte (m : List Host.Cell) (a : Nat) : Byte := lookupD 0 m a

/-- Memory with one byte replaced. -/
def writeByte (m : List Host.Cell) (a : Nat) (b : Byte) : List Host.Cell := storeD 0 m a b

/-- The n bytes from an address, lowest address first. -/
def readBytes (m : List Host.Cell) (a n : Nat) : List Byte := (List.range n).map fun i => readByte m (a + i)

/-- Memory with bytes written from an address on, lowest address first. -/
def writeBytes (m : List Host.Cell) (a : Nat) : List Byte → List Host.Cell
  | [] => m
  | b :: bs => writeBytes (writeByte m a b) (a + 1) bs

/-- The canonical form of frame memory holds: addresses strictly rising inside frame memory, and no zero byte. -/
def Memory.wf (m : List Host.Cell) : Bool := canonicalFrom 0 Config.memoryEnd 0 m

/-- The check state of the beat at an address (section 1.8). -/
def Fmc.mark (f : Fmc) (a : Nat) : CheckState := lookupD .clean f.marks (a / 16)

/-- FMC with the check state of the beat at an address replaced. -/
def Fmc.setMark (f : Fmc) (a : Nat) (c : CheckState) : Fmc := { f with marks := storeD .clean f.marks (a / 16) c }

/-- The canonical form of the check states holds: beats of frame memory, strictly rising, none CLEAN. -/
def Marks.wf (t : List (Nat × CheckState)) : Bool := canonicalFrom .clean (Config.memoryEnd / 16) 0 t

/-- Both canonical forms of FMC's tables. -/
def Fmc.wf (f : Fmc) : Bool := Memory.wf f.cells && Marks.wf f.marks

/-- The bytes of a beat given as one number. -/
def beatBytes (b : Beat) : List Byte := (List.range 16).map fun i => b.extractLsb' (8 * i) 8

/-- The bytes with one bit changed, bit 0 the least significant of the first byte. -/
def flipBit (bytes : List Byte) (bit : Nat) : List Byte :=
  bytes.modify (bit / 8) fun b => b ^^^ (1#8 <<< (bit % 8))

/-! ## Beats and their check codes -/

/-- What moving beats did: FMC afterwards, the beats read, and the addresses of the beats found CORRECTABLE and UNCORRECTABLE. -/
structure Moved where
  fmc : Fmc
  beats : List ReadBeat
  corrected : List Nat
  poisoned : List Nat
deriving DecidableEq, Repr

/-- The read of one beat (R15): CORRECTABLE data is corrected and written back, UNCORRECTABLE data is delivered with poison. -/
def Fmc.readBeat (f : Fmc) (a : Nat) : Moved :=
  let stored := readBytes f.cells a 16
  match f.mark a with
  | .clean => ⟨f, [⟨stored, false⟩], [], []⟩
  | .correctable bit =>
    let good := flipBit stored bit
    ⟨({ f with cells := writeBytes f.cells a good }).setMark a .clean, [⟨good, false⟩], [a], []⟩
  | .uncorrectable => ⟨f, [⟨stored, true⟩], [], [a]⟩

/-- The read of n beats from an address, in ascending order. -/
def Fmc.readBeats (f : Fmc) (a : Nat) : Nat → Moved
  | 0 => ⟨f, [], [], []⟩
  | n + 1 =>
    let one := f.readBeat a
    let rest := one.fmc.readBeats (a + 16) n
    ⟨rest.fmc, one.beats ++ rest.beats, one.corrected ++ rest.corrected, one.poisoned ++ rest.poisoned⟩

/-- The bytes of a merge: the enabled bytes of the new data over the old (R16). -/
def mergeBytes (mask : BitVec 16) (old new : List Byte) : List Byte :=
  (List.range 16).map fun i => if mask.getLsbD i then new.getD i 0 else old.getD i 0

/-- The mask of a full-beat write. -/
def fullMask : BitVec 16 := 0xFFFF

/-- The write of one beat by its mask: full beats whole and CLEAN (R14), partial beats by merge (R16), an empty mask not at all (R6). -/
def Fmc.writeBeat (f : Fmc) (a : Nat) (mask : BitVec 16) (bytes : List Byte) : Moved :=
  if mask = 0 then ⟨f, [], [], []⟩
  else if mask = fullMask then ⟨({ f with cells := writeBytes f.cells a (bytes.take 16) }).setMark a .clean, [], [], []⟩
  else
    let read := f.readBeat a
    let old := (read.beats.map ReadBeat.bytes).flatten
    ⟨{ read.fmc with cells := writeBytes read.fmc.cells a (mergeBytes mask old bytes) }, [], read.corrected, read.poisoned⟩

/-- The write of beats from an address, in ascending order, each with its mask. -/
def Fmc.writeBeats (f : Fmc) (a : Nat) : List (BitVec 16 × List Byte) → Moved
  | [] => ⟨f, [], [], []⟩
  | (mask, bytes) :: rest =>
    let one := f.writeBeat a mask bytes
    let more := one.fmc.writeBeats (a + 16) rest
    ⟨more.fmc, [], one.corrected ++ more.corrected, one.poisoned ++ more.poisoned⟩

/-- Bytes cut into full beats. -/
def fullBeats : Nat → List Byte → List (BitVec 16 × List Byte)
  | 0, _ => []
  | n + 1, bytes => (fullMask, bytes.take 16) :: fullBeats n (bytes.drop 16)

/-- The number of bits set in a beat. -/
def bitCount (b : Beat) : Nat := ((List.range 128).filter fun i => b.getLsbD i).length

/-- The lowest bit set in a beat, 0 when there is none. -/
def lowestBit (b : Beat) : Nat := ((List.range 128).filter fun i => b.getLsbD i).headD 0

/-- The bytes of a beat with the bits of a pattern changed. -/
def flipBits (bytes : List Byte) (flips : Beat) : List Byte :=
  List.zipWith (fun b x => b ^^^ x) bytes (beatBytes flips)

/-- Disturbance of a beat's cells (section 1.8): one changed bit makes a CLEAN beat CORRECTABLE; two or more changed bits in all make it
UNCORRECTABLE, which persists. A disturbance that would leave no bit or another single bit changed is none of these moves (log 6). -/
def Fmc.disturb (f : Fmc) (a : Nat) (flips : Beat) : Fmc :=
  let changed : Fmc := { f with cells := writeBytes f.cells a (flipBits (readBytes f.cells a 16) flips) }
  match f.mark a with
  | .clean =>
    if bitCount flips = 0 then f
    else if bitCount flips = 1 then changed.setMark a (.correctable (lowestBit flips))
    else changed.setMark a .uncorrectable
  | .correctable bit =>
    if 2 ≤ bitCount (flips ^^^ (1#128 <<< bit)) then changed.setMark a .uncorrectable else f
  | .uncorrectable => changed

/-! ## Requests of beats -/

/-- A stretch of beats cut into requests of at most 16 beats that do not cross a page, in ascending address order (R62); the first
argument bounds the number of requests. -/
def cutRequests : Nat → Nat → Nat → List Req
  | 0, _, _ => []
  | fuel + 1, a, beats =>
    if beats = 0 then []
    else
      let k := min (min 16 beats) ((Config.pageBytes - a % Config.pageBytes) / 16)
      ⟨a, k⟩ :: cutRequests fuel (a + 16 * k) (beats - k)

/-! ## Timers -/

/-- The present part time. -/
def now (s : State) : Millis := s.lyu.partTime

/-- A timer started now, to expire a number of ms later. -/
def Timer.start (t : Millis) (ms : Nat) : Timer := .running (t + BitVec.ofNat 32 ms)

/-- An expiry time is reached: it is the present part time or lies behind it (log 2). -/
def reached (t expiry : Millis) : Bool := decide ((t - expiry).toNat < 2 ^ 31)

/-- A running timer whose expiry time is reached. -/
def Timer.due (t : Millis) : Timer → Bool
  | .stopped => false
  | .running expiry => reached t expiry

/-! ## Claims and ports -/

/-- The ring position of a port, 1 to 12 (section 1.9). -/
def Port.position : Port → Nat
  | .host => 1
  | .rqe => 2
  | .lyu => 3
  | .stw => 4
  | .mnu => 5
  | .gdu => 6
  | .denRl => 7
  | .denRr => 8
  | .denC => 9
  | .ccp => 10
  | .aop => 11
  | .chu => 12

/-- The ports in ring order. -/
def Port.ring : List Port := [.host, .rqe, .lyu, .stw, .mnu, .gdu, .denRl, .denRr, .denC, .ccp, .aop, .chu]

/-- The port of a display engine. -/
def scanPort : Panel → Port
  | .rl => .denRl
  | .rr => .denRr
  | .c => .denC

/-- The port a grant was made to. -/
def GrantKind.port : GrantKind → Port
  | .hostTake _ => .host
  | .entryFetch => .rqe
  | .layoutFetch => .lyu
  | .statusSection => .stw
  | .resultWrite => .stw
  | .descriptorFetch => .mnu
  | .guideList => .gdu
  | .lineFetch p => scanPort p
  | .cameraWrite => .ccp
  | .audioBlock => .aop
  | .clipDirectory => .chu
  | .clipBlock => .chu

/-- The owner gives the operation up: a waiting claim is withdrawn, a granted one runs on and its data is discarded (R17, R20). -/
def Claim.giveUp : Claim → Claim
  | .idle => .idle
  | .waiting _ => .idle
  | .granted _ => .granted false

/-- A claim that waits at the arbiter. -/
def Claim.req : Claim → Option Req
  | .waiting r => some r
  | _ => none

/-- A granted claim whose owner still wants it. -/
def Claim.live : Claim → Bool
  | .granted l => l
  | _ => false

/-- The grant in progress ends: FMC is free, and the read data is delivered to whoever takes it (R19). -/
def freeFmc (s : State) : State := { s with fmc := { s.fmc with busy := none } }

/-- Some beat of a grant arrived with the poison indication. -/
def anyPoison (beats : List ReadBeat) : Bool := beats.any ReadBeat.poison

/-- The bytes of the beats of a grant. -/
def beatData (beats : List ReadBeat) : List Byte := (beats.map ReadBeat.bytes).flatten

/-- The address where a page begins. -/
def pageAddress (page : Nat) : Nat := page * Config.pageBytes

/-- The base address of a row, 0 for an absent row. -/
def rowBase : Option Region → Nat
  | none => 0
  | some r => pageAddress r.base

/-- The pages of a row, 0 for an absent row. -/
def rowPages : Option Region → Nat
  | none => 0
  | some r => r.pages

/-- A byte address lies in a row. -/
def inRow (a : Nat) : Option Region → Bool
  | none => false
  | some r => decide (pageAddress r.base ≤ a) && decide (a < pageAddress r.base + pageAddress r.pages)

end Sys2Proof.Machine
end

