-- ==== Sys2Proof/Machine/Operands.lean ====
section
/-! DEFINITION. The record formats the part reads (11_record_formats.md): fields, watched beats, the layout record and its validation
(R26), trailers, page descriptors (R91), guide lists (R137), chime directory entries (R151), request entries, the line check. -/

namespace Sys2Proof.Machine

/-! ## Fields -/

/-- The n-byte little-endian field at an offset. -/
def getField (bytes : List Byte) (off n : Nat) : Nat :=
  ((bytes.drop off).take n).foldr (fun b acc => b.toNat + 256 * acc) 0

/-- A one-byte field. -/
def get8 (bytes : List Byte) (off : Nat) : Nat := getField bytes off 1

/-- A two-byte field. -/
def get16 (bytes : List Byte) (off : Nat) : Nat := getField bytes off 2

/-- A four-byte field. -/
def get32 (bytes : List Byte) (off : Nat) : Nat := getField bytes off 4

/-- A bit of a one-byte field. -/
def getFlag (bytes : List Byte) (off bit : Nat) : Bool := (get8 bytes off).testBit bit

/-- A one-byte field, written. -/
def put8 (n : Nat) : List Byte := [BitVec.ofNat 8 n]

/-- A two-byte field, written. -/
def put16 (n : Nat) : List Byte := [BitVec.ofNat 8 n, BitVec.ofNat 8 (n / 256)]

/-- A four-byte field, written. -/
def put32 (n : Nat) : List Byte := put16 n ++ put16 (n / 65536)

/-! ## Codes -/

/-- A channel code. -/
def channelOfCode : Nat → Option Channel
  | 0 => some .a
  | 1 => some .b
  | _ => none

/-- A panel code. -/
def panelOfCode : Nat → Option Panel
  | 0 => some .rl
  | 1 => some .rr
  | 2 => some .c
  | _ => none

/-- A fill policy code. -/
def policyOfCode : Nat → Option FillPolicy
  | 0 => some .keepAll
  | 1 => some .newest
  | _ => none

/-- A class code. -/
def classOfCode : Nat → Option FaultClass
  | 0 => some .advisory
  | 1 => some .serious
  | 2 => some .critical
  | _ => none

/-- An action code. -/
def actionOfCode : Nat → Option FaultAction
  | 0 => some .quiet
  | 1 => some .signal
  | 2 => some .safe
  | _ => none

/-- A warm reset mode code. -/
def resetModeOfCode : Nat → Option WarmResetMode
  | 0 => some .boundary
  | 1 => some .immediate
  | _ => none

/-- A route set: bit 0 HA, bit 1 HB; the other bits are not read (R177). -/
def routeOfByte (n : Nat) : Route := ⟨n.testBit 0, n.testBit 1⟩

/-! ## The layout record -/

/-- The layout code (11.4). -/
def layoutCode : Nat := 0x4C594F54

/-- The row of the record with a number 0 to 11, as raw base page and pages (11.4). -/
def rawRow (rec : List Byte) (i : Nat) : Region := ⟨get32 rec (0x10 + 8 * i), get32 rec (0x14 + 8 * i)⟩

/-- Check 2 of R26 on one row: the pages each row must have. -/
def rowPagesOk (i pages : Nat) : Bool :=
  if i = 0 ∨ i = 1 then pages == 501
  else if i = 2 ∨ i = 3 then pages == 1503
  else if i = 4 then pages == 1800
  else if i = 5 ∨ i = 9 then decide (1 ≤ pages)
  else if i = 6 then decide (20 ≤ pages)
  else if i = 7 ∨ i = 8 then decide (2 ≤ pages)
  else decide (1 ≤ pages ∧ pages ≤ 64)

/-- Two rows share a page. -/
def rowsOverlap (r q : Region) : Bool := decide (r.base < q.base + q.pages ∧ q.base < r.base + r.pages)

/-- The first row, in record order, that fails a test. -/
def firstRowFailing (ok : Nat → Bool) : Option Nat := (List.range 12).find? fun i => !ok i

/-- No row other than row i shares a page with it (R26 check 4; log 12). -/
def rowClear (rec : List Byte) (i : Nat) : Bool :=
  (List.range 12).all fun j => i == j || !rowsOverlap (rawRow rec i) (rawRow rec j)

/-- The cadence of a zone 1 to 4 (11.4). -/
def rawCadence (rec : List Byte) (zone : Nat) : Cadence :=
  ⟨get16 rec (0xA8 + 2 * (zone - 1)), get16 rec (0xB0 + 2 * (zone - 1))⟩

/-- Check 11 of R26 on one zone. -/
def cadenceOk (c : Cadence) : Bool := decide (20 ≤ c.period ∧ c.period ≤ 2000 ∧ 1 ≤ c.onTime ∧ c.onTime ≤ c.period)

/-- A page id, or NONE (R26 check 6). -/
def pageFieldOk (n : Nat) : Bool := decide (n ≤ 63) || n == 0xFF

/-- A chime map entry is NONE, or has clip 0 to 31 and priority 0 to 7 (R26 check 14). -/
def chimeEntryOk (rec : List Byte) (i : Nat) : Bool :=
  let off := 0xB8 + 4 * i
  get8 rec off == 0xFF || (decide (get8 rec off ≤ 31) && decide (get8 rec (off + 1) ≤ 7))

/-- A failing check of R26: its number and, for a row check, the first row found failing. -/
structure CheckFailure where
  check : Nat
  row : Option Nat
deriving DecidableEq, Repr

/-- Checks 5 to 16 of R26, which name no row: the number of each and whether it passes, in order. -/
def plainChecks (rec : List Byte) : List (Nat × Bool) :=
  [(5, decide (get8 rec 0x70 ≤ 1) && decide (get8 rec 0x71 ≤ 1) && decide (get8 rec 0x72 ≤ 1)),
   (6, pageFieldOk (get8 rec 0x76) && pageFieldOk (get8 rec 0x77)),
   (7, decide (get16 rec 0xA0 ≤ 224) && decide (get16 rec 0xA2 ≤ 672)),
   (8, decide (get8 rec 0x74 ≤ 100)),
   (9, decide (get8 rec 0x78 ≤ 60) && decide (get8 rec 0x79 ≤ 60) && decide (get8 rec 0x7A ≤ 60)),
   (10, decide (1 ≤ get8 rec 0x75 ∧ get8 rec 0x75 ≤ 4) &&
        decide (get8 rec 0xA4 > get8 rec 0xA5 ∧ get8 rec 0xA5 > get8 rec 0xA6 ∧ get8 rec 0xA6 > get8 rec 0xA7 ∧ 1 ≤ get8 rec 0xA7)),
   (11, [1, 2, 3, 4].all fun z => cadenceOk (rawCadence rec z)),
   (12, decide (4 ≤ get8 rec 0x7D ∧ get8 rec 0x7D ≤ 240)),
   (13, decide (get8 rec 0x7B ≤ 16) && decide (get8 rec 0x7C ≤ 16)),
   (14, (List.range 4).all (chimeEntryOk rec)),
   (15, ((List.range 19).all fun k => decide (get8 rec (0xE0 + k) ≤ 2)) && ((List.range 3).all fun k => decide (get8 rec (0xD0 + k) ≤ 2))),
   (16, decide (get8 rec 0x73 ≤ 1))]

/-- The first check of R26 that a record fails, or none for a valid record. -/
def validateLayout (rec : List Byte) : Option CheckFailure :=
  if get32 rec 0 ≠ layoutCode then some ⟨1, none⟩
  else
    match firstRowFailing (fun i => rowPagesOk i (rawRow rec i).pages) with
    | some i => some ⟨2, some i⟩
    | none =>
      match firstRowFailing (fun i => decide ((rawRow rec i).base + (rawRow rec i).pages ≤ Config.anchorPage)) with
      | some i => some ⟨3, some i⟩
      | none =>
        match firstRowFailing (rowClear rec) with
        | some i => some ⟨4, some i⟩
        | none => ((plainChecks rec).find? fun c => !c.2).map fun c => ⟨c.1, none⟩

/-- The colour at an offset: blue, green, red, alpha (11.4). -/
def getColour (bytes : List Byte) (off : Nat) : Colour :=
  ⟨bytes.getD off 0, bytes.getD (off + 1) 0, bytes.getD (off + 2) 0, bytes.getD (off + 3) 0⟩

/-- A page field of the layout record: a page id, or none for NONE. -/
def getPage (rec : List Byte) (off : Nat) : Option Nat := if get8 rec off = 0xFF then none else some (get8 rec off)

/-- An entry of the chime map (11.4). -/
def getMapped (rec : List Byte) (i : Nat) : Option MappedChime :=
  let off := 0xB8 + 4 * i
  if get8 rec off = 0xFF then none
  else some ⟨get8 rec off, get8 rec (off + 1), routeOfByte (get8 rec (off + 2))⟩

/-- The action of a class field (11.4). -/
def getAction (rec : List Byte) (off : Nat) : FaultAction := (actionOfCode (get8 rec off)).getD .quiet

/-- The park settings of a record. -/
def parsePark (rec : List Byte) : ParkSettings :=
  { readoutX := get16 rec 0xA0, readoutY := get16 rec 0xA2, minValid := get8 rec 0x75,
    t1 := get8 rec 0xA4, t2 := get8 rec 0xA5, t3 := get8 rec 0xA6, t4 := get8 rec 0xA7,
    zone1 := rawCadence rec 1, zone2 := rawCadence rec 2, zone3 := rawCadence rec 3, zone4 := rawCadence rec 4 }

/-- The region map of a record, all twelve rows. -/
def parseMap (rec : List Byte) : RegionMap :=
  let row := fun i => some (rawRow rec i)
  { fillA := row 0, fillB := row 1, filmSlotsA := row 2, filmSlotsB := row 3, camera := row 4, menuStore := row 5,
    glyphs := row 6, guide0 := row 7, guide1 := row 8, chimeStore := row 9, audioA := row 10, audioB := row 11 }

/-- The layout a valid record describes (11.4). -/
def parseLayout (rec : List Byte) : Layout :=
  { map := parseMap rec,
    rrSource := (channelOfCode (get8 rec 0x70)).getD .a,
    fillPolicy := ⟨(policyOfCode (get8 rec 0x71)).getD .keepAll, (policyOfCode (get8 rec 0x72)).getD .keepAll⟩,
    background := ⟨getColour rec 0x80, getColour rec 0x84, getColour rec 0x88⟩,
    barColour := getColour rec 0x8C,
    palette := ⟨getColour rec 0x90, getColour rec 0x94, getColour rec 0x98, getColour rec 0x9C⟩,
    servicePage := getPage rec 0x76, cameraLostPage := getPage rec 0x77,
    reverseHold := get8 rec 0x74,
    idleTimeout := ⟨get8 rec 0x78, get8 rec 0x79, get8 rec 0x7A⟩,
    park := some (parsePark rec),
    toneHalfPeriod := get8 rec 0x7D, duckShiftHa := get8 rec 0x7B, duckShiftHb := get8 rec 0x7C,
    chimeMap := ⟨getMapped rec 0, getMapped rec 1, getMapped rec 2, getMapped rec 3⟩,
    severity := (List.range 19).map fun k => (classOfCode (get8 rec (0xE0 + k))).getD .advisory,
    mask := BitVec.ofNat 19 (get32 rec 0xC8), tallySelection := BitVec.ofNat 19 (get32 rec 0xCC),
    action := ⟨getAction rec 0xD0, getAction rec 0xD1, getAction rec 0xD2⟩,
    warmResetMode := (resetModeOfCode (get8 rec 0x73)).getD .boundary }

/-! ## Trailers -/

/-- The trailer code (11.6). -/
def trailerCode : Nat := 0x54524C52

/-- The frame part a trailer describes (R69). -/
def trailerFrame (bytes : List Byte) : Frame :=
  { frameSeq := BitVec.ofNat 32 (get32 bytes 4), presentDelay := get8 bytes 8, secondMark := getFlag bytes 9 0,
    endOfFilm := getFlag bytes 9 1 }

/-- The detail of the first check of R68 that a trailer fails. -/
def trailerFailure (bytes : List Byte) : Option Detail :=
  let seq := BitVec.ofNat 32 (get32 bytes 4)
  if get32 bytes 0 ≠ trailerCode then some (.badMarker seq)
  else if get8 bytes 8 = 0 ∨ 4 < get8 bytes 8 then some (.badDelay (BitVec.ofNat 8 (get8 bytes 8)) seq)
  else none

/-! ## Page descriptors -/

/-- The page code (11.6). -/
def pageCode : Nat := 0x50414745

/-- A panel's width in pixels. -/
def panelWidth : Panel → Nat
  | .rl => 1280
  | .rr => 1280
  | .c => 1920

/-- A panel's height in lines. -/
def panelHeight : Panel → Nat
  | .rl => 800
  | .rr => 800
  | .c => 720

/-- The pages of a plane: 4 × width × height divided by 4096 and rounded up (section 6.1). -/
def planePages (width height : Nat) : Nat := (4 * width * height + 4095) / 4096

/-- The first check of R91 that a descriptor fails on a panel, with a MENU_STORE row of so many pages. Check 5 is made of every fetched
descriptor, also of a notice page's, whose READOUT R103 leaves unread when the page is drawn: the model's choice (log 38). -/
def descriptorFailure (beats : List ReadBeat) (panel : Panel) (storePages : Nat) : Option Nat :=
  let d := beatData beats
  let width := get16 d 8
  let height := get16 d 10
  if anyPoison beats then some 0
  else if get32 d 0 ≠ pageCode then some 1
  else if width = 0 ∨ panelWidth panel < width ∨ height = 0 ∨ panelHeight panel < height then some 2
  else if panelWidth panel < get16 d 12 + width ∨ panelHeight panel < get16 d 14 + height then some 3
  else if get32 d 4 = 0 ∨ storePages < get32 d 4 + planePages width height then some 4
  else if getFlag d 16 2 ∧ (1 < get8 d 17 ∨ width < get16 d 18 + 224 ∨ height < get16 d 20 + 48) then some 5
  else none

/-- The descriptor in an entry of the menu directory (11.6). -/
def parseDescriptor (d : List Byte) : Descriptor :=
  { planeOffset := get32 d 4, width := get16 d 8, height := get16 d 10, x := get16 d 12, y := get16 d 14,
    reverseOk := getFlag d 16 0, opaquePage := getFlag d 16 1,
    readout := if getFlag d 16 2 then some ((channelOfCode (get8 d 17)).getD .a, get16 d 18, get16 d 20) else none }

/-! ## Guide lists -/

/-- The most segments a list may use (R137 check 1). -/
def GuideList.limit : GuideList → Nat
  | .static => 16
  | .bucket _ => 12

/-- The beats of a list: a header and its segment beats (8.3). -/
def GuideList.beats : GuideList → Nat
  | .static => 17
  | .bucket _ => 13

/-- The offset of a list from its bank's base (8.3). -/
def GuideList.offset : GuideList → Nat
  | .static => 0
  | .bucket k => 0x200 + 208 * k

/-- The segment in a segment beat (11.6). -/
def parseSegment (b : List Byte) : Segment :=
  ⟨get16 b 0, get16 b 2, get16 b 4, get16 b 6, get8 b 8, get8 b 9⟩

/-- The first of checks 2 to 4 of R137 that a segment fails. -/
def segmentFailure (g : Segment) : Option Nat :=
  if 1279 < g.x0 ∨ 1279 < g.x1 ∨ 719 < g.y0 ∨ 719 < g.y1 then some 2
  else if g.width = 0 ∨ 8 < g.width then some 3
  else if 3 < g.colour then some 4
  else none

/-- The first segment, in list order, that fails a check, with its place counted from 0 (log 11). -/
def firstBadSegment (place : Nat) : List Segment → Option (Nat × Nat)
  | [] => none
  | g :: rest =>
    match segmentFailure g with
    | some check => some (check, place)
    | none => firstBadSegment (place + 1) rest

/-- A judged guide list (R137): its segments, or the failing check with the segment's place. -/
inductive GuideVerdict where
  | valid (segments : List Segment)
  | invalid (check : Nat) (segment : Option Nat)
deriving DecidableEq, Repr

/-- The judgement of a fetched list (R137). -/
def judgeGuideList (list : GuideList) (beats : List ReadBeat) : GuideVerdict :=
  let header := beats.headD ⟨[], false⟩
  let count := get16 header.bytes 0
  let used := (beats.drop 1).take count
  if header.poison || anyPoison used then .invalid 0 none
  else if list.limit < count then .invalid 1 none
  else
    let segments := used.map fun b => parseSegment b.bytes
    match firstBadSegment 0 segments with
    | some (check, place) => .invalid check (some place)
    | none => .valid segments

/-! ## Chime directory entries -/

/-- The first check of R151 that a directory entry fails, with a CHIME_STORE row of so many pages. -/
def clipEntryFailure (beats : List ReadBeat) (storePages : Nat) : Option Nat :=
  let d := beatData beats
  if anyPoison beats then some 0
  else if get32 d 0 = 0 then some 1
  else if get16 d 4 = 0 ∨ 4095 < get16 d 4 then some 2
  else if 15 < get8 d 6 then some 3
  else if 8 * storePages < get32 d 0 + get16 d 4 then some 4
  else none

/-- The directory entry in a beat (11.6), judged against a CHIME_STORE row at this base. -/
def parseClipEntry (base : Nat) (d : List Byte) : ClipEntry := ⟨base, get32 d 0, get16 d 4, get8 d 6⟩

/-! ## Watched beats -/

/-- The producer field of a producer beat (11.2). -/
def producerOf (b : List Byte) : Count := BitVec.ofNat 16 (get16 b 0)

/-- The angle of a steering beat: signed tenths of a degree (11.2). -/
def angleOf (b : List Byte) : Int := (BitVec.ofNat 16 (get16 b 2)).toInt

/-- The distance record in a distance beat (11.2). -/
def parseDistance (b : List Byte) : Distance :=
  ⟨BitVec.ofNat 16 (get16 b 0), BitVec.ofNat 4 (get8 b 2), get8 b 3, get8 b 4, get8 b 5, get8 b 6⟩

/-! ## The line check -/

/-- One step of the line check's register (11.3): one bit, least significant first. -/
def crcBit (r : BitVec 32) : BitVec 32 :=
  if r.getLsbD 0 then (r >>> 1) ^^^ 0xEDB88320#32 else r >>> 1

/-- The register after one data byte. -/
def crcByte (r : BitVec 32) (b : Byte) : BitVec 32 :=
  crcBit (crcBit (crcBit (crcBit (crcBit (crcBit (crcBit (crcBit (r ^^^ b.setWidth 32))))))))

/-- The line check of data bytes in order (11.3). -/
def lineCheck (data : List Byte) : BitVec 32 := ~~~ (data.foldl crcByte 0xFFFFFFFF#32)

/-- A line has a good check: 2560 data bytes, and codes that agree (section 7.4). -/
def goodCheck (data : List Byte) (check : BitVec 32) : Bool := data.length == 2560 && lineCheck data == check

/-! ## Samples -/

/-- The signed sample at an offset. -/
def sampleAt (bytes : List Byte) (off : Nat) : Sample := BitVec.ofNat 16 (get16 bytes off)

end Sys2Proof.Machine
end

