-- ==== Sys2Proof/Machine/Flags.lean ====
section
/-! DEFINITION. The flags: the dirty set of the status writer with its claim (R36, R37), the attention cause set and ATTN (R172), the
codes of kinds, classes and causes, and the result an entry is given (R46). -/

namespace Sys2Proof.Machine

/-! ## The dirty set and the status writer's claim -/

/-- The dirty set with a section in it. -/
def DirtySet.mark (d : DirtySet) : StatusSection → DirtySet
  | .s0 => { d with s0 := true }
  | .s1 => { d with s1 := true }
  | .s2 => { d with s2 := true }
  | .s3 => { d with s3 := true }
  | .s4 => { d with s4 := true }
  | .s5 => { d with s5 := true }
  | .s6 => { d with s6 := true }
  | .s7 => { d with s7 := true }

/-- The dirty set without a section. -/
def DirtySet.clear (d : DirtySet) : StatusSection → DirtySet
  | .s0 => { d with s0 := false }
  | .s1 => { d with s1 := false }
  | .s2 => { d with s2 := false }
  | .s3 => { d with s3 := false }
  | .s4 => { d with s4 := false }
  | .s5 => { d with s5 := false }
  | .s6 => { d with s6 := false }
  | .s7 => { d with s7 := false }

/-- A section is in the dirty set. -/
def DirtySet.has (d : DirtySet) : StatusSection → Bool
  | .s0 => d.s0
  | .s1 => d.s1
  | .s2 => d.s2
  | .s3 => d.s3
  | .s4 => d.s4
  | .s5 => d.s5
  | .s6 => d.s6
  | .s7 => d.s7

/-- The lowest-numbered dirty section. -/
def DirtySet.lowest (d : DirtySet) : Option StatusSection :=
  [StatusSection.s0, .s1, .s2, .s3, .s4, .s5, .s6, .s7].find? d.has

/-- With no claim raised, STW raises its claim for a result in hand, or else for the lowest dirty section (R36, R37). -/
def Stw.raise (w : Stw) : Stw :=
  match w.claim with
  | .idle =>
    match w.result with
    | some _ => { w with claim := .resultWaiting }
    | none =>
      match w.dirty.lowest with
      | some k => { w with claim := .sectionWaiting k }
      | none => w
  | _ => w

/-- A block marks a section dirty, and an STW with nothing to do claims for it at once (R36). In an event that marks several sections the
claim is therefore for the first one marked and not for the lowest one dirty when the event ends: the model's choice (log 42). -/
def markDirty (k : StatusSection) (s : State) : State :=
  { s with stw := { s.stw with dirty := s.stw.dirty.mark k }.raise }

/-- RQE hands STW a result, which is written ahead of any section whose claim is not granted (R37). -/
def Stw.take (w : Stw) (r : ResultWrite) : Stw :=
  match w.claim with
  | .idle | .sectionWaiting _ => { w with result := some r, claim := .resultWaiting }
  | _ => { w with result := some r }

/-- The result of the entry in execution is known: it goes to STW and the entry enters WRITING_RESULT (R46). -/
def giveResult (code : ResultCode) (s : State) : State :=
  match s.rqe.entry with
  | none => s
  | some e =>
    { s with
      rqe := { s.rqe with entry := some { e with phase := .writingResult } }
      stw := s.stw.take ⟨e.index.toNat % 32, code⟩ }

/-! ## Codes of faults -/

/-- The code of a fault kind (Record Formats). -/
def FaultKind.code : FaultKind → Nat
  | .hostRequestInvalid => 0
  | .writeRefused => 1
  | .fillOverrun => 2
  | .trailerInvalid => 3
  | .filmStarved => 4
  | .audioUnderrun => 5
  | .memCorrected => 6
  | .memUncorrectable => 7
  | .scanUnderflow => 8
  | .cameraLineError => 9
  | .cameraLost => 10
  | .steerStale => 11
  | .sensorFault => 12
  | .guideInvalid => 13
  | .menuPageInvalid => 14
  | .chimeUnderrun => 15
  | .clipInvalid => 16
  | .requestInvalid => 17
  | .layoutInvalid => 18

/-- A kind is in a kind set. -/
def kindIn (set : BitVec 19) (k : FaultKind) : Bool := set.getLsbD k.code

/-- A kind set with a kind joined. -/
def kindJoin (set : BitVec 19) (k : FaultKind) : BitVec 19 := set ||| (1#19 <<< k.code)

/-! ## Attention -/

/-- The bit of an attention cause (Record Formats). -/
def Cause.bit : Cause → Nat
  | .fault => 0
  | .filmEndedA => 1
  | .filmEndedB => 2
  | .reverseChanged => 3
  | .layoutApplied => 4
  | .resetDone => 5

/-- The attention cause set with a cause in it. -/
def causeJoin (set : BitVec 6) (c : Cause) : BitVec 6 := set ||| (1#6 <<< c.bit)

/-- The attention cause set replaced; S0 is marked dirty when it changes (R172, R173). -/
def setCauses (set : BitVec 6) (s : State) : State :=
  if s.flt.causes = set then s else markDirty .s0 { s with flt := { s.flt with causes := set } }

/-- A block raises an attention cause (R172). -/
def raiseCause (c : Cause) (s : State) : State := setCauses (causeJoin s.flt.causes c) s

/-- The ATTN output: asserted while the attention cause set is non-empty (R172). -/
def State.attn (s : State) : Level := if s.flt.causes = 0 then .low else .high

end Sys2Proof.Machine
end

