-- ==== Sys2Proof/Machine/Chimes.lean ====
section
/-! DEFINITION. The chime unit's own operations (chapter 9): the chime queue (R147), the clip voice and its fetches (R151 to R154), the
tone voice (R155, R156), chime events (R149) and view notices (R115). -/

namespace Sys2Proof.Machine

/-! ## What S5 shows -/

/-- The fields of CHU that S5 mirrors (R162). -/
structure ChuShown where
  queue : List Chime
  voiceState : VoiceState
  voice : Chime
  position : Nat
  pendingStop : Bool
  sounding : Bool
  cadence : Cadence
  pending : TonePending
  dropped : Count
deriving DecidableEq, Repr

/-- What S5 shows of CHU (R162): of the queue's entries all but the arrival stamps, and of the voice's chime neither the requeue flag nor the
origin, so that a merge that changes only the requeue flag marks nothing (log 32). -/
def Chu.shown (c : Chu) : ChuShown :=
  { queue := c.queue.map fun q => { q with arrival := 0 }, voiceState := c.voice.state,
    voice := { c.voice.chime with arrival := 0, requeue := false, origin := .requested }, position := c.voice.position,
    pendingStop := c.voice.pendingStop, sounding := c.tone.sounding, cadence := c.tone.cadence, pending := c.tone.pending, dropped := c.dropped }

/-- CHU's state replaced; S5 is marked dirty when a field it mirrors changes (R162). -/
def setChu (c : Chu) (s : State) : State :=
  if c.shown = s.chu.shown then { s with chu := c } else markDirty .s5 { s with chu := c }

/-! ## The clip voice's fetches -/

/-- What the clip voice needs fetched next (R151, R152). -/
def Voice.need (v : Voice) : Option ClipTarget :=
  match v.state, v.entry with
  | .idle, _ => none
  | .starting, none => some .directory
  | .starting, some e =>
    if v.current.isNone then some (.block 0) else if 1 < e.length ∧ v.next.isNone then some (.block 1) else none
  | .playing, none => none
  | .playing, some e =>
    if v.next.isSome then none
    else if v.position + 1 < e.length then some (.block (v.position + 1))
    else if v.chime.plays = 1 then none
    else some (.block 0)

/-- The address of a block of the clip (R151). Its base is that of the CHIME_STORE row the entry was judged against, so that a layout applied
while the voice still holds the clip does not move it; at which event a block claim reads the base is the model's choice (log 40). -/
def ClipEntry.blockAddress (e : ClipEntry) (j : Nat) : Nat := e.base + 512 * (e.offset + j)

/-- The request of a fetch's next grant: the directory entry, or one of the two requests of 16 beats of a block (R151). A block is fetched
only with a directory entry. -/
def clipRequest (store : Option Region) (v : Voice) (f : ClipFetch) : Req :=
  match f.target, v.entry with
  | .directory, _ => ⟨rowBase store + 16 * v.chime.clip, 1⟩
  | .block j, some e => ⟨e.blockAddress j + 256 * f.grants, 16⟩
  | .block _, none => ⟨rowBase store, 16⟩

/-- CHU raises its next claim when its port is free: the rest of the fetch in flight, or the fetch the voice needs (R151, R152). -/
def Chu.kick (store : Option Region) (c : Chu) : Chu :=
  match c.claim, c.fetch with
  | .idle, some f => { c with claim := .waiting (clipRequest store c.voice f) }
  | .idle, none =>
    match c.voice.need with
    | none => c
    | some target =>
      let f : ClipFetch := ⟨target, false, 0, []⟩
      { c with fetch := some f, claim := .waiting (clipRequest store c.voice f) }
  | _, _ => c

/-- The voice's fetch is given up: a waiting claim is withdrawn, a granted one completes and its data is discarded (R153). -/
def Chu.giveUpFetch (c : Chu) : Chu :=
  match c.claim with
  | .granted _ => { c with fetch := c.fetch.map fun f => { f with givenUp := true }, claim := .granted false }
  | _ => { c with fetch := none, claim := .idle }

/-- The voice becomes IDLE with its clip abandoned (R153). -/
def Chu.silenceVoice (c : Chu) : Chu := { c.giveUpFetch with voice := Voice.blank c.voice.underrun }

/-- The voice take: an IDLE voice takes the queue's head, unless CHU is draining or held (R151, R163). -/
def Chu.voiceTake (c : Chu) : Chu :=
  match c.voice.state, c.drain, c.held, c.queue with
  | .idle, .none, false, head :: rest =>
    { c with queue := rest, voice := { Voice.blank c.voice.underrun with state := .starting, chime := head } }
  | _, _, _, _ => c

/-! ## The chime queue -/

/-- A chime stands before another in the queue: higher priority, or equal priority and earlier arrival (R147). -/
def Chime.before (p q : Chime) : Bool :=
  decide (q.priority < p.priority) || (decide (p.priority = q.priority) && decide (p.arrival < q.arrival))

/-- A chime placed in the queue by priority and arrival (R147). -/
def placeChime (n : Chime) : List Chime → List Chime
  | [] => [n]
  | q :: rest => if n.before q then n :: q :: rest else q :: placeChime n rest

/-- The union of two routes. -/
def Route.join (p q : Route) : Route := ⟨p.ha || q.ha, p.hb || q.hb⟩

/-- The clip voice holds a clip: it is STARTING or PLAYING it. -/
def Voice.holds (v : Voice) (clip : Nat) : Bool := decide (v.state ≠ .idle) && v.chime.clip == clip

/-- A chime for the clip on the voice merges into the voice and withdraws a pending stop (R147). -/
def Voice.merge (v : Voice) (n : Chime) : Voice :=
  { v with
    chime := { v.chime with priority := max v.chime.priority n.priority, plays := n.plays, requeue := v.chime.requeue || n.requeue }
    nextRoute := v.nextRoute.join n.route
    pendingStop := false }

/-- A chime for a queued clip merges into its entry, which keeps its origin and arrival (R147). -/
def Chime.merge (q n : Chime) : Chime :=
  { q with priority := max q.priority n.priority, plays := n.plays, route := q.route.join n.route, requeue := q.requeue || n.requeue }

/-- The stamps in use: those of the queue entries and of the clip voice (R147). -/
def Chu.stamps (c : Chu) : List Nat :=
  c.queue.map Chime.arrival ++ (if c.voice.state = .idle then [] else [c.voice.chime.arrival])

/-- The rank of a stamp in the present arrival order, from 0 upward. -/
def rankOf (stamps : List Nat) (a : Nat) : Nat := (stamps.filter (· < a)).length

/-- The stamps renumbered from 0 upward in their present order (R147). -/
def Chu.renumber (c : Chu) : Chu :=
  let stamps := c.stamps
  { c with
    queue := c.queue.map fun q => { q with arrival := rankOf stamps q.arrival }
    voice := { c.voice with chime := { c.voice.chime with arrival := rankOf stamps c.voice.chime.arrival } }
    arrivals := stamps.length }

/-- A fresh arrival: the next value of the arrival count, after renumbering when it would exceed 65535 (R147). -/
def Chu.freshArrival (c : Chu) : Nat × Chu :=
  let c' := if 65535 < c.arrivals then c.renumber else c
  (c'.arrivals, { c' with arrivals := c'.arrivals + 1 })

/-- The new chime with the arrival it keeps, or else with a fresh one, placed in the queue. -/
def Chu.place (c : Chu) (n : Chime) (keep : Bool) : Chu :=
  if keep then { c with queue := placeChime n c.queue }
  else
    let (stamp, c') := c.freshArrival
    { c' with queue := placeChime { n with arrival := stamp } c'.queue }

/-- The insertion rule (R147) up to its voice take: whether the chime was accepted, and CHU afterwards. A requeued chime keeps its
arrival (R154). -/
def Chu.insert (c : Chu) (n : Chime) (keep : Bool) : Bool × Chu :=
  if c.voice.holds n.clip then (true, { c with voice := c.voice.merge n })
  else
    match c.queue.find? (fun q => q.clip == n.clip) with
    | some q => (true, { c with queue := placeChime (q.merge n) (c.queue.filter fun e => !(e.clip == n.clip)) })
    | none =>
      if c.queue.length < 8 then (true, c.place n keep)
      else
        match c.queue.getLast? with
        | some last =>
          if last.priority < n.priority then
            (true, { c with queue := c.queue.dropLast, dropped := c.dropped + 1 }.place n keep)
          else (false, c)
        | none => (false, c)

/-- A part-originated or requeued chime goes through the insertion rule; a refusal is counted (R147, R149, R154). -/
def Chu.insertCounted (c : Chu) (n : Chime) (keep : Bool) : Chu :=
  match c.insert n keep with
  | (true, c') => c'
  | (false, c') => { c' with dropped := c'.dropped + 1 }

/-- The CHIME_STORE row of the committed layout. -/
def chimeStore (s : State) : Option Region := s.lyu.committed.map.chimeStore

/-- CHU after an insertion: the voice take follows in the same event, and the claim of what the voice needs (R147, R151, R152). -/
def settleChu (c : Chu) (s : State) : State := setChu (c.voiceTake.kick (chimeStore s)) s

/-- The mapped chime of an event in a chime map (R149). -/
def ChimeMap.lookup (m : ChimeMap) : ChimeEvent → Option MappedChime
  | .reverseEngaged => m.reverseEngaged
  | .cameraLost => m.cameraLost
  | .sensorFault => m.sensorFault
  | .faultCritical => m.faultCritical

/-- The chime of a mapped event (R149): repeat 1, requeue set, the event as its origin. -/
def eventChime (m : MappedChime) (e : ChimeEvent) : Chime := ⟨m.clip, m.priority, 1, m.route, true, .event e, 0⟩

/-- CHU takes a part-originated chime event (R149). -/
def chimeEvent (e : ChimeEvent) (s : State) : State :=
  if s.chu.held then s
  else
    match s.lyu.committed.chimeMap.lookup e with
    | none => s
    | some m => settleChu (s.chu.insertCounted (eventChime m e) false) s

/-- CHIME_STOP(all), and what a layout apply does to the queue and the voice (R150, R29). -/
def Chu.stopAll (c : Chu) : Chu :=
  { c with queue := [], voice := if c.voice.state = .idle then c.voice else { c.voice with pendingStop := true } }

/-- CHIME_STOP(clip) (R150). -/
def Chu.stopClip (c : Chu) (clip : Nat) : Chu :=
  { c with
    queue := c.queue.filter fun e => !(e.clip == clip)
    voice := if c.voice.holds clip then { c.voice with pendingStop := true } else c.voice }

/-! ## The tone voice -/

/-- The notices PDU hands the tone voice (R142). -/
inductive CadenceNotice where
  | zone (c : Cadence)
  | stop
  | halt
deriving DecidableEq, Repr

/-- The tone voice halts at once (R155). -/
def Tone.halt (t : Tone) : Tone :=
  if t.sounding then { t with sounding := false, pending := .none, counter := 0, wrapDue := false } else t

/-- The tone voice takes a cadence notice (R155). -/
def Tone.take (t : Tone) : CadenceNotice → Tone
  | .zone c =>
    if t.sounding then { t with pending := .cadence c }
    else { t with sounding := true, cadence := c, counter := 0, pending := .none, beepStarted := true, wrapDue := false }
  | .stop => if t.sounding then { t with pending := .stop } else t
  | .halt => t.halt

/-- The wrap of the counter: a pending cadence is loaded, a pending STOP makes the voice SILENT (R155). That pending becomes NONE also when a
STOP is obeyed is the model's choice (log 44). -/
def Tone.wrap (t : Tone) : Tone :=
  let w := { t with counter := 0, beepStarted := true, wrapDue := false }
  match t.pending with
  | .none => w
  | .cadence c => { w with cadence := c, pending := .none }
  | .stop => { w with sounding := false, pending := .none }

/-- One tick of part time while SOUNDING: the counter rises by one; when it would reach the period its wrap is due. A wrap still due
from an earlier tick comes first (log 16). -/
def Tone.tick (t : Tone) : Tone :=
  if t.sounding then
    let u := if t.wrapDue then t.wrap else t
    if u.sounding then
      if u.counter + 1 < u.cadence.period then { u with counter := u.counter + 1 } else { u with wrapDue := true }
    else u
  else t

/-- CHU takes a cadence notice; a held CHU discards it (R155, R163). -/
def cadenceNotice (n : CadenceNotice) (s : State) : State :=
  if s.chu.held then s else setChu { s.chu with tone := s.chu.tone.take n } s

/-- CHU takes a view notice that leaves ENGAGED: the tone voice acts as on a halt (R115, R155). -/
def chuViewNotice (before after : View) (s : State) : State :=
  if before = .engaged ∧ after ≠ .engaged then setChu { s.chu with tone := s.chu.tone.halt } s else s

/-- The tone sounds in the block that begins (R156). -/
def Tone.audible (t : Tone) : Bool := t.sounding && (decide (t.counter < t.cadence.onTime) || t.beepStarted)

/-- The tone voice after a block boundary: beep_started is no, and phase counts on through an audible block or restarts (R156).
Phase is kept modulo the wave of the half period committed at that block. That a later block under another half period goes on from the same
number is the model's choice (log 46). -/
def Tone.settle (t : Tone) (halfPeriod : Nat) : Tone :=
  { t with beepStarted := false, phase := if t.audible then (t.phase + 256) % (2 * halfPeriod) else 0 }

/-- The tone sample of sample frame i of the block that begins (R156), from the phase as it stands, also where another half period is committed
by now (log 46). -/
def Tone.sample (t : Tone) (halfPeriod i : Nat) : Int :=
  if t.audible then (if (t.phase + i) % (2 * halfPeriod) < halfPeriod then 8192 else -8192) else 0

/-! ## The clip voice at a block boundary -/

/-- The queue's head preempts the voice (R154). -/
def Chu.preempts (c : Chu) : Bool :=
  match c.queue with
  | [] => false
  | head :: _ => decide (c.voice.state ≠ .idle) && !c.voice.pendingStop && decide (c.voice.chime.priority < head.priority)

/-- The preemption (R154): the clip is abandoned and requeued or dropped, then the head goes to the voice. -/
def Chu.preempt (c : Chu) : Chu :=
  let old := { c.voice.chime with route := c.voice.chime.route.join c.voice.nextRoute }
  let quiet := c.silenceVoice
  (if old.requeue then quiet.insertCounted old true else { quiet with dropped := quiet.dropped + 1 }).voiceTake

/-- The voice's next route joins its route (R152, R153). -/
def Voice.joinRoute (v : Voice) : Voice :=
  { v with chime := { v.chime with route := v.chime.route.join v.nextRoute }, nextRoute := Route.empty }

/-- The voice plays the block at a position: the buffered next block if it is that block, or silence for a late one, whose fetch is
given up; the detail is that of a report that is due (R153). -/
def Chu.playAt (c : Chu) (position : Nat) : Chu × Option Detail :=
  let v := { c.voice with position := position }
  let onTime := match v.next with
    | some b => decide (b.position = position)
    | none => false
  if onTime then ({ c with voice := { v with current := v.next, next := none, underrun := false } }, none)
  else
    ({ c.giveUpFetch with voice := { v with current := none, next := none, underrun := true } },
      if v.underrun then none else some (.lateClip v.chime.clip position))

/-- A voice that was PLAYING before the boundary acts (R153). -/
def Chu.advance (c : Chu) : Chu × Option Detail :=
  let v := c.voice.joinRoute
  let c' := { c with voice := v }
  let length := (v.entry.map ClipEntry.length).getD 0
  if v.pendingStop then (c'.silenceVoice.voiceTake, none)
  else if length ≤ v.position + 1 then
    if v.chime.plays = 1 then (c'.silenceVoice.voiceTake, none)
    else
      { c' with voice := { v with chime := { v.chime with plays := v.chime.plays - 1 } } }.playAt 0
  else c'.playAt (v.position + 1)

/-- The clip voice at a block boundary: the end of a drain (R163), preemption (R154), the start of playing (R152), or R153. -/
def Chu.settleVoice (c : Chu) : Chu × Option Detail :=
  if c.drain = .draining then
    ({ c.silenceVoice with drain := .drained }, none)
  else if c.preempts then (c.preempt, none)
  else
    match c.voice.state with
    | .idle => (c, none)
    | .starting =>
      if c.voice.pendingStop then (c.silenceVoice.voiceTake, none)
      else if c.voice.current.isSome then
        ({ c with voice := { c.voice.joinRoute with state := .playing, position := 0, underrun := false } }, none)
      else (c, none)
    | .playing => c.advance

/-- The duck demand of the block that begins (R160). -/
def Voice.duckDemand (v : Voice) : Route := if v.state = .playing then v.chime.route else Route.empty

/-- The clip sample of sample frame i of the block that begins: silence for a late or a poisoned block (R152, R153, R161). -/
def Voice.sample (v : Voice) (i : Nat) : Int :=
  match v.state, v.current with
  | .playing, some b =>
    if b.poison then 0 else ((sampleAt b.data (2 * i)).sshiftRight ((v.entry.map ClipEntry.gainShift).getD 0)).toInt
  | _, _ => 0

end Sys2Proof.Machine
end

