-- ==== Sys2Proof/Machine/Film.lean ====
section
/-! DEFINITION. The film sequencer's own operations on one channel record (chapter 5): the fill slot (R67, R70), trailers (R69),
presentation (R72 to R76), scan holds (R77), the film requests' effects (R80 to R83), the elapsed counter (R84), DEGRADED (R85) and
warm reset (R89). -/

namespace Sys2Proof.Machine

/-- The status section of a channel (section 2.1). -/
def channelSection : Channel → StatusSection
  | .a => .s1
  | .b => .s2

/-- The fault source of a channel. -/
def channelSource : Channel → FaultSource
  | .a => .filmA
  | .b => .filmB

/-- A channel's record replaced; its status section is marked dirty when the record changes (R87). -/
def setChannel (x : Channel) (r : FilmChannel) (s : State) : State :=
  if s.fsq.get x = r then s else markDirty (channelSection x) { s with fsq := s.fsq.set x r }

/-! ## Slots -/

/-- The index of the SHOWN slot, if any. -/
def FilmChannel.shown (r : FilmChannel) : Option (Fin 3) := r.slots.lowest fun t => decide (t.state = .shown)

/-- The index of the lowest FREE slot, if any. -/
def FilmChannel.lowestFree (r : FilmChannel) : Option (Fin 3) := r.slots.lowest fun t => decide (t.state = .free)

/-- The record with one slot replaced. -/
def FilmChannel.setSlot (r : FilmChannel) (i : Fin 3) (t : Slot) : FilmChannel := { r with slots := r.slots.set i t }

/-- A slot becomes FILLING and the fill slot; it holds no frame (section 5.1). -/
def FilmChannel.fillWith (r : FilmChannel) (i : Fin 3) : FilmChannel :=
  { r with slots := r.slots.set i { r.slots.get i with state := .filling, frame := none }, fill := some i }

/-- The standing choice of the fill slot, at the close of every event that touches the channel (R67). -/
def FilmChannel.standing (r : FilmChannel) : FilmChannel :=
  if r.state ≠ .idle ∧ r.fill = none ∧ r.queue.length < 2 then
    match r.lowestFree with
    | some i => r.fillWith i
    | none => r
  else r

/-- The choice of the fill slot after a trailer (R70). -/
def FilmChannel.chooseFill (r : FilmChannel) (policy : FillPolicy) : FilmChannel :=
  match r.queue, r.lowestFree with
  | [], some i => r.fillWith i
  | [_], some i => r.fillWith i
  | head :: rest@(_ :: _), _ =>
    match policy with
    | .newest => { { r with queue := rest }.fillWith head with dropped := r.dropped + 1 }
    | .keepAll => r
  | _, none => r

/-- A valid trailer closes the fill slot i (R69, R70). -/
def FilmChannel.closeFrame (r : FilmChannel) (i : Fin 3) (f : Frame) (policy : FillPolicy) : FilmChannel :=
  ({ r with
      slots := r.slots.set i { r.slots.get i with state := .ready, frame := some f }
      queue := r.queue ++ [i]
      fill := none }.chooseFill policy).standing

/-! ## The elapsed counter -/

/-- One second more, carried in decimal; one second past 9:59:59 gives 0:00:00 (R84). -/
def Elapsed.next (e : Elapsed) : Elapsed :=
  if e.seconds < 59 then { e with seconds := e.seconds + 1 }
  else if e.minutes < 59 then { e with minutes := e.minutes + 1, seconds := 0 }
  else if e.hours < 9 then ⟨e.hours + 1, 0, 0⟩
  else ⟨0, 0, 0⟩

/-- The advance past 9:59:59 (R84). -/
def Elapsed.last (e : Elapsed) : Bool := decide (9 ≤ e.hours ∧ 59 ≤ e.minutes ∧ 59 ≤ e.seconds)

/-- The elapsed counter advances by one second; wrap is set past 9:59:59 (R84). -/
def FilmChannel.tickSecond (r : FilmChannel) : FilmChannel :=
  { r with elapsed := r.elapsed.next, wrap := r.wrap || r.elapsed.last }

/-! ## Presentation -/

/-- The slot that was SHOWN becomes RETIRED if it is scanned, and FREE without its frame if it is not (R72 step 3). -/
def Slot.retire (t : Slot) : Slot :=
  if t.scanHolds = 0 then { t with state := .free, frame := none } else { t with state := .retired }

/-- The head of the ready queue is presented (R72 steps 1 to 6). -/
def FilmChannel.present (r : FilmChannel) (head : Fin 3) (rest : List (Fin 3)) : FilmChannel :=
  let retired := match r.shown with
    | some i => r.slots.set i (r.slots.get i).retire
    | none => r.slots
  let slot := retired.get head
  let delay := (slot.frame.map Frame.presentDelay).getD 0
  let mark := (slot.frame.map Frame.secondMark).getD false
  let q := { r with
    queue := rest
    slots := retired.set head { slot with state := .shown }
    holdCount := delay
    starveRun := 0
    presented := r.presented + 1 }
  if mark then q.tickSecond else q

/-- What a presentation step hands other blocks: a starved report's frame_seq, or the film's end. -/
inductive Presented where
  | quietly
  | starved (frameSeq : BitVec 32)
  | filmEnded
deriving DecidableEq, Repr

/-- The SHOWN frame, if any. -/
def FilmChannel.shownFrame (r : FilmChannel) : Option Frame := r.shown.bind fun i => (r.slots.get i).frame

/-- The presentation step with the hold run out and nothing waiting: the film ends, or the frame is repeated (R73, R74). -/
def FilmChannel.runOut (r : FilmChannel) : FilmChannel × Presented :=
  if (r.shownFrame.map Frame.endOfFilm).getD false then ({ r with state := .ended, holdCount := 0 }, .filmEnded)
  else
    let run := min 255 (r.starveRun + 1)
    ({ r with holdCount := 1, repeated := r.repeated + 1, starveRun := run },
      if r.starveRun < 8 ∧ run = 8 then .starved ((r.shownFrame.map Frame.frameSeq).getD 0) else .quietly)

/-- The presentation step of a channel at a refresh start of its panel (R71 step 1, R72 to R76). -/
def FilmChannel.presentationStep (r : FilmChannel) : FilmChannel × Presented :=
  match r.state with
  | .playing =>
    let hold := r.holdCount - 1
    if 0 < hold then ({ r with holdCount := hold }, .quietly)
    else
      match r.queue with
      | head :: rest => (r.present head rest, .quietly)
      | [] => { r with holdCount := 0 }.runOut
  | .priming =>
    match r.queue with
    | head :: rest => ({ r.present head rest with state := .playing }, .quietly)
    | [] => (r, .quietly)
  | .paused | .ended | .idle => (r, .quietly)

/-! ## Scan holds -/

/-- A hold is released on a slot; a RETIRED slot whose last hold goes becomes FREE (R77). -/
def Slot.release (t : Slot) : Slot :=
  let holds := t.scanHolds - 1
  if t.state = .retired ∧ holds = 0 then { t with scanHolds := 0, state := .free, frame := none } else { t with scanHolds := holds }

/-- The release of a hold record, on the channel it names (R77). -/
def releaseHold (h : Hold) (fsq : PerChannel FilmChannel) : PerChannel FilmChannel :=
  let r := fsq.get h.channel
  fsq.set h.channel (r.setSlot h.slot (r.slots.get h.slot).release)

/-- The take of a hold (R77). -/
def takeHold (h : Hold) (fsq : PerChannel FilmChannel) : PerChannel FilmChannel :=
  let r := fsq.get h.channel
  let t := r.slots.get h.slot
  fsq.set h.channel (r.setSlot h.slot { t with scanHolds := t.scanHolds + 1 })

/-- A rear engine's scan hold exchange: release and take together; on the same slot they cancel (R77). -/
def exchangeHolds (old new : Option Hold) (fsq : PerChannel FilmChannel) : PerChannel FilmChannel :=
  if old = new then fsq
  else
    let released := match old with
      | some h => releaseHold h fsq
      | none => fsq
    match new with
    | some h => takeHold h released
    | none => released

/-! ## Film requests -/

/-- Every held slot becomes RETIRED with its frame, every other slot FREE without one (R82 step 1, R89). -/
def Slot.stop (t : Slot) : Slot :=
  if t.scanHolds = 0 then { t with state := .free, frame := none } else { t with state := .retired }

/-- FILM_PLAY's effect by the channel state (R80). -/
def FilmChannel.play (r : FilmChannel) : FilmChannel :=
  match r.state with
  | .idle =>
    let q := { r with state := .priming, holdCount := 0, starveRun := 0, presented := 0, repeated := 0, dropped := 0 }
    match r.lowestFree with
    | some i => q.fillWith i
    | none => q
  | .priming => r
  | .playing => r
  | .paused => { r with state := if r.shown.isSome then .playing else .priming }
  | .ended => { r with state := .playing, holdCount := 1 }

/-- FILM_PAUSE's effect, and that of DEGRADED (R81, R85). -/
def FilmChannel.pause (r : FilmChannel) : FilmChannel :=
  match r.state with
  | .playing => { r with state := .paused }
  | .priming => { r with state := .paused }
  | .idle | .paused | .ended => r

/-- FILM_STOP's effect on the record (R82). -/
def FilmChannel.stop (r : FilmChannel) : FilmChannel :=
  match r.state with
  | .idle => { r with elapsed := ⟨0, 0, 0⟩, wrap := false }
  | .priming | .playing | .paused | .ended =>
    { r with
      state := .idle
      slots := r.slots.map Slot.stop
      queue := []
      fill := none
      holdCount := 0
      starveRun := 0
      elapsed := ⟨0, 0, 0⟩
      wrap := false }

/-- A READY slot becomes FREE without its frame (R83 step 1). -/
def Slot.unready (t : Slot) : Slot := if t.state = .ready then { t with state := .free, frame := none } else t

/-- FILM_SEEK's effect on the record (R83). -/
def FilmChannel.seek (r : FilmChannel) (e : Elapsed) : FilmChannel :=
  { r with slots := r.slots.map Slot.unready, queue := [], elapsed := e, wrap := false }.standing

/-- The record a warm reset leaves (R89). -/
def FilmChannel.warmReset (r : FilmChannel) : FilmChannel := { FilmChannel.reset with slots := r.slots.map Slot.stop }

/-- FSQ takes a DEGRADED notice (R85). -/
def degradedNotice (s : State) : State := setChannel .b s.fsq.b.pause.standing (setChannel .a s.fsq.a.pause.standing s)

end Sys2Proof.Machine
end

