-- ==== Sys2Proof/Machine/Faults.lean ====
section
/-! DEFINITION. The fault unit (chapter 10): taking a report (R164 to R169), FAULT_ACK (R171), ATTN_ACK (R173), RESUME (R170), and the
reports of FMC (R15, R22). -/

namespace Sys2Proof.Machine

/-- The class the committed layout gives a kind (section 10.2). -/
def classOf (l : Layout) (k : FaultKind) : FaultClass := l.severity.getD k.code .advisory

/-- The tally after a report of a kind (R167). -/
def Flt.count (f : Flt) (selected : Bool) : Flt :=
  if selected then (if f.tally = 255 then { f with overflow := true } else { f with tally := f.tally + 1 }) else f

/-- Steps 2 to 4 of R166: the seen set, the first or latest record, the tally. -/
def Flt.record (f : Flt) (r : FaultRecord) (selected : Bool) : Flt :=
  let seen := f.seen.set r.cls (kindJoin (f.seen.get r.cls) r.report.kind)
  let recorded :=
    match f.first.get r.cls with
    | none => { f with seen := seen, first := f.first.set r.cls (some r) }
    | some _ => { f with seen := seen, latest := f.latest.set r.cls (some r) }
  recorded.count selected

/-- Step 5 of R166: the class's action (R168, R169). When within its own event a reporting block has this
taken is said at that block (log 13, log 48). -/
def takeAction (a : FaultAction) (s : State) : State :=
  match a with
  | .quiet => s
  | .signal => raiseCause .fault s
  | .safe =>
    if s.flt.degraded then s
    else
      chimeEvent .faultCritical (degradedNotice (markDirty .s7
        (let t := raiseCause .fault s
         { t with flt := { t.flt with degraded := true } })))

/-- The part time stamped into a record: 0 while part time has not started (R164). -/
def stamp (s : State) : Millis :=
  match s.lyu.partState with
  | .init => 0
  | .running => now s

/-- FLT takes a fault report (R164, R166). -/
def report (r : Report) (s : State) : State :=
  let l := s.lyu.committed
  if kindIn l.mask r.kind then s
  else
    let cls := classOf l r.kind
    let recorded := markDirty .s7
      { s with flt := s.flt.record ⟨r, cls, stamp s⟩ (kindIn l.tallySelection r.kind) }
    match s.lyu.partState with
    | .init => recorded
    | .running => takeAction (l.action.get cls) recorded

/-- A report without a transaction. -/
def reportPlain (kind : FaultKind) (source : FaultSource) (detail : Detail) (s : State) : State :=
  report ⟨kind, source, detail, none⟩ s

/-- A report of a host request, with its transaction (R22). -/
def reportHost (kind : FaultKind) (source : FaultSource) (detail : Detail) (p : HostRequest) (s : State) : State :=
  report ⟨kind, source, detail, some ⟨p.tag, p.address, p.direction, p.beatCount⟩⟩ s

/-- FMC reports the memory errors of a grant, once for each kind met, MEM_CORRECTED first (R15). -/
def reportMemory (corrected poisoned : List Nat) (each : FaultKind → Nat → Nat → State → State) (s : State) : State :=
  let s1 := match corrected with
    | [] => s
    | lowest :: _ => each .memCorrected lowest corrected.length s
  match poisoned with
  | [] => s1
  | lowest :: _ => each .memUncorrectable lowest poisoned.length s1

/-- FMC's report of a grant made to a block of the part (R15). -/
def reportMemoryFor (port : Port) (m : Moved) (s : State) : State :=
  reportMemory m.corrected m.poisoned
    (fun kind lowest count => reportPlain kind .memory (.memoryBeats lowest count port)) s

/-- FMC's report of a grant made to the host: the index of the lowest affected beat within the request, and the transaction with the
host's own address (R15, 11.7). -/
def reportMemoryHost (p : HostRequest) (target : Nat) (m : Moved) (s : State) : State :=
  reportMemory m.corrected m.poisoned
    (fun kind lowest count => reportHost kind .memory (.hostBeats ((lowest - target) / 16) count) p) s

/-! ## The requests of FLT -/

/-- A class acknowledged: its records EMPTY and its seen set empty (R171). -/
def Flt.ackClass (f : Flt) (k : FaultClass) (named : Bool) : Flt :=
  if named then { f with seen := f.seen.set k 0, first := f.first.set k none, latest := f.latest.set k none } else f

/-- FAULT_ACK (R171): the class set and clear_tally as the entry's argument bytes. -/
def requestFaultAck (classes clear : Nat) (s : State) : State × ResultCode :=
  if 8 ≤ classes ∨ 1 < clear then (s, .badArgument)
  else
    let f := ((s.flt.ackClass .advisory (classes.testBit 0)).ackClass .serious (classes.testBit 1)).ackClass .critical (classes.testBit 2)
    let g := if clear = 1 then { f with tally := 0, overflow := false } else f
    (markDirty .s7 { s with flt := g }, .ok)

/-- ATTN_ACK (R173): the cause set as the entry's argument byte. -/
def requestAttnAck (causes : Nat) (s : State) : State × ResultCode :=
  if 64 ≤ causes then (s, .badArgument)
  else (setCauses (s.flt.causes &&& ~~~ BitVec.ofNat 6 causes) s, .ok)

/-- Some class whose action is SAFE has a first record (R170). -/
def safeRecord (s : State) : Bool :=
  let blocks := fun k => decide (s.lyu.committed.action.get k = .safe) && (s.flt.first.get k).isSome
  blocks .advisory || blocks .serious || blocks .critical

/-- RESUME (R170). -/
def requestResume (s : State) : State × ResultCode :=
  if safeRecord s then (s, .notClear)
  else if s.flt.degraded then (markDirty .s7 { s with flt := { s.flt with degraded := false } }, .ok)
  else (s, .ok)

end Sys2Proof.Machine
end

