-- ==== Sys2Proof/Machine/Guide.lean ====
section
/-! DEFINITION. The guide unit (chapter 8): the steering beat and stale steering (R130, R131), work (R132), the guide banks (R133,
R134), list fetches (R135 to R137), the lists answered (R138), layout apply and warm reset (R144, R145). -/

namespace Sys2Proof.Machine

/-- What S3 shows of GDU (R143). -/
structure GduShown where
  banks : Option Bank × Option Bank
  steering : Option Steering
  steeringState : SteeringState
  wantedBucket : Nat
  staticCache : StaticCache
  bucketCache : BucketCache
  fetch : Option (GuideList × Bank)
deriving DecidableEq, Repr

/-- The fields of GDU that S3 mirrors (R143). -/
def Gdu.shown (g : Gdu) : GduShown :=
  { banks := (g.liveBank, g.stagedBank), steering := g.steering, steeringState := g.steeringState, wantedBucket := g.wantedBucket,
    staticCache := g.staticCache, bucketCache := g.bucketCache, fetch := g.fetch.map fun f => (f.list, f.bank) }

/-- GDU's state replaced, with its bank notice to WDC; S3 is marked dirty when a field it mirrors changes (R11, R143). -/
def setGdu (g : Gdu) (s : State) : State :=
  let t := { s with gdu := g, wdc := { s.wdc with liveBank := g.liveBank, stagedBank := g.stagedBank } }
  if g.shown = s.gdu.shown then t else markDirty .s3 t

/-! ## List fetches -/

/-- The row of a guide bank in the committed layout. -/
def guideRow (b : Bank) (l : Layout) : Option Region :=
  match b with
  | .bank0 => l.map.guide0
  | .bank1 => l.map.guide1

/-- The list that is needed, the static list before the bucket list (R135). -/
def Gdu.needed (g : Gdu) : Option GuideList :=
  if g.working ∧ g.liveBank.isSome then
    if g.staticCache = .absent then some .static
    else
      match g.bucketCache with
      | .absent => some (.bucket g.wantedBucket)
      | .valid k _ => if k = g.wantedBucket then none else some (.bucket g.wantedBucket)
      | .invalid k => if k = g.wantedBucket then none else some (.bucket g.wantedBucket)
  else none

/-- The request of a fetch's next grant: its list's beats cut into requests of at most 16 beats that do not cross a page, from the
bank's base in the committed layout at the event that raises the claim (R135). -/
def guideRequest (l : Layout) (f : GuideFetch) : Req :=
  let base := rowBase (guideRow f.bank l) + f.list.offset
  (cutRequests 4 base f.list.beats).getD f.grants ⟨base, 1⟩

/-- With its port free and not held, GDU raises the next claim of the fetch in flight, or starts the fetch that is needed (R135). -/
def Gdu.kick (l : Layout) (g : Gdu) : Gdu :=
  match g.held, g.claim, g.fetch with
  | false, .idle, some f => { g with claim := .waiting (guideRequest l f) }
  | false, .idle, none =>
    match g.needed, g.liveBank with
    | some list, some bank =>
      let f : GuideFetch := ⟨list, bank, false, 0, []⟩
      { g with fetch := some f, claim := .waiting (guideRequest l f) }
    | _, _ => g
  | _, _, _ => g

/-- A fetch in flight is given up: a waiting claim is withdrawn with the fetch, a granted one stays in flight, given up (R136). -/
def Gdu.giveUp (g : Gdu) : Gdu :=
  match g.claim with
  | .granted _ => { g with fetch := g.fetch.map fun f => { f with givenUp := true }, claim := .granted false }
  | _ => { g with fetch := none, claim := .idle }

/-! ## Stale steering -/

/-- STEER_STALE is due (R131). -/
def Gdu.staleDue (g : Gdu) : Bool :=
  g.working && g.liveBank.isSome && decide (g.steeringState ≠ .fresh) && !g.staleReported

/-- GDU reports STEER_STALE when R131 calls for it, once in an episode. -/
def staleCheck (s : State) : State :=
  if s.gdu.staleDue then
    reportPlain .steerStale .guide (.steering (s.gdu.steering.map Steering.seq)) { s with gdu := { s.gdu with staleReported := true } }
  else s

/-- The angle clamped to the wheel's travel (R130). -/
def clampAngle (angle : Int) : Int := max (-4800) (min 4800 angle)

/-- The bucket of a clamped angle (R130). -/
def bucketOf (angle : Int) : Nat := ((angle + 4950) / 300).toNat

/-- A bucket fetch that no longer serves the wanted bucket is given up (R136). -/
def Gdu.overtake (g : Gdu) : Gdu :=
  match g.fetch with
  | some f =>
    match f.list with
    | .static => g
    | .bucket k => if k = g.wantedBucket then g else g.giveUp
  | none => g

/-- GDU takes a copy of the steering beat (R130); a held GDU discards it (R145). -/
def steeringBeat (bytes : List Byte) (s : State) : State :=
  if s.gdu.held then s
  else
    let angle := clampAngle (angleOf bytes)
    let g := { s.gdu with
      steering := some ⟨BitVec.ofNat 16 (get16 bytes 0), angle⟩
      steeringState := .fresh
      staleReported := false
      staleTimer := Timer.start (now s) 300
      wantedBucket := bucketOf angle }
    let h := if g.wantedBucket = s.gdu.wantedBucket then g else g.overtake.kick s.lyu.committed
    markDirty .s3 (setGdu h s)

/-- STALE_TIMER_EXPIRY (R131). An expiry of a timer that is not due is none the part raises (log 1). -/
def execStaleTimerExpiry (s : State) : Host.Outcome State Fault Refusal :=
  if s.gdu.staleTimer.due (now s) then
    .next (staleCheck (markDirty .s3 { s with gdu := { s.gdu with staleTimer := .stopped, steeringState := .stale } }))
  else .next s

/-! ## Work and banks -/

/-- GDU takes a view state from RVC (R132); a held GDU takes none (R145). -/
def guideViewNotice (before after : View) (s : State) : State :=
  if s.gdu.held then s
  else if before = .normal ∧ after ≠ .normal then
    staleCheck (markDirty .s3 (setGdu ({ s.gdu with working := true }.kick s.lyu.committed) s))
  else if before ≠ .normal ∧ after = .normal then
    markDirty .s3 (setGdu { s.gdu.giveUp with working := false } s)
  else s

/-- The bank of an argument. -/
def bankOfCode : Nat → Option Bank
  | 0 => some .bank0
  | 1 => some .bank1
  | _ => none

/-- GUIDE_BANK (R133). -/
def requestGuideBank (b : Nat) (s : State) : State × ResultCode :=
  match bankOfCode b with
  | none => (s, .badArgument)
  | some bank =>
    if s.gdu.liveBank = some bank ∨ s.gdu.stagedBank = some bank then (s, .ok)
    else (markDirty .s3 (setGdu { s.gdu with stagedBank := some bank } s), .ok)

/-- The switch at a refresh start of C (R134). -/
def guideSwitch (s : State) : State :=
  match s.gdu.stagedBank with
  | none => s
  | some bank =>
    let g := { s.gdu with liveBank := some bank, stagedBank := none, staticCache := .absent, bucketCache := .absent }.giveUp
    staleCheck (markDirty .s3 (setGdu (g.kick s.lyu.committed) s))

/-- The lists GDU answers (R138), with the guide palette of the committed layout (R59). -/
def guideAnswer (s : State) : GuideOverlay :=
  { static := match s.gdu.staticCache with
      | .valid segments => segments
      | .absent => []
      | .invalid => []
    bucket := match s.gdu.bucketCache with
      | .valid k segments => if k = s.gdu.wantedBucket ∧ s.gdu.steeringState = .fresh then segments else []
      | .absent => []
      | .invalid _ => []
    palette := s.lyu.committed.palette }

/-! ## The end of a list grant -/

/-- The cache of a list holds what its judgement gives (R137). -/
def Gdu.store (g : Gdu) (list : GuideList) (v : GuideVerdict) : Gdu :=
  match list, v with
  | .static, .valid segments => { g with staticCache := .valid segments }
  | .static, .invalid _ _ => { g with staticCache := .invalid }
  | .bucket k, .valid segments => { g with bucketCache := .valid k segments }
  | .bucket k, .invalid _ _ => { g with bucketCache := .invalid k }

/-- GDU reports a list that fails (R137). -/
def reportList (f : GuideFetch) (v : GuideVerdict) (s : State) : State :=
  match v with
  | .valid _ => s
  | .invalid check segment => reportPlain .guideInvalid .guide (.guideList f.bank f.list check segment) s

/-- GUIDE_LIST_GRANT_COMPLETE (R135 to R137): a given-up fetch ends with its data discarded, an unfinished one raises its next claim,
a finished one is judged. An event with no such grant in progress is none the part raises (log 1). -/
def execGuideListGrantComplete (s : State) : Host.Outcome State Fault Refusal :=
  match s.fmc.busy with
  | some ⟨.guideList, beats⟩ =>
    let t := freeFmc s
    let g := { s.gdu with claim := .idle }
    match s.gdu.fetch with
    | none => .next (setGdu (g.kick s.lyu.committed) t)
    | some f =>
      if f.givenUp ∨ s.gdu.claim.live = false then .next (setGdu ({ g with fetch := none }.kick s.lyu.committed) t)
      else
        let done := { f with grants := f.grants + 1, beats := f.beats ++ beats }
        if done.beats.length < f.list.beats then .next (setGdu ({ g with fetch := some done }.kick s.lyu.committed) t)
        else
          let verdict := judgeGuideList f.list done.beats
          let h := { g with fetch := none }.store f.list verdict
          .next (reportList f verdict (markDirty .s3 (setGdu (h.kick s.lyu.committed) t)))
  | _ => .next s

/-! ## Layout apply and warm reset -/

/-- GDU at a layout apply (R144). -/
def guideApply (s : State) : State :=
  markDirty .s3 (setGdu
    { s.gdu.giveUp with liveBank := none, stagedBank := none, staticCache := .absent, bucketCache := .absent } s)

/-- GDU at a warm reset (R145): the state after POR, held; a granted claim completes with its data discarded (R20). -/
def guideWarmReset (s : State) : State :=
  markDirty .s3 (setGdu { Gdu.reset with held := true, claim := s.gdu.claim.giveUp } s)

end Sys2Proof.Machine
end

