-- ==== Sys2Proof/Machine/Park.lean ====
section
/-! DEFINITION. The park distance unit (chapter 8): activity and the distance beat (R139), the evaluation (R140), the sensor fault
(R141), the cadence handed to the tone voice (R142), warm reset (R145). -/

namespace Sys2Proof.Machine

/-- The values PDU takes at each change of active (R139). -/
def Pdu.fresh (active : Bool) (timer : Timer) : Pdu := { Pdu.reset with active := active, distanceTimer := timer }

/-- PDU takes a view state from RVC (R139); a held PDU takes none (R145). -/
def parkViewNotice (after : View) (s : State) : State :=
  let active := decide (after = .engaged) && decide (s.lyu.source = .host)
  if s.pdu.held ∨ s.pdu.active = active then s
  else
    let timer := if active then Timer.start (now s) 300 else .stopped
    markDirty .s3 { s with pdu := Pdu.fresh active timer }

/-! ## The cadence -/

/-- The cadence PDU's state calls for (R142). -/
def Pdu.called (p : Pdu) : Handed := if p.sensorFault then .halt else .zone p.zone

/-- The notice of a cadence called for, with its period and on_time from the committed layout (R142). -/
def noticeOfCadence (k : ParkSettings) : Handed → CadenceNotice
  | .halt => .halt
  | .zone 0 => .stop
  | .zone 1 => .zone k.zone1
  | .zone 2 => .zone k.zone2
  | .zone 3 => .zone k.zone3
  | .zone _ => .zone k.zone4

/-- PDU hands the chime unit a cadence notice when the cadence called for differs from handed (R142). -/
def handCadence (k : ParkSettings) (s : State) : State :=
  if s.pdu.called = s.pdu.handed then s
  else cadenceNotice (noticeOfCadence k s.pdu.called) { s with pdu := { s.pdu with handed := s.pdu.called } }

/-! ## The sensor fault -/

/-- The entry into the sensor fault; a fault already there is kept (R141). -/
def enterSensorFault (k : ParkSettings) (detail : Detail) (s : State) : State :=
  if s.pdu.sensorFault then s
  else
    markDirty .s3 (chimeEvent .sensorFault (reportPlain .sensorFault .park detail
      (handCadence k { s with pdu := { s.pdu with sensorFault := true, zone := 0, readout := .fault } })))

/-! ## The evaluation -/

/-- The sensors of a record: in the valid set or not, with the distance of each. -/
def Distance.sensors (d : Distance) : List (Bool × Nat) :=
  [(d.valid.getLsbD 0, d.d0), (d.valid.getLsbD 1, d.d1), (d.valid.getLsbD 2, d.d2), (d.valid.getLsbD 3, d.d3)]

/-- The number of sensors in the valid set (R140). -/
def Distance.validCount (d : Distance) : Nat := (d.sensors.filter Prod.fst).length

/-- The smallest distance below 255 among the valid sensors, or none for CLEAR (R140). -/
def Distance.nearest (d : Distance) : Option Nat :=
  ((d.sensors.filter fun p => p.1 && decide (p.2 < 255)).map Prod.snd).min?

/-- The proximity zone of a nearest distance (R140). -/
def zoneOf (k : ParkSettings) : Option Nat → Nat
  | none => 0
  | some d => if k.t1 ≤ d then 0 else if k.t2 ≤ d then 1 else if k.t3 ≤ d then 2 else if k.t4 ≤ d then 3 else 4

/-- The readout of a nearest distance (R140). -/
def readoutOf : Option Nat → Readout
  | none => .clear
  | some d => .distance d

/-- PDU evaluates a distance record (R140), or meets too few valid sensors (R141). -/
def evaluatePark (k : ParkSettings) (d : Distance) (s : State) : State :=
  let counted := { s with pdu := { s.pdu with validCount := d.validCount } }
  if d.validCount < k.minValid then enterSensorFault k (.tooFewValid d.validCount k.minValid) counted
  else
    handCadence k { counted with pdu := { counted.pdu with
      sensorFault := false, nearest := d.nearest, zone := zoneOf k d.nearest, readout := readoutOf d.nearest } }

/-- PDU takes a copy of the distance beat (R139): a held or inactive PDU discards it. -/
def distanceBeat (bytes : List Byte) (s : State) : State :=
  if s.pdu.held ∨ s.pdu.active = false then s
  else
    let d := parseDistance bytes
    let t := markDirty .s3 { s with pdu := { s.pdu with distance := some d, distanceTimer := Timer.start (now s) 300 } }
    match s.lyu.committed.park with
    | none => t
    | some k => evaluatePark k d t

/-- DISTANCE_TIMER_EXPIRY (R141). An expiry of a timer that is not due is none the part raises (log 1). -/
def execDistanceTimerExpiry (s : State) : Host.Outcome State Fault Refusal :=
  if s.pdu.distanceTimer.due (now s) then
    let t := { s with pdu := { s.pdu with distanceTimer := .stopped } }
    match s.lyu.committed.park with
    | none => .next t
    | some k => .next (enterSensorFault k (.noDistanceBeat (s.pdu.distance.map Distance.seq)) t)
  else .next s

/-- PDU at a warm reset (R145). -/
def parkWarmReset (s : State) : State := markDirty .s3 { s with pdu := { Pdu.reset with held := true } }

end Sys2Proof.Machine
end

