-- ==== Sys2Proof/Machine/Audio.lean ====
section
/-! DEFINITION. The audio output (chapter 9): producer beats (R157), film audio fetches (R158), the settling of a block (R159, R160), the
mix (R161); and the commands of the chime unit: CHIME_PLAY and CHIME_STOP (R148, R150), the completions of its fetches (R151, R152), the
wrap of the tone voice and the tick of part time (R155). -/

namespace Sys2Proof.Machine

/-- What S6 shows of AOP (R162). -/
structure AopShown where
  producers : Count × Count
  consumers : Count × Count
  ducks : Bool × Bool
deriving DecidableEq, Repr

/-- The fields of AOP that S6 mirrors (R162). -/
def Aop.shown (o : Aop) : AopShown :=
  { producers := (o.channels.a.producer, o.channels.b.producer), consumers := (o.channels.a.consumer, o.channels.b.consumer),
    ducks := (o.duckHa, o.duckHb) }

/-- AOP's state replaced; S6 is marked dirty when a field it mirrors changes (R162). -/
def setAop (o : Aop) (s : State) : State :=
  if o.shown = s.aop.shown then { s with aop := o } else markDirty .s6 { s with aop := o }

/-! ## The ring -/

/-- The AUDIO row of a channel. -/
def audioRow (x : Channel) (l : Layout) : Option Region :=
  match x with
  | .a => l.map.audioA
  | .b => l.map.audioB

/-- The ring's capacity in blocks: 4 × the row's pages (9.5). -/
def audioCapacity (x : Channel) (l : Layout) : Nat := 4 * rowPages (audioRow x l)

/-- A block index is in the ring: its distance ahead of consumer is less than producer's (9.5). -/
def AudioChannel.inRing (c : AudioChannel) (index : Count) : Bool :=
  decide ((index - c.consumer).toNat < (c.producer - c.consumer).toNat)

/-- The buffered block of an index. -/
def AudioChannel.buffered (c : AudioChannel) (index : Count) : Option AudioBlock := c.ahead.find? fun b => b.index == index

/-- The index to fetch next: the lowest at or after consumer that is in the ring and not in the ahead buffer, up to two ahead (R158). -/
def AudioChannel.wanted (c : AudioChannel) : Option Count :=
  [c.consumer, c.consumer + 1].find? fun i => c.inRing i && (c.buffered i).isNone

/-- The fetch of a channel is given up: a waiting claim is withdrawn, a granted one completes and its data is discarded. -/
def Aop.giveUp (o : Aop) (x : Channel) : Aop :=
  let c := o.channels.get x
  match c.fetch, o.claim with
  | none, _ => o
  | some f, .granted _ =>
    { o with channels := o.channels.set x { c with fetch := some { f with givenUp := true } }, claim := .granted false }
  | some _, _ => { o with channels := o.channels.set x { c with fetch := none }, claim := .idle }

/-- The request of a fetch's next grant: a block is read as four requests of 16 beats (R158). -/
def audioRequest (x : Channel) (l : Layout) (f : AudioFetch) : Req :=
  ⟨rowBase (audioRow x l) + 1024 * (f.index.toNat % audioCapacity x l) + 256 * f.grants, 16⟩

/-- The index AOP would fetch for a channel: only a PLAYING one is fetched for (R158). -/
def aopWanted (x : Channel) (s : State) : Option Count :=
  if (s.fsq.get x).state = .playing ∧ (audioRow x s.lyu.committed).isSome then (s.aop.channels.get x).wanted else none

/-- The channel AOP serves next: the one with fewer blocks ahead, channel A when they are equal (R158). -/
def aopChoice (s : State) : Option (Channel × Count) :=
  match aopWanted .a s, aopWanted .b s with
  | some i, some j =>
    if s.aop.channels.b.ahead.length < s.aop.channels.a.ahead.length then some (.b, j) else some (.a, i)
  | some i, none => some (.a, i)
  | none, some j => some (.b, j)
  | none, none => none

/-- The fetch in flight, if any: AOP's one port serves both channels, one claim at a time (R158). -/
def Aop.inFlight (o : Aop) : Option (Channel × AudioFetch) :=
  match o.channels.a.fetch, o.channels.b.fetch with
  | some f, _ => some (.a, f)
  | none, some f => some (.b, f)
  | none, none => none

/-- A channel's fetch replaced. -/
def Aop.setFetch (o : Aop) (x : Channel) (f : Option AudioFetch) : Aop :=
  { o with channels := o.channels.set x { o.channels.get x with fetch := f } }

/-- With its port free and not held, AOP raises the next claim: the rest of the fetch in flight, or the next block (R158). That between the
requests of a block in flight the port goes to no other channel, not even to one with fewer blocks ahead, is the model's choice (log 47): the
channel to serve is chosen anew only when no fetch is in flight. -/
def aopKick (s : State) : State :=
  match s.aop.held, s.aop.claim, s.aop.inFlight with
  | false, .idle, some (x, f) => { s with aop := { s.aop with claim := .waiting (audioRequest x s.lyu.committed f) } }
  | false, .idle, none =>
    match aopChoice s with
    | none => s
    | some (x, index) =>
      let f : AudioFetch := ⟨index, false, 0, []⟩
      { s with aop := { s.aop.setFetch x (some f) with claim := .waiting (audioRequest x s.lyu.committed f) } }
  | _, _, _ => s

/-- An accepted producer value: ahead blocks no longer in the ring are dropped, and a fetch for such a block is given up (R157). -/
def Aop.takeProducer (o : Aop) (x : Channel) (producer : Count) : Aop :=
  let c := { o.channels.get x with producer := producer }
  let kept := { c with ahead := c.ahead.filter fun b => c.inRing b.index }
  let p := { o with channels := o.channels.set x kept }
  match c.fetch with
  | some f => if c.inRing f.index then p else p.giveUp x
  | none => p

/-- AOP takes a copy of an audio producer beat (R157). -/
def audioProducerBeat (x : Channel) (bytes : List Byte) (s : State) : State :=
  let c := s.aop.channels.get x
  let value := producerOf bytes
  if s.aop.held ∨ (audioRow x s.lyu.committed).isNone then s
  else if (value - c.consumer).toNat ≤ audioCapacity x s.lyu.committed then aopKick (setAop (s.aop.takeProducer x value) s)
  else reportPlain .requestInvalid .audio (.audioProducer x value c.producer c.consumer) s

/-- A channel's audio stops: FILM_STOP and a layout apply (R82, R159). -/
def Aop.stopChannel (o : Aop) (x : Channel) : Aop :=
  let p := o.giveUp x
  let c := p.channels.get x
  { p with channels := p.channels.set x { c with producer := 0, consumer := 0, ahead := [], underrun := false } }

/-- AUDIO_BLOCK_FETCH_COMPLETE (R158): a grant of the fetch in flight completes. A given-up fetch ends with its data discarded, an
unfinished block raises its next request, a finished one joins the ahead buffer. An event with no such grant in progress is none the
part raises (log 1). -/
def execAudioBlockFetchComplete (s : State) : Host.Outcome State Fault Refusal :=
  match s.fmc.busy with
  | some ⟨.audioBlock, beats⟩ =>
    let t := freeFmc s
    let o := { s.aop with claim := .idle }
    match s.aop.inFlight with
    | none => .next (aopKick (setAop o t))
    | some (x, f) =>
      if f.givenUp ∨ s.aop.claim.live = false then .next (aopKick (setAop (o.setFetch x none) t))
      else
        let g := { f with grants := f.grants + 1, beats := f.beats ++ beats }
        if g.grants < 4 then .next (aopKick (setAop (o.setFetch x (some g)) t))
        else
          let c := o.channels.get x
          let block : AudioBlock := ⟨f.index, beatData g.beats, anyPoison g.beats⟩
          .next (aopKick (setAop { o with channels := o.channels.set x { c with fetch := none, ahead := c.ahead ++ [block] } } t))
  | _ => .next s

/-! ## The block boundary -/

/-- A PLAYING channel settles for the block that begins (R159): the detail is that of a report that is due. The playing block and the
consumer are settled here; a late block's fetch is given up. A poisoned block plays as silence and counts as played (log 17). -/
def Aop.settlePlaying (o : Aop) (x : Channel) : Aop × Option Detail :=
  let c := o.channels.get x
  match c.buffered c.consumer with
  | some b =>
    ({ o with channels := o.channels.set x { c with
        playing := if b.poison then none else some b.data
        ahead := c.ahead.filter fun e => !(e.index == c.consumer)
        consumer := c.consumer + 1
        underrun := false } }, none)
  | none =>
    let late := c.inRing c.consumer
    let p := match c.fetch with
      | some f => if late ∧ f.index = c.consumer then o.giveUp x else o
      | none => o
    let d := p.channels.get x
    ({ p with channels := p.channels.set x { d with
        playing := none, consumer := if late then c.consumer + 1 else c.consumer, underrun := true } },
      if c.underrun then none else some (.underrun late x c.consumer))

/-- A channel settles by its film channel's state (R159). -/
def Aop.settle (o : Aop) (x : Channel) (state : ChannelState) : Aop × Option Detail :=
  match state with
  | .playing => o.settlePlaying x
  | .idle | .priming | .paused | .ended =>
    ({ o with channels := o.channels.set x { o.channels.get x with playing := none } }, none)

/-- A sum clamped to a sample (R161). -/
def saturate (n : Int) : Sample := BitVec.ofInt 16 (max (-32768) (min 32767 n))

/-- A film sample of the playing block, shifted right by the duck shift while the output is ducked; a shift of 16 gives 0 (R161). -/
def filmSample (playing : Option (List Byte)) (off : Nat) (ducked : Bool) (shift : Nat) : Int :=
  match playing with
  | none => 0
  | some data =>
    if ducked then (if 16 ≤ shift then 0 else ((sampleAt data off).sshiftRight shift).toInt) else (sampleAt data off).toInt

/-- One TDM frame of the block (R161). -/
def mixFrame (l : Layout) (o : Aop) (c : Chu) (tone : Tone) (i : Nat) : TdmFrame :=
  let clip := c.voice.sample i
  let beep := tone.sample l.toneHalfPeriod i
  let a := o.channels.a.playing
  let b := match l.rrSource with
    | .a => o.channels.a.playing
    | .b => o.channels.b.playing
  let ha := fun off => saturate (filmSample a off o.duckHa l.duckShiftHa + if o.duckHa then clip else 0)
  let hb := fun off => saturate (filmSample b off o.duckHb l.duckShiftHb + if o.duckHb then clip else 0)
  { haL := ha (4 * i), haR := ha (4 * i + 2), hbL := hb (4 * i), hbR := hb (4 * i + 2),
    cabL := saturate (clip + beep), cabR := saturate (clip + beep), slot7 := 0, slot8 := 0 }

/-- A report that may be due. -/
def reportIfDue (kind : FaultKind) (source : FaultSource) (detail : Option Detail) (s : State) : State :=
  match detail with
  | none => s
  | some d => reportPlain kind source d s

/-- The voices and the film channels settle and the block is mixed (R146, R159 to R161). The reports that are due follow, CHU's before
AOP's and channel A's before B's, after the voices, the channels and the claim of the next fetch (log 13). -/
def settleBlock (s : State) : State :=
  let l := s.lyu.committed
  let voiced := s.chu.settleVoice
  let tone := voiced.1.tone
  let chu := { voiced.1 with tone := tone.settle l.toneHalfPeriod }
  let demand := chu.voice.duckDemand
  let settledA := { s.aop with duckHa := demand.ha, duckHb := demand.hb }.settle .a s.fsq.a.state
  let settledB := settledA.1.settle .b s.fsq.b.state
  let aop := { settledB.1 with tdm := (List.range 256).map (mixFrame l settledB.1 chu tone) }
  let t := setAop aop (settleChu chu s)
  reportIfDue .audioUnderrun .audio settledB.2 (reportIfDue .audioUnderrun .audio settledA.2
    (reportIfDue .chimeUnderrun .chime voiced.2 (aopKick t)))

/-- A block boundary: a held AOP sends silence in every slot (R163). -/
def blockBoundary (s : State) : State :=
  if s.aop.held then { s with aop := { s.aop with tdm := silentBlock } } else settleBlock s

/-! ## The chime requests -/

/-- CHIME_PLAY (R148): the fields of the entry's argument bytes. -/
def requestChimePlay (clip priority plays route requeue : Nat) (s : State) : State × ResultCode :=
  if 31 < clip ∨ 7 < priority ∨ 15 < plays then (s, .badArgument)
  else
    match s.chu.insert ⟨clip, priority, plays, routeOfByte route, requeue.testBit 0, .requested, 0⟩ false with
    | (true, c) => (settleChu c s, .ok)
    | (false, c) => (settleChu c s, .queueFull)

/-- CHIME_STOP(clip) and, for none, CHIME_STOP(all) (R150). -/
def requestChimeStop (clip : Option Nat) (s : State) : State × ResultCode :=
  match clip with
  | none => (markDirty .s5 (setChu s.chu.stopAll s), .ok)
  | some k => if 31 < k then (s, .badArgument) else (markDirty .s5 (setChu (s.chu.stopClip k) s), .ok)

/-! ## The clip voice's fetches -/

/-- CLIP_DIRECTORY_FETCH_COMPLETE (R151): the entry is judged, or discarded when the fetch has been given up. That an invalid chime is
dropped and the next head taken before CLIP_INVALID is handled, and so before a FAULT_CRITICAL chime event that its SAFE action hands (R149,
R168), is the model's choice (log 48). An event with no such grant in progress is none the part raises (log 1). -/
def execClipDirectoryFetchComplete (s : State) : Host.Outcome State Fault Refusal :=
  match s.fmc.busy with
  | some ⟨.clipDirectory, beats⟩ =>
    let t := freeFmc s
    let ended := { s.chu with claim := .idle, fetch := none }
    match s.chu.fetch with
    | none => .next (settleChu ended t)
    | some f =>
      if f.givenUp ∨ s.chu.claim.live = false then .next (settleChu ended t)
      else
        match clipEntryFailure beats (rowPages (chimeStore s)) with
        | some check =>
          .next (reportPlain .clipInvalid .chime (.clipEntry s.chu.voice.chime.clip check) (settleChu ended.silenceVoice t))
        | none =>
          let e := parseClipEntry (rowBase (chimeStore s)) (beatData beats)
          .next (settleChu { ended with voice := { ended.voice with entry := some e, position := 0 } } t)
  | _ => .next s

/-- A fetched block joins the voice's buffer: block 0 of a STARTING voice is the one to be played, any other is the next (R152). -/
def Voice.takeBlock (v : Voice) (b : ClipBlock) : Voice :=
  match v.state, v.current with
  | .starting, none => { v with current := some b }
  | _, _ => { v with next := some b }

/-- CLIP_BLOCK_FETCH_COMPLETE (R151, R152): a grant of a block fetch completes; a block is read as two requests. The data of a given-up
fetch is discarded. An event with no such grant in progress is none the part raises (log 1). -/
def execClipBlockFetchComplete (s : State) : Host.Outcome State Fault Refusal :=
  match s.fmc.busy with
  | some ⟨.clipBlock, beats⟩ =>
    let t := freeFmc s
    let ended := { s.chu with claim := .idle, fetch := none }
    match s.chu.fetch with
    | none => .next (settleChu ended t)
    | some f =>
      if f.givenUp ∨ s.chu.claim.live = false then .next (settleChu ended t)
      else
        let g := { f with grants := f.grants + 1, beats := f.beats ++ beats }
        if g.grants < 2 then .next (settleChu { ended with fetch := some g } t)
        else
          match f.target with
          | .directory => .next (settleChu ended t)
          | .block j => .next (settleChu { ended with voice := ended.voice.takeBlock ⟨j, beatData g.beats, anyPoison g.beats⟩ } t)
  | _ => .next s

/-! ## The tone voice and part time -/

/-- TONE_PERIOD_WRAP (R155). A wrap that is not due is none the part raises (log 1, log 16). -/
def execTonePeriodWrap (s : State) : Host.Outcome State Fault Refusal :=
  if s.chu.tone.sounding ∧ s.chu.tone.wrapDue then .next (setChu { s.chu with tone := s.chu.tone.wrap } s) else .next s

/-- PART_TIME_TICK (R35, R155): part time runs from the start of RUNNING, and the tone voice counts while SOUNDING. -/
def execPartTimeTick (s : State) : Host.Outcome State Fault Refusal :=
  match s.lyu.partState with
  | .init => .next s
  | .running =>
    .next (setChu { s.chu with tone := s.chu.tone.tick } { s with lyu := { s.lyu with partTime := s.lyu.partTime + 1 } })

/-! ## Layout apply and warm reset -/

/-- CHU at a layout apply (R29): CHIME_STOP(all), and the tone voice halts. -/
def chimeApply (s : State) : State := setChu { s.chu.stopAll with tone := s.chu.tone.halt } s

/-- AOP at a FILM_STOP of a channel (R82, R159). -/
def audioStop (x : Channel) (s : State) : State := aopKick (markDirty .s6 (setAop (s.aop.stopChannel x) s))

/-- AOP at a layout apply: what a FILM_STOP does, to both channels (R159). -/
def audioApply (s : State) : State := audioStop .b (audioStop .a s)

/-- CHU at a warm reset (R163): the state after POR, held; a granted claim completes with its data discarded (R20). -/
def chimeWarmReset (s : State) : State :=
  markDirty .s5 (setChu { Chu.reset with held := true, claim := s.chu.claim.giveUp } s)

/-- AOP at a warm reset (R163): the reset event is a block boundary, and all slots carry 0 until the release (R146). -/
def audioWarmReset (s : State) : State :=
  markDirty .s6 (setAop { Aop.reset with held := true, claim := s.aop.claim.giveUp } s)

end Sys2Proof.Machine
end

