-- ==== Sys2Proof/Machine/Capture.lean ====
section
/-! DEFINITION. What S3 shows of RVC (R126), camera health (R116 to R118) and camera capture (R119 to R125, R127, R128): what each packet
does, the capture claim, and the pin exchange. -/

namespace Sys2Proof.Machine

/-! ## What S3 shows of RVC -/

/-- The fields of RVC that S3 shows (R126). -/
structure RvcShown where
  view : View
  engageCause : EngageCause
  revQualified : RevLevel
  revPending : Option RevLevel
  hostRequest : Bool
  health : Health
  recoveryCount : Nat
deriving DecidableEq, Repr

/-- What S3 shows of RVC (R126): of rev_pending its level alone, and no timer. -/
def Rvc.shown (r : Rvc) : RvcShown :=
  { view := r.view, engageCause := r.engageCause, revQualified := r.revQualified, revPending := r.revPending.map RevPending.level,
    hostRequest := r.hostRequest, health := r.health, recoveryCount := r.recoveryCount }

/-- RVC's state replaced; S3 is marked dirty when a field that it shows changes (R109, R126). -/
def setRvc (r : Rvc) (s : State) : State :=
  if r.shown = s.rvc.shown then { s with rvc := r } else markDirty .s3 { s with rvc := r }

/-! ## Camera health -/

/-- The entry into LOST (R117): deadline is true for FIRST_FRAME_DEADLINE, false for NO_GOOD_FRAME. -/
def enterLost (deadline : Bool) (s : State) : State :=
  let lost := { s with rvc := { s.rvc with
    health := .lost, lostTimer := .stopped, firstFrameDeadline := .stopped, recoveryCount := 0 } }
  markDirty .s3 (chimeEvent .cameraLost (reportPlain .cameraLost .camera (.cameraLost deadline s.rvc.lastGoodFrameNo) lost))

/-- RVC after a good-frame notice (R116 to R118). -/
def Rvc.goodFrame (r : Rvc) (t : Millis) (frameNo : Count) : Rvc :=
  let q := { r with lastGoodFrameNo := some frameNo }
  match r.health with
  | .awaiting => { q with health := .good, firstFrameDeadline := .stopped, lostTimer := Timer.start t 100 }
  | .good => { q with lostTimer := Timer.start t 100 }
  | .lost =>
    if r.recoveryCount = 0 then { q with recoveryCount := 1 }
    else { q with health := .good, recoveryCount := 0, lostTimer := Timer.start t 100 }

/-- RVC takes a good-frame notice (R116 to R118). -/
def goodFrameNotice (frameNo : Count) (s : State) : State := setRvc (s.rvc.goodFrame (now s) frameNo) s

/-- RVC takes a damaged-frame notice (R118). -/
def damagedFrameNotice (s : State) : State :=
  match s.rvc.health with
  | .lost => setRvc { s.rvc with recoveryCount := 0 } s
  | .awaiting => s
  | .good => s

/-- FIRST_FRAME_DEADLINE_EXPIRY (R116). An expiry of a timer that is not due is none the part raises (log 1). -/
def execFirstFrameDeadlineExpiry (s : State) : Host.Outcome State Fault Refusal :=
  if s.rvc.firstFrameDeadline.due (now s) then
    match s.rvc.health with
    | .awaiting => .next (enterLost true s)
    | .good => .next { s with rvc := { s.rvc with firstFrameDeadline := .stopped } }
    | .lost => .next { s with rvc := { s.rvc with firstFrameDeadline := .stopped } }
  else .next s

/-- LOST_TIMER_EXPIRY (R117). An expiry of a timer that is not due is none the part raises (log 1). -/
def execLostTimerExpiry (s : State) : Host.Outcome State Fault Refusal :=
  if s.rvc.lostTimer.due (now s) then
    match s.rvc.health with
    | .good => .next (enterLost false s)
    | .awaiting => .next { s with rvc := { s.rvc with lostTimer := .stopped } }
    | .lost => .next { s with rvc := { s.rvc with lostTimer := .stopped } }
  else .next s

/-! ## Slots and the line buffer -/

/-- CCP's state replaced. -/
def setCcp (c : Ccp) (s : State) : State := { s with ccp := c }

/-- The slot of the receiving frame. -/
def Ccp.receivingSlot (c : Ccp) : Option (Fin 4) := c.receiving.map ReceivingFrame.slot

/-- The slot of the closing frame. -/
def Ccp.closingSlot (c : Ccp) : Option (Fin 4) := c.closing.map ClosingFrame.slot

/-- A slot is FREE: not that of the receiving or the closing frame, not pinned, not the latest (7.4). -/
def Ccp.slotFree (c : Ccp) (i : Fin 4) : Bool :=
  decide (c.receivingSlot ≠ some i) && decide (c.closingSlot ≠ some i) && decide (c.pinned ≠ some i) && decide (c.latest ≠ some i)

/-- The lowest-index FREE slot (R120). -/
def Ccp.lowestFree (c : Ccp) : Option (Fin 4) := [0, 1, 2, 3].find? c.slotFree

/-- The address where a slot's line begins (7.4). -/
def cameraLineAddress (base lineNo : Nat) : Nat := base + 2560 * lineNo

/-- The next request of a line: its 160 beats cut into requests of at most 16 that do not cross a page (R121, R62). -/
def CameraLine.request (l : CameraLine) : Req :=
  let a := cameraLineAddress l.base l.lineNo + 16 * l.written
  (cutRequests 1 a (160 - l.written)).headD ⟨a, 1⟩

/-- The data of the line's next request, in full beats (R121). -/
def CameraLine.beats (l : CameraLine) : List (BitVec 16 × List Byte) :=
  fullBeats l.request.beats (l.data.drop (16 * l.written))

/-- With its port free, CCP raises the capture claim for the oldest line (R121). -/
def Ccp.kick (c : Ccp) : Ccp :=
  match c.claim, c.buffer with
  | .idle, line :: _ => { c with claim := .waiting line.request }
  | _, _ => c

/-- The lines of a slot leave the buffer unwritten; a request waiting for one is withdrawn, a granted one completes (R123, R125). -/
def Ccp.dropLines (c : Ccp) (slot : Fin 4) : Ccp :=
  let headGoes := match c.buffer with
    | line :: _ => decide (line.slot = slot)
    | [] => false
  { c with
    buffer := c.buffer.filter fun l => !(l.slot == slot)
    claim := if headGoes then c.claim.giveUp else c.claim }

/-- CCP's boundary is reached in a drain when neither a receiving nor a closing frame exists (R127). -/
def Ccp.boundary (c : Ccp) : Ccp :=
  match c.drain, c.receiving, c.closing with
  | .draining, none, none => { c with drain := .drained }
  | _, _, _ => c

/-- A closing frame with no line left in the buffer completes (R122): its slot becomes latest, and RVC gets its notice. That the previous
latest slot, when it becomes FREE, keeps its frame_no until a frame starts in it is the model's choice (log 39). -/
def closeIfWritten (s : State) : State :=
  match s.ccp.closing with
  | none => s
  | some f =>
    if s.ccp.buffer.any (fun l => l.slot == f.slot) then s
    else
      goodFrameNotice f.frameNo (markDirty .s3 (setCcp { s.ccp with
        frameNos := s.ccp.frameNos.set f.slot (some f.frameNo), closing := none, latest := some f.slot,
        framesGood := s.ccp.framesGood + 1 } s))

/-- The frame_no of the receiving frame. -/
def Ccp.frameNo (c : Ccp) : Count := (c.receiving.map ReceivingFrame.frameNo).getD 0

/-- The receiving frame is damaged (R123); reception is what the damage leaves. -/
def damageFrame (detail : Detail) (reception : Reception) (s : State) : State :=
  match s.ccp.receiving with
  | none => s
  | some f =>
    let dropped := { s.ccp.dropLines f.slot with receiving := none, reception := reception, framesDamaged := s.ccp.framesDamaged + 1 }
    damagedFrameNotice (reportPlain .cameraLineError .camera detail (markDirty .s3 (setCcp dropped.kick s)))

/-! ## Packets -/

/-- CCP takes camera packets: capture is RUNNING and CCP is not held (R119). -/
def Ccp.taking (c : Ccp) : Bool := c.capturing && !c.held

/-- A frame starts in the lowest FREE slot, unless CCP is draining or has drained (R120). -/
def startFrame (frameNo : Count) (s : State) : State :=
  match s.ccp.drain, s.ccp.lowestFree with
  | .none, some slot =>
    let base := rowBase s.lyu.committed.map.camera + Config.cameraSlotStride * slot.val
    setCcp { s.ccp with
      receiving := some ⟨slot, frameNo, 0, base⟩, reception := .receiving, frameNos := s.ccp.frameNos.set slot none } s
  | _, _ => setCcp { s.ccp with reception := .waiting } s

/-- What FRAME_START does at CCP (R119, R120). -/
def takeFrameStart (frameNo : Count) (s : State) : State :=
  if s.ccp.taking then
    let t := startFrame frameNo (damageFrame (.startBeforeEnd s.ccp.frameNo) .discarding s)
    setCcp t.ccp.boundary t
  else s

/-- The first check of R121 that a line fails, with its detail. After line 719 no line is in order (log 35). -/
def lineFailure (c : Ccp) (f : ReceivingFrame) (lineNo : Count) (data : List Byte) (check : BitVec 32) : Option Detail :=
  if lineNo.toNat ≠ f.nextLine ∨ 720 ≤ f.nextLine then some (.outOfOrder f.nextLine lineNo f.frameNo)
  else if goodCheck data check = false then some (.badCheck lineNo f.frameNo)
  else if 4 ≤ c.buffer.length then some (.bufferOverrun lineNo f.frameNo)
  else none

/-- What LINE does at CCP (R119, R121). -/
def takeLine (lineNo : Count) (data : List Byte) (check : BitVec 32) (s : State) : State :=
  match s.ccp.taking, s.ccp.receiving with
  | true, some f =>
    match lineFailure s.ccp f lineNo data check with
    | some detail =>
      let t := damageFrame detail .discarding s
      setCcp t.ccp.boundary t
    | none =>
      let line : CameraLine := ⟨f.slot, f.base, f.nextLine, data, 0⟩
      setCcp ({ s.ccp with
        buffer := s.ccp.buffer ++ [line], receiving := some { f with nextLine := f.nextLine + 1 } }.kick) s
  | _, _ => s

/-- What FRAME_END does at CCP (R119, R122). -/
def takeFrameEnd (s : State) : State :=
  match s.ccp.taking, s.ccp.receiving with
  | true, some f =>
    let t :=
      if f.nextLine < 720 then damageFrame (.missingLines (720 - f.nextLine) f.frameNo) .waiting s
      else closeIfWritten (setCcp { s.ccp with receiving := none, closing := some ⟨f.slot, f.frameNo⟩, reception := .waiting } s)
    setCcp t.ccp.boundary t
  | true, none => setCcp { s.ccp with reception := .waiting } s
  | false, _ => s

/-- UNKNOWN_CAMERA_PACKET (R176): ignored in every reception state. A type code of 11.3 is no such packet (log 22). -/
def execUnknownCameraPacket (typeCode : Byte) (s : State) : Host.Outcome State Fault Refusal :=
  if unknownTypeCode typeCode then .next s else .refused (.notThatPacket "UNKNOWN_CAMERA_PACKET")

/-- The capture claim's grant completes: the beats of its request are written, a finished line leaves the buffer, and the next claim is
raised; a given-up request ends with nothing further written (R121, R123). -/
def lineWritten (s : State) : State :=
  let c := { s.ccp with claim := .idle }
  if s.ccp.claim.live then
    match c.buffer with
    | [] => setCcp c s
    | line :: rest =>
      let written := line.written + line.request.beats
      if written < 160 then setCcp ({ c with buffer := { line with written := written } :: rest }.kick) s
      else
        let t := closeIfWritten (setCcp ({ c with buffer := rest }.kick) s)
        setCcp t.ccp.boundary t
  else setCcp c.kick s

/-! ## The pin, capture start and stop -/

/-- DEN-C's pin exchange (R124): a request to move the pin to the latest slot, or to release it. -/
def Ccp.exchangePin (c : Ccp) (move : Bool) : Option (Fin 4) := if move then c.latest else none

/-- CCP takes a pin exchange; S3 shows the pinned slot (R124, R126). A released slot keeps its frame_no until a frame starts in it or a
reset drops it, also the slot a warm reset left pinned (R128): the model's choice, which nothing the part writes shows (log 39). -/
def exchangePin (move : Bool) (s : State) : State :=
  let pin := s.ccp.exchangePin move
  if s.ccp.pinned = pin then s else markDirty .s3 (setCcp { s.ccp with pinned := pin } s)

/-- Capture starts (R125). -/
def startCapture (s : State) : State :=
  if s.ccp.capturing then s else markDirty .s3 (setCcp { s.ccp with capturing := true, reception := .waiting } s)

/-- The frames in reception are abandoned: their lines leave the buffer (R125). -/
def Ccp.abandon (c : Ccp) : Ccp :=
  { c with buffer := [], claim := c.claim.giveUp, receiving := none, closing := none, reception := .waiting }

/-- Capture stops (R125). That the previous latest slot, when it becomes FREE, keeps its frame_no until a frame starts in it is the model's
choice (log 39). -/
def stopCapture (s : State) : State :=
  markDirty .s3 (setCcp { s.ccp.abandon with capturing := false, latest := none }.boundary s)

/-- CCP begins to drain (R127). -/
def drainCapture (s : State) : State := setCcp { s.ccp with drain := .draining }.boundary s

/-- A camera slot's frame_no, kept for one slot only. -/
def keepFrameNo (pinned : Option (Fin 4)) (t : PerCameraSlot (Option Count)) : PerCameraSlot (Option Count) :=
  match pinned with
  | none => ⟨none, none, none, none⟩
  | some i => (⟨none, none, none, none⟩ : PerCameraSlot (Option Count)).set i (t.get i)

/-- CCP at a warm reset (R128): the pinned slot stays pinned, with its frame_no, until DEN-C releases it. -/
def captureWarmReset (s : State) : State :=
  markDirty .s3 (setCcp { Ccp.reset with
    held := true, claim := s.ccp.claim.giveUp, pinned := s.ccp.pinned, frameNos := keepFrameNo s.ccp.pinned s.ccp.frameNos } s)

end Sys2Proof.Machine
end

