-- ==== Sys2Proof/Machine/Menu.lean ====
section
/-! DEFINITION. The menu unit (chapter 6): stacks and top caches (R92), the fetch port (R93), menu requests (R94 to R99), idle timers
(R100, R101), notice caches (R103), readouts (R104, R105), layout apply and resets (R106, R107). -/

namespace Sys2Proof.Machine

/-- MNU's state replaced. -/
def setMnu (m : Mnu) (s : State) : State := { s with mnu := m }

/-- A panel's menu state. -/
def menuPanel (p : Panel) (s : State) : MenuPanel := s.mnu.panels.get p

/-- A panel's menu state replaced. -/
def setMenuPanel (p : Panel) (m : MenuPanel) (s : State) : State :=
  { s with mnu := { s.mnu with panels := s.mnu.panels.set p m } }

/-- The page on top of a stack. -/
def MenuPanel.topPage (m : MenuPanel) : Option Nat := m.stack.getLast?

/-- The page below the top of a stack. -/
def MenuPanel.below (m : MenuPanel) : Option Nat := m.stack.dropLast.getLast?

/-- The restart of a panel's idle timer: its timeout is read from the committed layout at the event (R100). -/
def restartIdle (p : Panel) (s : State) : State :=
  let m := menuPanel p s
  let timeout := s.lyu.committed.idleTimeout.get p
  let timer := if m.stack ≠ [] ∧ 1 ≤ timeout ∧ timeout ≤ 60 then Timer.start (now s) (1000 * timeout) else .stopped
  setMenuPanel p { m with idle := timer } s

/-- A panel's stack changes with its top cache: the idle timer restarts and S4 is dirty (R92, R100). -/
def changeStack (p : Panel) (stack : List Nat) (top : TopCache) (s : State) : State :=
  markDirty .s4 (restartIdle p (setMenuPanel p { menuPanel p s with stack := stack, top := top } s))

/-! ## The fetch port -/

/-- The MENU_STORE row of the committed layout. -/
def menuStore (s : State) : Option Region := s.lyu.committed.map.menuStore

/-- The page that waiting work needs (R90, R93): that of the request in hand, of a PENDING notice cache, or below the top of the panel of a
PENDING auto-pop; none when the work does not wait for the port. -/
def waitingPage (s : State) : MenuPurpose → Option Nat
  | .request => s.mnu.request.map MenuRequest.page
  | .service => if s.mnu.service = .pending then s.lyu.committed.servicePage else none
  | .cameraLost => if s.mnu.cameraLost = .pending then s.lyu.committed.cameraLostPage else none
  | .autoPop p => if (menuPanel p s).autoPop = .pending then (menuPanel p s).below else none

/-- The work that waits for the port and comes first, with its page: the request in hand, the notices, the auto-pops (R93). -/
def nextMenuFetch (s : State) : Option (MenuPurpose × Nat) :=
  [.request, .service, .cameraLost, .autoPop .rl, .autoPop .rr, .autoPop .c].findSome? fun purpose =>
    (waitingPage s purpose).map fun page => (purpose, page)

/-- A fetch that starts makes its notice cache or auto-pop IN_FLIGHT (R93). -/
def beginMenuFetch (purpose : MenuPurpose) (s : State) : State :=
  match purpose with
  | .request => s
  | .service => markDirty .s4 { s with mnu := { s.mnu with service := .inFlight } }
  | .cameraLost => markDirty .s4 { s with mnu := { s.mnu with cameraLost := .inFlight } }
  | .autoPop p => setMenuPanel p { menuPanel p s with autoPop := .inFlight } s

/-- With its port free and not held, MNU starts the next fetch: one claim for the two beats of the directory entry, at the MENU_STORE
address of the committed layout at this event (R90, R93). -/
def menuKick (s : State) : State :=
  match s.mnu.held, s.mnu.fetch, s.mnu.claim with
  | false, none, .idle =>
    match nextMenuFetch s with
    | none => s
    | some (purpose, page) =>
      let t := beginMenuFetch purpose s
      { t with mnu := { t.mnu with
          fetch := some ⟨purpose, page, true⟩, claim := .waiting ⟨rowBase (menuStore s) + 32 * page, 2⟩ } }
  | _, _, _ => s

/-- A fetch in flight for one purpose is given up: it runs on and is not judged (R94, R103, R106). -/
def dropMenuFetch (purpose : MenuPurpose) (s : State) : State :=
  match s.mnu.fetch with
  | some f => if f.purpose = purpose then setMnu { s.mnu with fetch := some { f with live := false } } s else s
  | none => s

/-! ## Menu requests -/

/-- A request that names a valid panel restarts the panel's idle timer and ends its auto-pop (R94). -/
def touchPanel (p : Panel) (s : State) : State :=
  let t := restartIdle p s
  let m := menuPanel p t
  match m.autoPop with
  | .none => t
  | .pending => setMenuPanel p { m with autoPop := .none } t
  | .inFlight => dropMenuFetch (.autoPop p) (setMenuPanel p { m with autoPop := .none } t)

/-- A request becomes the request in hand and its fetch starts or waits (R93, R95). -/
def takeInHand (r : MenuRequest) (s : State) : State :=
  menuKick (markDirty .s4 (setMnu { s.mnu with request := some r } s))

/-- MENU_PUSH at dispatch (R94, R95). -/
def requestMenuPush (panel page : Nat) (s : State) : State × Option ResultCode :=
  match panelOfCode panel with
  | none => (s, some .badArgument)
  | some p =>
    let t := touchPanel p s
    let m := menuPanel p t
    if 63 < page then (t, some .badArgument)
    else if m.topPage = some page then (t, some .ok)
    else if 8 ≤ m.stack.length then (t, some .stackFull)
    else (takeInHand ⟨.push, p, page⟩ t, none)

/-- MENU_REPLACE at dispatch (R94, R96). -/
def requestMenuReplace (panel page : Nat) (s : State) : State × Option ResultCode :=
  match panelOfCode panel with
  | none => (s, some .badArgument)
  | some p =>
    let t := touchPanel p s
    if 63 < page then (t, some .badArgument)
    else if (menuPanel p t).stack = [] then (t, some .stackEmpty)
    else (takeInHand ⟨.replace, p, page⟩ t, none)

/-- MENU_POP at dispatch (R94, R97). -/
def requestMenuPop (panel : Nat) (s : State) : State × Option ResultCode :=
  match panelOfCode panel with
  | none => (s, some .badArgument)
  | some p =>
    let t := touchPanel p s
    match (menuPanel p t).topPage, (menuPanel p t).below with
    | none, _ => (t, some .stackEmpty)
    | some _, none => (changeStack p [] .none t, some .ok)
    | some _, some page => (takeInHand ⟨.pop, p, page⟩ t, none)

/-- MENU_CLEAR at dispatch (R94, R98). -/
def requestMenuClear (panel : Nat) (s : State) : State × Option ResultCode :=
  match panelOfCode panel with
  | none => (s, some .badArgument)
  | some p =>
    let t := touchPanel p s
    if (menuPanel p t).stack = [] then (t, some .ok) else (changeStack p [] .none t, some .ok)

/-- MENU_TOUCH at dispatch (R94, R99). -/
def requestMenuTouch (panel : Nat) (s : State) : State × Option ResultCode :=
  match panelOfCode panel with
  | none => (s, some .badArgument)
  | some p => (touchPanel p s, some .ok)

/-! ## The end of a descriptor fetch -/

/-- The fault source of a panel. -/
def panelSource : Panel → FaultSource
  | .rl => .panelRl
  | .rr => .panelRr
  | .c => .panelC

/-- The panel a fetch is judged against (R90). -/
def MenuPurpose.panel (request : Option MenuRequest) : MenuPurpose → Panel
  | .request => (request.map MenuRequest.panel).getD .c
  | .service => .rl
  | .cameraLost => .c
  | .autoPop p => p

/-- The judgement of a descriptor (R91): the descriptor, or none with MENU_PAGE_INVALID reported. -/
def judgeDescriptor (beats : List ReadBeat) (panel : Panel) (page : Nat) (s : State) : Option Descriptor × State :=
  match descriptorFailure beats panel (rowPages (menuStore s)) with
  | some check => (none, reportPlain .menuPageInvalid (panelSource panel) (.menuPage page check) s)
  | none => (some (parseDescriptor (beatData beats)), s)

/-- The top cache a judgement gives (R92). -/
def cacheOf : Option Descriptor → TopCache
  | some d => .valid d
  | none => .invalid

/-- The notice cache a judgement gives (R103). -/
def noticeOf : Option Descriptor → NoticeCache
  | some d => .valid d
  | none => .invalid

/-- The request in hand is answered (R46, R95). -/
def answerMenu (code : ResultCode) (s : State) : State :=
  giveResult code (markDirty .s4 (setMnu { s.mnu with request := none } s))

/-- The request in hand acts on its judged descriptor (R95, R96, R97). -/
def finishMenuRequest (r : MenuRequest) (verdict : Option Descriptor) (s : State) : State :=
  let stack := (menuPanel r.panel s).stack
  match r.kind, verdict with
  | .push, some d => answerMenu .ok (changeStack r.panel (stack ++ [r.page]) (.valid d) s)
  | .push, none => answerMenu .pageInvalid s
  | .replace, some d => answerMenu .ok (changeStack r.panel (stack.dropLast ++ [r.page]) (.valid d) s)
  | .replace, none => answerMenu .pageInvalid s
  | .pop, some d => answerMenu .ok (changeStack r.panel stack.dropLast (.valid d) s)
  | .pop, none => answerMenu .pageInvalid (changeStack r.panel stack.dropLast .invalid s)

/-- A judged fetch acts by its purpose (R95 to R97, R101, R103). -/
def finishMenuFetch (purpose : MenuPurpose) (verdict : Option Descriptor) (s : State) : State :=
  match purpose with
  | .request =>
    match s.mnu.request with
    | some r => finishMenuRequest r verdict s
    | none => s
  | .service => markDirty .s4 (setMnu { s.mnu with service := noticeOf verdict } s)
  | .cameraLost => markDirty .s4 (setMnu { s.mnu with cameraLost := noticeOf verdict } s)
  | .autoPop p =>
    let t := changeStack p (menuPanel p s).stack.dropLast (cacheOf verdict) s
    setMenuPanel p { menuPanel p t with autoPop := .none } t

/-- DESCRIPTOR_FETCH_COMPLETE (R91): the fetch is judged for its purpose, or its data is discarded when it has been given up; then MNU
starts the next fetch (R93). An event with no such grant in progress is none the part raises (log 1). -/
def execDescriptorFetchComplete (s : State) : Host.Outcome State Fault Refusal :=
  match s.fmc.busy with
  | some ⟨.descriptorFetch, beats⟩ =>
    let t := setMnu { s.mnu with fetch := none, claim := .idle } (freeFmc s)
    match s.mnu.fetch with
    | some f =>
      if f.live ∧ s.mnu.claim.live then
        let judged := judgeDescriptor beats (f.purpose.panel s.mnu.request) f.page t
        .next (menuKick (finishMenuFetch f.purpose judged.1 judged.2))
      else .next (menuKick t)
    | none => .next (menuKick t)
  | _ => .next s

/-! ## Idle timers -/

/-- The request in hand names a panel. -/
def requestFor (p : Panel) (s : State) : Bool :=
  match s.mnu.request with
  | some r => decide (r.panel = p)
  | none => false

/-- IDLE_TIMER_EXPIRY (R101). An expiry of a timer that is not due is none the part raises (log 1). -/
def execIdleTimerExpiry (p : Panel) (s : State) : Host.Outcome State Fault Refusal :=
  let m := menuPanel p s
  if m.idle.due (now s) then
    if requestFor p s then .next (restartIdle p s)
    else
      match m.stack with
      | [] => .next (setMenuPanel p { m with idle := .stopped } s)
      | [_] => .next (changeStack p [] .none s)
      | _ :: _ :: _ => .next (menuKick (setMenuPanel p { m with idle := .stopped, autoPop := .pending } s))
  else .next s

/-! ## Layout apply and resets -/

/-- The state of a notice cache after an apply or a release: PENDING when its field names a page and the committed source is HOST (R103). -/
def noticeStart (page : Option Nat) (s : State) : NoticeCache :=
  if page.isSome ∧ s.lyu.source = .host then .pending else .absent

/-- The notice caches replaced; S4 is marked dirty when one of them changes (R92). -/
def setNotices (service cameraLost : NoticeCache) (s : State) : State :=
  let t := setMnu { s.mnu with service := service, cameraLost := cameraLost } s
  if service = s.mnu.service ∧ cameraLost = s.mnu.cameraLost then t else markDirty .s4 t

/-- The notice caches are filled afresh; a fetch in flight for a notice runs on and is not judged (R103). -/
def refillNotices (s : State) : State :=
  setNotices (noticeStart s.lyu.committed.servicePage s) (noticeStart s.lyu.committed.cameraLostPage s)
    (dropMenuFetch .cameraLost (dropMenuFetch .service s))

/-- The fetch of the request in hand at an apply: an ungranted claim is withdrawn, a granted fetch runs on unjudged (R106). -/
def withdrawMenuRequest (s : State) : State :=
  match s.mnu.fetch, s.mnu.claim with
  | some f, .waiting _ => if f.purpose = .request then setMnu { s.mnu with fetch := none, claim := .idle } s else s
  | some _, .granted _ => dropMenuFetch .request s
  | _, _ => s

/-- A request in hand at a layout apply (R106): a push proceeds on a fresh fetch; a replace or a pop is answered STACK_EMPTY. -/
def applyMenuRequest (s : State) : State :=
  match s.mnu.request with
  | none => s
  | some r =>
    let t := withdrawMenuRequest s
    match r.kind with
    | .push => t
    | .replace => answerMenu .stackEmpty t
    | .pop => answerMenu .stackEmpty t

/-- MNU at a layout apply, which marks S4 dirty (R106). -/
def menuApply (s : State) : State :=
  let drop := fun t p => dropMenuFetch (.autoPop p) t
  let t := drop (drop (drop s .rl) .rr) .c
  let u := setMnu { t.mnu with panels := ⟨MenuPanel.reset, MenuPanel.reset, MenuPanel.reset⟩ } t
  menuKick (applyMenuRequest (refillNotices (markDirty .s4 u)))

/-- MNU at a warm reset (R107): the state after POR, held; a granted fetch runs on and its data is discarded (R20). -/
def menuWarmReset (s : State) : State :=
  markDirty .s4 (setMnu { Mnu.reset with held := true, claim := s.mnu.claim.giveUp } s)

/-- MNU at the release of a warm reset (R107). -/
def menuRelease (s : State) : State := menuKick (refillNotices (setMnu { s.mnu with held := false } s))

/-! ## What the panels show -/

/-- The plane address of a page (R102). -/
def planeAddress (d : Descriptor) (s : State) : Nat := rowBase (menuStore s) + Config.pageBytes * d.planeOffset

/-- The seven glyphs of an elapsed readout (R104). -/
def elapsedGlyphs (e : Elapsed) : List Nat :=
  [e.hours, 10, e.minutes / 10, e.minutes % 10, 10, e.seconds / 10, e.seconds % 10]

/-- The three glyphs of a distance readout (R105). -/
def distanceGlyphs : Readout → Option (List Nat)
  | .none => none
  | .fault => some [12, 12, 12]
  | .clear => some [11, 11, 11]
  | .distance d =>
    some (if 100 ≤ d then [d / 100, d / 10 % 10, d % 10] else if 10 ≤ d then [11, d / 10, d % 10] else [11, 11, d])

/-- The GLYPHS base address of the committed layout. -/
def glyphStrip (s : State) : Nat := rowBase s.lyu.committed.map.glyphs

/-- A panel shows the page of a VALID top cache (R102). -/
def pageAllowed (p : Panel) (view : View) (d : Descriptor) : Bool :=
  match p with
  | .rl => true
  | .rr => true
  | .c => decide (view = .normal) || d.reverseOk

/-- MNU's answer to a menu page request (R102). -/
def menuPageAnswer (p : Panel) (view : View) (s : State) : Option PageLayer :=
  match (menuPanel p s).top with
  | .valid d => if pageAllowed p view d then some ⟨d, planeAddress d s⟩ else none
  | .none => none
  | .invalid => none

/-- The elapsed readout that goes with a menu page (R104). -/
def elapsedAnswer (page : Option PageLayer) (s : State) : Option ReadoutLayer :=
  match page with
  | none => none
  | some l =>
    match l.page.readout with
    | none => none
    | some (x, dx, dy) => some ⟨elapsedGlyphs (s.fsq.get x).elapsed, l.page.x + dx, l.page.y + dy, glyphStrip s⟩

/-- MNU's answer to a notice page request (R103). -/
def noticeAnswer (cache : NoticeCache) (s : State) : Option PageLayer :=
  match cache with
  | .valid d => some ⟨d, planeAddress d s⟩
  | .absent => none
  | .pending => none
  | .inFlight => none
  | .invalid => none

/-- MNU's answer to DEN-C's distance readout request (R105). -/
def distanceAnswer (s : State) : Option ReadoutLayer :=
  match s.lyu.source, s.lyu.committed.park, distanceGlyphs s.pdu.readout with
  | .host, some p, some glyphs => some ⟨glyphs, p.readoutX, p.readoutY, glyphStrip s⟩
  | _, _, _ => none

end Sys2Proof.Machine
end

