-- ==== Sys2Proof/Machine/Layouts.lean ====
section
/-! DEFINITION. The layout unit (chapter 2): LAYOUT_COMMIT's fetch (R25), its validation end (R26 to R28), applying a layout (R29), and
RVC's NORMAL-entry notice (R30). -/

namespace Sys2Proof.Machine

/-- LYU's state replaced. -/
def setLyu (l : Lyu) (s : State) : State := { s with lyu := l }

/-- The layout state without a staged layout: it follows the committed source (R27, R39). -/
def unstagedState : CommittedSource → LayoutState
  | .default => .unconfigured
  | .host => .configured

/-- The staged layout, if any, is discarded (R27, R39). -/
def Lyu.discardStaged (l : Lyu) : Lyu := { l with staged := none, layoutState := unstagedState l.source }

/-- Applying a layout: it becomes the committed layout, and the blocks that depend on it act, all in this event (R29). -/
def applyLayout (l : Layout) (s : State) : State :=
  let committed := setLyu { s.lyu with committed := l, source := .host, staged := none, layoutState := .configured }
    { s with wdc := { s.wdc with map := l.map } }
  markDirty .s0 (audioApply (chimeApply (guideApply (menuApply committed))))

/-- LYU takes RVC's NORMAL-entry notice: a staged layout is applied, with LAYOUT_APPLIED (R30). -/
def normalEntryNotice (s : State) : State :=
  match s.lyu.layoutState, s.lyu.staged with
  | .staged, some l => raiseCause .layoutApplied (applyLayout l s)
  | _, _ => s

/-! ## The fetch -/

/-- The request of the half being fetched (R25). -/
def commitRequest : CommitStage → Option Req
  | .firstHalf => some ⟨Config.anchorBase, 16⟩
  | .secondHalf _ => some ⟨Config.anchorBase + 0x100, 16⟩
  | .none => none
  | .validating _ => none

/-- With its port free, LYU raises the claim of the half to be fetched (R25). -/
def Lyu.kick (l : Lyu) : Lyu :=
  match l.claim, commitRequest l.commit with
  | .idle, some r => { l with claim := .waiting r }
  | _, _ => l

/-- Both film channels are IDLE. -/
def channelsIdle (s : State) : Bool := decide (s.fsq.a.state = .idle) && decide (s.fsq.b.state = .idle)

/-- LAYOUT_COMMIT at dispatch (R25). -/
def requestLayoutCommit (s : State) : State × Option ResultCode :=
  if channelsIdle s then (setLyu { s.lyu with commit := .firstHalf }.kick s, none) else (s, some .busy)

/-- An invalid or poisoned record (R25, R27): the report, last_commit_check, the discard of a staged layout, and the answer. -/
def rejectCommit (f : CheckFailure) (code : ResultCode) (s : State) : State :=
  let reported := reportPlain .layoutInvalid .layout (.layoutCheck f.check f.row) s
  giveResult code (markDirty .s0
    (setLyu { reported.lyu.discardStaged with commit := .none, lastCommitCheck := some f.check } reported))

/-- LAYOUT_FETCH_GRANT_COMPLETE (R25): a poisoned half ends the fetch, the first half leads to the second, and the whole record waits for
its validation end. The data of an abandoned fetch is discarded. An event with no such grant in progress is none the part raises
(log 1). -/
def execLayoutFetchGrantComplete (s : State) : Host.Outcome State Fault Refusal :=
  match s.fmc.busy with
  | some ⟨.layoutFetch, beats⟩ =>
    let t := setLyu { s.lyu with claim := .idle } (freeFmc s)
    if s.lyu.claim.live then
      match s.lyu.commit with
      | .firstHalf =>
        if anyPoison beats then .next (rejectCommit ⟨0, none⟩ .memError t)
        else .next (setLyu { t.lyu with commit := .secondHalf (beatData beats) }.kick t)
      | .secondHalf first =>
        if anyPoison beats then .next (rejectCommit ⟨0, none⟩ .memError t)
        else .next (setLyu { t.lyu with commit := .validating (first ++ beatData beats) } t)
      | .none => .next t
      | .validating _ => .next t
    else .next (setLyu t.lyu.kick t)
  | _ => .next s

/-- A valid record at its validation end: applied while the view is NORMAL, staged while it is not (R28). -/
def acceptCommit (l : Layout) (s : State) : State :=
  let t := markDirty .s0 (setLyu { s.lyu with commit := .none, lastCommitCheck := none } s)
  match s.rvc.view with
  | .normal => giveResult .ok (applyLayout l t)
  | .engaged => giveResult .deferred (setLyu { t.lyu with staged := some l, layoutState := .staged } t)
  | .hold => giveResult .deferred (setLyu { t.lyu with staged := some l, layoutState := .staged } t)

/-- VALIDATION_END (R26 to R28). An event with no record under validation is none the part raises (log 1). -/
def execValidationEnd (s : State) : Host.Outcome State Fault Refusal :=
  match s.lyu.commit with
  | .validating record =>
    match validateLayout record with
    | some f => .next (rejectCommit f .badArgument s)
    | none => .next (acceptCommit (parseLayout record) s)
  | .none => .next s
  | .firstHalf => .next s
  | .secondHalf _ => .next s

/-- LYU abandons a LAYOUT_COMMIT at a warm reset: an ungranted claim is withdrawn, a granted one completes with its data discarded, and
nothing is validated (R49). -/
def Lyu.abandonCommit (l : Lyu) : Lyu := { l with commit := .none, claim := l.claim.giveUp }

end Sys2Proof.Machine
end

