-- ==== Sys2Proof/Machine/Reverse.lean ====
section
/-! DEFINITION. The reverse view controller (chapter 7): qualification of REV (R108), VIEW_CAMERA (R109), the view state (R110 to R115),
warm reset (R128). -/

namespace Sys2Proof.Machine

/-- RVC hands the view state to GDU, PDU and CHU at a change of the view (R115). -/
def handView (before : View) (s : State) : State :=
  chuViewNotice before s.rvc.view (parkViewNotice s.rvc.view (guideViewNotice before s.rvc.view s))

/-- The chime event of an engagement caused by REV (R111, R113). -/
def engageChime (cause : EngageCause) (s : State) : State := if cause = .rev then chimeEvent .reverseEngaged s else s

/-- The entry from NORMAL into ENGAGED (R111). -/
def viewEngage (cause : EngageCause) (s : State) : State :=
  let engaged := setRvc { s.rvc with
    view := .engaged, engageCause := cause, health := .awaiting, recoveryCount := 0, lastGoodFrameNo := none,
    lostTimer := .stopped, firstFrameDeadline := Timer.start (now s) 250 } s
  engageChime cause (raiseCause .reverseChanged (handView .normal (startCapture engaged)))

/-- The return from HOLD into ENGAGED (R113). -/
def viewReengage (cause : EngageCause) (s : State) : State :=
  engageChime cause (handView .hold (setRvc { s.rvc with view := .engaged, engageCause := cause, holdTimer := .stopped } s))

/-- The entry into NORMAL (R114). -/
def enterNormal (s : State) : State :=
  let before := s.rvc.view
  let normal := setRvc { s.rvc with
    view := .normal, engageCause := .none, holdTimer := .stopped, firstFrameDeadline := .stopped, lostTimer := .stopped,
    recoveryCount := 0, health := .awaiting } s
  normalEntryNotice (raiseCause .reverseChanged (handView before (stopCapture normal)))

/-- Demand ends in ENGAGED: the view enters HOLD, or NORMAL when the committed reverse_hold is 0 (R112). -/
def viewHold (s : State) : State :=
  let hold := s.lyu.committed.reverseHold
  if hold = 0 then enterNormal s
  else handView .engaged (setRvc { s.rvc with view := .hold, holdTimer := Timer.start (now s) (100 * hold) } s)

/-- Reverse demand (section 7.1). -/
def Rvc.demand (r : Rvc) : Bool := decide (r.revQualified = .asserted) || r.hostRequest

/-- An evaluation of demand moves the view (R110). -/
def evaluateDemand (cause : EngageCause) (s : State) : State :=
  match s.rvc.view, s.rvc.demand with
  | .normal, true => viewEngage cause s
  | .engaged, false => viewHold s
  | .hold, true => viewReengage cause s
  | .normal, false => s
  | .engaged, true => s
  | .hold, false => s

/-- VIEW_CAMERA(OFF) (R109). -/
def viewCameraOff (s : State) : State :=
  let t := setRvc { s.rvc with hostRequest := false } s
  match s.rvc.view, s.rvc.revQualified with
  | .normal, _ => t
  | .engaged, .asserted => t
  | .engaged, .deasserted => enterNormal t
  | .hold, _ => enterNormal t

/-- VIEW_CAMERA (R109). -/
def requestViewCamera (argument : Nat) (s : State) : State × ResultCode :=
  match argument with
  | 0 => (viewCameraOff s, .ok)
  | 1 => (evaluateDemand .host (setRvc { s.rvc with hostRequest := true } s), .ok)
  | _ => (s, .badArgument)

/-- The REV level an input level names. -/
def revLevelOf : Level → RevLevel
  | .low => .deasserted
  | .high => .asserted

/-- RVC takes an edge of REV (R108). -/
def Rvc.takeEdge (r : Rvc) (t : Millis) (level : RevLevel) : Rvc :=
  if level = r.revQualified then { r with revPending := none } else { r with revPending := some ⟨level, t + 20⟩ }

/-- REV_EDGE (R108): the input takes the level, and RVC acts on a change while acting is yes. A level the input already has is no change
of level (log 1). -/
def execRevEdge (level : Level) (s : State) : Host.Outcome State Fault Refusal :=
  if s.pins.rev = level then .next s
  else
    let t := { s with pins := { s.pins with rev := level } }
    if s.rvc.acting then .next (setRvc (s.rvc.takeEdge (now s) (revLevelOf level)) t) else .next t

/-- RVC begins acting: a REV input already high becomes pending (R108). -/
def beginActing (s : State) : State :=
  let pending := match s.pins.rev with
    | .low => none
    | .high => some ⟨RevLevel.asserted, now s + 20⟩
  setRvc { s.rvc with acting := true, revQualified := .deasserted, revPending := pending } s

/-- What the expiry of rev_pending does (R108). -/
def qualifyRev (s : State) : State :=
  match s.rvc.revPending with
  | none => s
  | some p =>
    if s.rvc.acting ∧ reached (now s) p.expiry then
      evaluateDemand .rev (setRvc { s.rvc with revQualified := p.level, revPending := none } s)
    else s

/-- What the expiry of hold_timer does (R114). -/
def endHold (s : State) : State :=
  if s.rvc.holdTimer.due (now s) then
    match s.rvc.view with
    | .hold => enterNormal s
    | .normal => { s with rvc := { s.rvc with holdTimer := .stopped } }
    | .engaged => { s with rvc := { s.rvc with holdTimer := .stopped } }
  else s

/-- RVC at a warm reset (R128): no notice, cause or chime event goes out, and S3 is dirty. -/
def reverseWarmReset (s : State) : State := markDirty .s3 { s with rvc := Rvc.reset }

end Sys2Proof.Machine
end

