-- ==== Sys2Proof/Machine/Status.lean ====
section
/-! DEFINITION. The contents of the status sections (R36, 11.7): the codes of states, the fault records and the eight sections, each 96
bytes. Codes that the tables leave to inference are those of log 10 and log 11. -/

namespace Sys2Proof.Machine

/-! ## Fields -/

/-- A number of zero bytes: unused bytes of a section are written as 0 (R177). -/
def zeros (n : Nat) : List Byte := List.replicate n 0

/-- Bytes cut or padded with zeros to a length. -/
def padTo (n : Nat) (bytes : List Byte) : List Byte := (bytes ++ zeros n).take n

/-- The free bytes a section holds from an offset on, where a field is not meaningful (log 9). -/
def freeBytes (s : State) (off n : Nat) : List Byte := (List.range n).map fun i => Config.freeByte (s.freeCount + off + i)

/-- A field of n bytes at an offset: its bytes while it is meaningful, free bytes while it is not (log 9). -/
def orFree (s : State) (off n : Nat) : Option (List Byte) → List Byte
  | some bytes => padTo n bytes
  | none => freeBytes s off n

/-- Free bytes of one-byte fields from an offset on that are not meaningful: each holds one of so many codes or numbers from 0 up, the ones
the record tables give that field (R176, log 9). -/
def freeFields (s : State) (off : Nat) : List Nat → List Byte
  | [] => []
  | codes :: rest => put8 ((Config.freeByte (s.freeCount + off)).toNat % codes) ++ freeFields s (off + 1) rest

/-- One-byte fields at an offset: their bytes while they are meaningful, free codes and numbers in their ranges while they are not (log 9). -/
def orFreeFields (s : State) (off : Nat) (codes : List Nat) : Option (List Byte) → List Byte
  | some bytes => padTo codes.length bytes
  | none => freeFields s off codes

/-- A one-byte field that may be none. -/
def putOpt8 : Option Nat → List Byte
  | some n => put8 n
  | none => [0xFF]

/-- A two-byte field that may be none, written 0xFFFF then (Record Formats). -/
def putOpt16 : Option Nat → List Byte
  | some n => put16 n
  | none => [0xFF, 0xFF]

/-- A yes or no. -/
def putBool (b : Bool) : List Byte := if b then [1] else [0]

/-- A two-byte count. -/
def putCount (c : Count) : List Byte := put16 c.toNat

/-! ## Codes of states -/

/-- The code of a channel. -/
def Channel.code : Channel → Nat
  | .a => 0
  | .b => 1

/-- The code of a guide bank. -/
def Bank.code : Bank → Nat
  | .bank0 => 0
  | .bank1 => 1

/-- The code of a channel state. -/
def ChannelState.code : ChannelState → Nat
  | .idle => 0
  | .priming => 1
  | .playing => 2
  | .paused => 3
  | .ended => 4

/-- The code of a slot state. -/
def SlotState.code : SlotState → Nat
  | .free => 0
  | .filling => 1
  | .ready => 2
  | .shown => 3
  | .retired => 4

/-- The code of a part state. -/
def PartState.code : PartState → Nat
  | .init => 0
  | .running => 1

/-- The code of a layout state. -/
def LayoutState.code : LayoutState → Nat
  | .unconfigured => 0
  | .configured => 1
  | .staged => 2

/-- The code of the committed source. -/
def CommittedSource.code : CommittedSource → Nat
  | .default => 0
  | .host => 1

/-- The code of the warm reset phase. -/
def ResetPhase.code : ResetPhase → Nat
  | .none => 0
  | .draining => 1
  | .held => 2

/-- The code of a view state. -/
def View.code : View → Nat
  | .normal => 0
  | .engaged => 1
  | .hold => 2

/-- The code of an engage cause. -/
def EngageCause.code : EngageCause → Nat
  | .none => 0
  | .rev => 1
  | .host => 2

/-- The code of a REV level. -/
def RevLevel.code : RevLevel → Nat
  | .asserted => 0
  | .deasserted => 1

/-- The code of a camera health. -/
def Health.code : Health → Nat
  | .awaiting => 0
  | .good => 1
  | .lost => 2

/-- The code of a steering state. -/
def SteeringState.code : SteeringState → Nat
  | .absent => 0
  | .fresh => 1
  | .stale => 2

/-- The code of a top cache. -/
def TopCache.code : TopCache → Nat
  | .none => 0
  | .valid _ => 1
  | .invalid => 2

/-- The code of a notice cache. -/
def NoticeCache.code : NoticeCache → Nat
  | .absent => 0
  | .pending => 1
  | .inFlight => 2
  | .valid _ => 3
  | .invalid => 4

/-- The code of a voice state. -/
def VoiceState.code : VoiceState → Nat
  | .idle => 0
  | .starting => 1
  | .playing => 2

/-- The code of a chime's origin (11.7). -/
def Origin.code : Origin → Nat
  | .requested => 0
  | .event .reverseEngaged => 1
  | .event .cameraLost => 2
  | .event .sensorFault => 3
  | .event .faultCritical => 4

/-- A route set. -/
def Route.code (r : Route) : Nat := r.ha.toNat + 2 * r.hb.toNat

/-- A guide list in guide_fetch and in a fault detail (11.7). -/
def GuideList.code : GuideList → Nat
  | .static => 33
  | .bucket k => k

/-- The code of a fault class. -/
def FaultClass.code : FaultClass → Nat
  | .advisory => 0
  | .serious => 1
  | .critical => 2

/-- The code of a fault source. -/
def FaultSource.code : FaultSource → Nat
  | .hostLink => 0
  | .memory => 1
  | .filmA => 2
  | .filmB => 3
  | .panelRl => 4
  | .panelRr => 5
  | .panelC => 6
  | .camera => 7
  | .guide => 8
  | .park => 9
  | .chime => 10
  | .audio => 11
  | .request => 12
  | .layout => 13

/-! ## Fault records -/

/-- The code of a protected region's detail (11.7). -/
def ProtectedRegion.code : ProtectedRegion → Nat
  | .filmSlotsA => 38
  | .filmSlotsB => 39
  | .cameraRegion => 40
  | .guideBank0 => 41
  | .guideBank1 => 42
  | .statusBlock => 43

/-- A value given as "or none": a presence byte, then the value when present (11.7). -/
def putPresence : Option Count → List Byte
  | some c => [1] ++ putCount c
  | none => [0]

/-- A detail's code and its values in the order the reporting rule lists them (11.7). -/
def Detail.encode : Detail → Nat × List Byte
  | .noCredit => (32, [])
  | .misaligned => (33, [])
  | .beatCount => (34, [])
  | .pageCrossing => (35, [])
  | .outsideMemory => (36, [])
  | .noFillSlot => (37, [])
  | .touches region => (region.code, [])
  | .channelState state => (44, put8 state.code)
  | .hostBeats lowest count => (60, put8 (lowest + 16 * (count - 1)))
  | .memoryBeats lowest count port => (0xFF, put32 lowest ++ put8 count ++ put8 port.position)
  | .layoutCheck check row => (check, match row with | some i => put8 i | none => [])
  | .producer ahead rejected kept consumer =>
    (if ahead then 47 else 48, putCount rejected ++ putCount kept ++ putCount consumer)
  | .unknownKind kind index => (0xFF, putCount kind ++ putCount index)
  | .uiBase page => (0xFF, put32 page.toNat)
  | .lateLine line => (0xFF, put16 line)
  | .badMarker frameSeq => (45, put32 frameSeq.toNat)
  | .badDelay value frameSeq => (46, [value] ++ put32 frameSeq.toNat)
  | .starvedFrame frameSeq => (0xFF, put32 frameSeq.toNat)
  | .menuPage page check => (check, put8 page)
  | .cameraLost deadline lastGood => (if deadline then 55 else 54, putPresence lastGood)
  | .outOfOrder nextLine lineNo frameNo => (49, put16 nextLine ++ putCount lineNo ++ putCount frameNo)
  | .badCheck lineNo frameNo => (50, putCount lineNo ++ putCount frameNo)
  | .bufferOverrun lineNo frameNo => (51, putCount lineNo ++ putCount frameNo)
  | .missingLines missing frameNo => (52, put16 missing ++ putCount frameNo)
  | .startBeforeEnd frameNo => (53, putCount frameNo)
  | .steering seq => (0xFF, putPresence seq)
  | .guideList bank list check segment =>
    (check, put8 bank.code ++ put8 list.code ++ match segment with | some i => put8 i | none => [])
  | .tooFewValid validCount minValid => (56, put8 validCount ++ put8 minValid)
  | .noDistanceBeat seq => (57, putPresence seq)
  | .clipEntry clip check => (check, put8 clip)
  | .lateClip clip position => (0xFF, put8 clip ++ put16 position)
  | .audioProducer channel rejected kept consumer =>
    (0xFF, put8 channel.code ++ putCount rejected ++ putCount kept ++ putCount consumer)
  | .underrun late channel consumer => (if late then 58 else 59, put8 channel.code ++ putCount consumer)

/-- Byte 1 of a fault record (11.7). -/
def FaultRecord.flags (r : FaultRecord) : Nat :=
  r.report.source.code
    + (match r.report.txn with
        | some t => 16 + (match t.direction with | .write => 32 | .read => 0)
        | none => 0)
    + 64 * r.cls.code

/-- The 14 bytes of a fault record, EMPTY or not (11.7). -/
def encodeRecord : Option FaultRecord → List Byte
  | none => [0xFF] ++ zeros 13
  | some r =>
    let detail := r.report.detail.encode
    put8 r.report.kind.code ++ put8 r.flags ++ put32 r.time.toNat ++ put8 detail.1
      ++ (match r.report.txn with
          | none => padTo 7 detail.2
          | some t => padTo 1 detail.2 ++ put32 t.address.toNat ++ [t.tag] ++ [t.beatCount])

/-! ## Sections -/

/-- S0, general (R37). -/
def section0 (s : State) : List Byte :=
  put8 s.lyu.partState.code ++ put8 s.lyu.layoutState.code ++ put8 s.lyu.source.code ++ putOpt8 s.lyu.lastCommitCheck
    ++ put8 s.lyu.phase.code ++ zeros 1 ++ putCount s.lyu.resetCount ++ putCount s.rqe.consumer ++ put8 s.flt.causes.toNat

/-- The three slots of a channel, field by field. -/
def slotFields (r : FilmChannel) (f : Slot → List Byte) : List Byte := f r.slots.s0 ++ f r.slots.s1 ++ f r.slots.s2

/-- The frame_seq of a slot at an offset, meaningful where present. -/
def frameSeqField (s : State) (off : Nat) (t : Slot) : List Byte :=
  orFree s off 4 (t.frame.map fun f => put32 f.frameSeq.toNat)

/-- S1 or S2, a film channel (11.7). -/
def sectionFilm (r : FilmChannel) (s : State) : List Byte :=
  put8 r.state.code ++ putOpt8 (r.fill.map Fin.val) ++ put8 r.queue.length ++ putOpt8 (r.queue.head?.map Fin.val)
    ++ putOpt8 (r.queue.getLast?.map Fin.val) ++ put8 r.holdCount ++ put8 r.starveRun ++ putBool r.wrap
    ++ slotFields r (fun t => put8 t.state.code) ++ slotFields r (fun t => put8 t.scanHolds)
    ++ put8 (r.slots.s0.frame.isSome.toNat + 2 * r.slots.s1.frame.isSome.toNat + 4 * r.slots.s2.frame.isSome.toNat) ++ zeros 1
    ++ frameSeqField s 16 r.slots.s0 ++ frameSeqField s 20 r.slots.s1 ++ frameSeqField s 24 r.slots.s2
    ++ put8 r.elapsed.hours ++ put8 r.elapsed.minutes ++ put8 r.elapsed.seconds ++ zeros 1
    ++ putCount r.presented ++ putCount r.repeated ++ putCount r.dropped

/-- The static cache's state and its count, 0 to 16. -/
def staticCacheFields (s : State) : List Byte :=
  match s.gdu.staticCache with
  | .absent => put8 0 ++ freeFields s 25 [17]
  | .valid segments => put8 1 ++ put8 segments.length
  | .invalid => put8 2 ++ freeFields s 25 [17]

/-- The bucket cache's state, its bucket, 0 to 32, and its count, 0 to 12. -/
def bucketCacheFields (s : State) : List Byte :=
  match s.gdu.bucketCache with
  | .absent => put8 0 ++ freeFields s 27 [33, 13]
  | .valid k segments => put8 1 ++ put8 k ++ put8 segments.length
  | .invalid k => put8 2 ++ put8 k ++ freeFields s 28 [13]

/-- guide_fetch and its bank, of two codes. -/
def guideFetchFields (s : State) : List Byte :=
  match s.gdu.fetch with
  | none => [0xFF] ++ freeFields s 30 [2]
  | some f => put8 f.list.code ++ put8 f.bank.code

/-- The readout and its distance. -/
def readoutFields (s : State) : List Byte :=
  match s.pdu.readout with
  | .none => put8 0 ++ freeBytes s 41 1
  | .distance d => put8 1 ++ put8 d
  | .fault => put8 2 ++ freeBytes s 41 1
  | .clear => put8 3 ++ freeBytes s 41 1

/-- The frame_no of the latest slot, or none without one (R126). -/
def latestFrameNo (s : State) : Option Count := s.ccp.latest.bind fun i => s.ccp.frameNos.get i

/-- The reverse view and capture fields of S3 (R126). -/
def sectionReverse (s : State) : List Byte :=
  put8 s.rvc.view.code ++ put8 s.rvc.engageCause.code ++ put8 s.rvc.revQualified.code
    ++ putOpt8 (s.rvc.revPending.map fun p => p.level.code) ++ putBool (!s.rvc.hostRequest) ++ put8 s.rvc.health.code
    ++ put8 s.rvc.recoveryCount ++ putBool s.ccp.capturing ++ putOpt8 (s.ccp.latest.map Fin.val)
    ++ putOpt8 (s.ccp.pinned.map Fin.val) ++ putOpt16 ((latestFrameNo s).map BitVec.toNat)
    ++ putCount s.ccp.framesGood ++ putCount s.ccp.framesDamaged

/-- The guide fields of S3 (R143); steering_seq and steering_angle are none, 0xFFFF, while there is no steering beat. -/
def sectionGuide (s : State) : List Byte :=
  putOpt8 (s.gdu.liveBank.map Bank.code) ++ putOpt8 (s.gdu.stagedBank.map Bank.code) ++ put8 s.gdu.steeringState.code
    ++ put8 s.gdu.wantedBucket ++ putOpt16 (s.gdu.steering.map fun t => t.seq.toNat)
    ++ putOpt16 (s.gdu.steering.map fun t => (BitVec.ofInt 16 t.angle).toNat) ++ staticCacheFields s
    ++ bucketCacheFields s ++ guideFetchFields s ++ zeros 1

/-- The park fields of S3 (R143); distance_seq is none, 0xFFFF, while there is no distance beat. -/
def sectionPark (s : State) : List Byte :=
  putBool s.pdu.active ++ putBool s.pdu.distance.isSome ++ putOpt16 (s.pdu.distance.map fun d => d.seq.toNat)
    ++ put8 s.pdu.validCount ++ put8 (s.pdu.nearest.getD 255) ++ put8 s.pdu.zone ++ putBool s.pdu.sensorFault ++ readoutFields s

/-- A panel's part of S4, 16 bytes: depth, top cache state, page ids bottom first (11.7). -/
def menuFields (m : MenuPanel) : List Byte :=
  padTo 16 (put8 m.stack.length ++ put8 m.top.code ++ (m.stack.take 8).flatMap put8)

/-- S4, menus (11.7). -/
def sectionMenus (s : State) : List Byte :=
  menuFields s.mnu.panels.rl ++ menuFields s.mnu.panels.rr ++ menuFields s.mnu.panels.c
    ++ put8 s.mnu.service.code ++ put8 s.mnu.cameraLost.code ++ putOpt8 (s.mnu.request.map MenuRequest.page)

/-- An entry of the chime queue, 6 bytes. -/
def chimeFields (c : Chime) : List Byte :=
  put8 c.clip ++ put8 c.priority ++ put8 c.plays ++ put8 c.route.code ++ putBool c.requeue ++ put8 c.origin.code

/-- How many values each field of a queue entry has: clip, priority, repeat, route set, requeue, origin (section 9.2, 11.7). -/
def chimeCodes : List Nat := [32, 8, 16, 4, 2, 5]

/-- The eight queue entries of S5; those beyond the count are not meaningful. -/
def queueFields (s : State) : List Byte :=
  (List.range 8).flatMap fun i => orFreeFields s (6 * i) chimeCodes ((s.chu.queue[i]?).map chimeFields)

/-- Fields of the clip voice that are meaningful unless it is IDLE. -/
def unlessIdle (s : State) (bytes : List Byte) : Option (List Byte) := if s.chu.voice.state = .idle then none else some bytes

/-- How many values the clip voice's fields have: clip, priority, repeat, route set, pending stop (section 9.3). -/
def voiceCodes : List Nat := [32, 8, 16, 4, 2]

/-- The code of the tone voice's pending field. -/
def TonePending.code : TonePending → Nat
  | .none => 0
  | .cadence _ => 1
  | .stop => 2

/-- S5, chimes (11.7). -/
def sectionChimes (s : State) : List Byte :=
  let v := s.chu.voice
  let tone := s.chu.tone
  queueFields s ++ put8 s.chu.queue.length ++ put8 v.state.code
    ++ orFreeFields s 50 voiceCodes (unlessIdle s (put8 v.chime.clip ++ put8 v.chime.priority ++ put8 v.chime.plays
        ++ put8 v.chime.route.code ++ putBool v.pendingStop))
    ++ zeros 1 ++ orFree s 56 2 (unlessIdle s (put16 v.position)) ++ putBool tone.sounding ++ put8 tone.pending.code
    ++ orFree s 60 4 (if tone.sounding then some (put16 tone.cadence.period ++ put16 tone.cadence.onTime) else none)
    ++ putCount s.chu.dropped

/-- S6, audio (11.7). -/
def sectionAudio (s : State) : List Byte :=
  putCount s.aop.channels.a.producer ++ putCount s.aop.channels.a.consumer ++ putCount s.aop.channels.b.producer
    ++ putCount s.aop.channels.b.consumer ++ putBool s.aop.duckHa ++ putBool s.aop.duckHb

/-- A kind set in three bytes. -/
def kindSetField (set : BitVec 19) : List Byte := put16 set.toNat ++ put8 (set.toNat / 65536)

/-- S7, faults (11.7). -/
def sectionFaults (s : State) : List Byte :=
  let f := s.flt
  kindSetField f.seen.advisory ++ kindSetField f.seen.serious ++ kindSetField f.seen.critical ++ [f.tally]
    ++ put8 (f.overflow.toNat + 2 * f.degraded.toNat) ++ zeros 1
    ++ encodeRecord f.first.advisory ++ encodeRecord f.latest.advisory ++ encodeRecord f.first.serious
    ++ encodeRecord f.latest.serious ++ encodeRecord f.first.critical ++ encodeRecord f.latest.critical

/-- The contents of a section as they stand, 96 bytes (R36, 11.7). -/
def sectionBytes (k : StatusSection) (s : State) : List Byte :=
  padTo 96 (match k with
    | .s0 => section0 s
    | .s1 => sectionFilm s.fsq.a s
    | .s2 => sectionFilm s.fsq.b s
    | .s3 => sectionReverse s ++ sectionGuide s ++ sectionPark s
    | .s4 => sectionMenus s
    | .s5 => sectionChimes s
    | .s6 => sectionAudio s
    | .s7 => sectionFaults s)

/-- The number of a section. -/
def StatusSection.index : StatusSection → Nat
  | .s0 => 0
  | .s1 => 1
  | .s2 => 2
  | .s3 => 3
  | .s4 => 4
  | .s5 => 5
  | .s6 => 6
  | .s7 => 7

/-- The address of a section (section 2.1). -/
def sectionAddress (k : StatusSection) : Nat := Config.statusBase + 96 * k.index

end Sys2Proof.Machine
end

