-- ==== Sys2Proof/Machine/Compose.lean ====
section
/-! DEFINITION. Composition (R61): which bytes of memory a line of a refresh plan needs (R60, R62), how guide segments cover pixels
(R59), and the composed line. -/

namespace Sys2Proof.Machine

/-! ## The bytes a line needs -/

/-- A stretch of bytes of memory. -/
structure Stretch where
  address : Nat
  bytes : Nat
deriving DecidableEq, Repr

/-- The beats that hold a stretch (R62). -/
def Stretch.beats (t : Stretch) : Nat := (t.address % 16 + t.bytes + 15) / 16

/-- The requests of a stretch: its beats in ascending address order, cut into requests of at most 16 beats that do not cross a page
(R62). -/
def Stretch.requests (t : Stretch) : List Req := cutRequests t.beats (t.address - t.address % 16) t.beats

/-- The base row of a line (R62). -/
def Base.stretch (n : Nat) : Base → List Stretch
  | .none => []
  | .film _ _ a => [⟨a + 2560 * n, 2560⟩]
  | .camera _ a => [⟨a + 2560 * n, 2560⟩]
  | .ui a => [⟨a + 7680 * n, 7680⟩]

/-- A page covers a line. -/
def PageLayer.covers (l : PageLayer) (n : Nat) : Bool := decide (l.page.y ≤ n ∧ n < l.page.y + l.page.height)

/-- The page row of a line (R60). -/
def pageStretch (n : Nat) : Option PageLayer → List Stretch
  | none => []
  | some l => if l.covers n then [⟨l.plane + 4 * l.page.width * (n - l.page.y), 4 * l.page.width⟩] else []

/-- A readout covers a line: glyphs have 48 lines (R60). -/
def ReadoutLayer.covers (r : ReadoutLayer) (n : Nat) : Bool := decide (r.y ≤ n ∧ n < r.y + 48)

/-- The glyph rows of a line (R60). -/
def readoutStretches (n : Nat) : Option ReadoutLayer → List Stretch
  | none => []
  | some r => if r.covers n then r.glyphs.map fun g => ⟨r.strip + 6144 * g + 128 * (n - r.y), 128⟩ else []

/-- What a plan needs from memory for a line, in layer order (R62). -/
def Plan.stretches (p : Plan) (n : Nat) : List Stretch :=
  p.base.stretch n ++ pageStretch n p.notice ++ pageStretch n p.menu ++ readoutStretches n p.elapsed ++ readoutStretches n p.distance

/-- The requests of a line (R62). -/
def Plan.requests (p : Plan) (n : Nat) : List Req := (p.stretches n).flatMap Stretch.requests

/-- The fetched bytes of a line, stretch by stretch; bytes of a beat outside the stretch are not used (R62). -/
def sliceStretches : List Stretch → List Byte → List (List Byte)
  | [], _ => []
  | t :: rest, data => (data.drop (t.address % 16)).take t.bytes :: sliceStretches rest (data.drop (16 * t.beats))

/-- The bytes of a line, layer by layer. -/
structure LineSources where
  base : List Byte
  notice : List Byte
  menu : List Byte
  elapsed : List (List Byte)
  distance : List (List Byte)
deriving DecidableEq, Repr

/-- The fetched bytes of a line cut by layer. -/
def Plan.sources (p : Plan) (n : Nat) (data : List Byte) : LineSources :=
  let all := sliceStretches (p.stretches n) data
  let base := (p.base.stretch n).length
  let notice := (pageStretch n p.notice).length
  let menu := (pageStretch n p.menu).length
  let elapsed := (readoutStretches n p.elapsed).length
  { base := (all.take base).flatten
    notice := ((all.drop base).take notice).flatten
    menu := ((all.drop (base + notice)).take menu).flatten
    elapsed := (all.drop (base + notice + menu)).take elapsed
    distance := all.drop (base + notice + menu + elapsed) }

/-! ## Colours -/

/-- A composed pixel before its last rounding: each component is a numerator over one denominator (00_scope.md 6.5). -/
structure Blend where
  red : Nat
  green : Nat
  blue : Nat
  den : Nat
deriving DecidableEq, Repr

/-- An opaque colour. -/
def Colour.solid (c : Colour) : Blend := ⟨c.red.toNat, c.green.toNat, c.blue.toNat, 1⟩

/-- One component blended over another with an 8-bit alpha. -/
def mixComponent (upper alpha lower den : Nat) : Nat := alpha * upper * den + (255 - alpha) * lower

/-- A colour blended over a pixel with an 8-bit alpha (00_scope.md 6.5). -/
def Blend.over (b : Blend) (c : Colour) (alpha : Nat) : Blend :=
  if 255 ≤ alpha then c.solid
  else if alpha = 0 then b
  else
    { red := mixComponent c.red.toNat alpha b.red b.den
      green := mixComponent c.green.toNat alpha b.green b.den
      blue := mixComponent c.blue.toNat alpha b.blue b.den
      den := 255 * b.den }

/-- A component carried as 8 bits: exact where it is a whole number, else the whole number above or below (log 7). -/
def roundComponent (num den : Nat) : Byte :=
  if num % den = 0 then BitVec.ofNat 8 (num / den)
  else BitVec.ofNat 8 (num / den + if Config.roundsUp num den then 1 else 0)

/-- The pixel as the panel port carries it (R61). -/
def Blend.rgb (b : Blend) : Rgb := ⟨roundComponent b.red b.den, roundComponent b.green b.den, roundComponent b.blue b.den⟩

/-- A component in thousandths, rounded to the nearest integer, halves upward, and clamped (R61). -/
def clampThousandths (v : Int) : Byte := BitVec.ofInt 8 (max 0 (min 255 ((v + 500) / 1000)))

/-- A luma-chroma pixel converted to the panel's colour (R61). -/
def convertPixel (y cb cr : Byte) : Colour :=
  let luma : Int := 1000 * (y.toNat : Int)
  let b : Int := (cb.toNat : Int) - 128
  let r : Int := (cr.toNat : Int) - 128
  { blue := clampThousandths (luma + 1772 * b)
    green := clampThousandths (luma - 344 * b - 714 * r)
    red := clampThousandths (luma + 1402 * r)
    alpha := 255 }

/-- The pixel of a packed luma-chroma line (11.6). -/
def picturePixel (bytes : List Byte) (x : Nat) : Colour :=
  let off := 4 * (x / 2)
  convertPixel (bytes.getD (off + 2 * (x % 2)) 0) (bytes.getD (off + 1) 0) (bytes.getD (off + 3) 0)

/-! ## Layers -/

/-- Layer 2, the base (R61). That the 4-byte pixels of a UI plane have the byte order 11.6 gives page planes and the glyph strip (blue, green,
red, alpha) is the model's choice (log 43). -/
def layBase (base : Base) (bytes : List Byte) (x : Nat) (b : Blend) : Blend :=
  match base with
  | .none => b
  | .film _ _ _ => (picturePixel bytes x).solid
  | .camera _ _ => if 320 ≤ x ∧ x < 1600 then (picturePixel bytes (x - 320)).solid else b
  | .ui _ =>
    let c := getColour bytes (4 * x)
    b.over c c.alpha.toNat

/-- A segment covers a pixel of the camera picture: the pixel's centre lies within half the width of the straight line between the end
points (R59). Coordinates are doubled; where the centre lies is open (log 8). -/
def Segment.covers (g : Segment) (x y : Nat) : Bool :=
  let half : Int := if Config.pixelCentreAtHalf then 1 else 0
  let px : Int := 2 * (x : Int) + half - 2 * (g.x0 : Int)
  let py : Int := 2 * (y : Int) + half - 2 * (g.y0 : Int)
  let dx : Int := 2 * ((g.x1 : Int) - (g.x0 : Int))
  let dy : Int := 2 * ((g.y1 : Int) - (g.y0 : Int))
  let long := dx * dx + dy * dy
  let along := px * dx + py * dy
  let w2 : Int := (g.width : Int) * (g.width : Int)
  if along ≤ 0 then decide (px * px + py * py ≤ w2)
  else if long ≤ along then decide ((px - dx) * (px - dx) + (py - dy) * (py - dy) ≤ w2)
  else decide ((px * dy - py * dx) * (px * dy - py * dx) ≤ w2 * long)

/-- The palette colour of an index. -/
def Palette.colour (p : Palette) : Nat → Colour
  | 0 => p.c0
  | 1 => p.c1
  | 2 => p.c2
  | _ => p.c3

/-- A segment laid over a pixel with its palette colour's alpha (R59). -/
def laySegment (p : Palette) (x y : Nat) (b : Blend) (g : Segment) : Blend :=
  if g.covers x y then
    let c := p.colour g.colour
    b.over c c.alpha.toNat
  else b

/-- Layer 3, the guide overlay, within the camera picture: static segments, then bucket segments, in list order (R59). -/
def layGuide (guide : Option GuideOverlay) (x n : Nat) (b : Blend) : Blend :=
  match guide with
  | none => b
  | some o =>
    if 320 ≤ x ∧ x < 1600 then (o.static ++ o.bucket).foldl (laySegment o.palette (x - 320) n) b else b

/-- Layers 4 and 5, a page (R61): an OPAQUE page is laid as if every pixel had alpha 255. -/
def layPage (page : Option PageLayer) (bytes : List Byte) (x n : Nat) (b : Blend) : Blend :=
  match page with
  | none => b
  | some l =>
    if l.covers n ∧ l.page.x ≤ x ∧ x < l.page.x + l.page.width then
      let c := getColour bytes (4 * (x - l.page.x))
      b.over c (if l.page.opaquePage then 255 else c.alpha.toNat)
    else b

/-- A readout's glyphs, side by side, 32 pixels each (R60, R61). -/
def layReadout (readout : Option ReadoutLayer) (rows : List (List Byte)) (x n : Nat) (b : Blend) : Blend :=
  match readout with
  | none => b
  | some r =>
    if r.covers n ∧ r.x ≤ x ∧ x < r.x + 32 * r.glyphs.length then
      let j := x - r.x
      let c := getColour (rows.getD (j / 32) []) (4 * (j % 32))
      b.over c c.alpha.toNat
    else b

/-- The composed pixel of column x on line n (R61). -/
def Plan.pixel (p : Plan) (src : LineSources) (n x : Nat) : Rgb :=
  (layReadout p.distance src.distance x n
    (layReadout p.elapsed src.elapsed x n
      (layPage p.menu src.menu x n
        (layPage p.notice src.notice x n
          (layGuide p.guide x n
            (layBase p.base src.base x p.fill.solid)))))).rgb

/-- The composed line n of a panel so many pixels wide (R61). -/
def Plan.compose (p : Plan) (width n : Nat) (data : List Byte) : List Rgb :=
  let src := p.sources n data
  (List.range width).map (p.pixel src n)

/-- A line of the plan's fill colour alone (R63). -/
def Plan.fillLine (p : Plan) (width : Nat) : List Rgb := List.replicate width p.fill.solid.rgb

end Sys2Proof.Machine
end

