-- ==== Sys2Proof/Machine/Display.lean ====
section
/-! DEFINITION. The display engines (chapter 4): the refresh start and its plan (R52 to R60), the UI base beat (R56), line fetches (R62),
the line due (R63, R64), warm reset (R65, R66). -/

namespace Sys2Proof.Machine

/-- A panel's engine. -/
def engine (p : Panel) (s : State) : Den := s.den.panels.get p

/-- A panel's engine replaced. -/
def setEngine (p : Panel) (d : Den) (s : State) : State := { s with den := { s.den with panels := s.den.panels.set p d } }

/-! ## Line fetches -/

/-- The line after one, or done (table of chapter 4). -/
def lineAfter (p : Panel) (n : Nat) : Option Nat := if n + 1 < panelHeight p then some (n + 1) else none

/-- The engine works on: a line with nothing left to fetch joins the buffer, the next line is begun while the buffer has room for it,
and the claim of the next request is raised when the port is free (R62). The first argument bounds the number of turns. -/
def Den.work (p : Panel) : Nat → Den → Den
  | 0, d => d
  | fuel + 1, d =>
    match d.fetching with
    | some f =>
      match f.todo, d.claim with
      | [], _ =>
        Den.work p fuel { d with
          buffer := d.buffer ++ [⟨f.line, f.data, f.poison⟩], fetching := none, nextLine := lineAfter p f.line }
      | r :: _, .idle => { d with claim := .waiting r }
      | _ :: _, _ => d
    | none =>
      match d.nextLine with
      | some n =>
        if d.buffer.length < 4 then Den.work p fuel { d with fetching := some ⟨n, [], false, d.plan.requests n⟩ } else d
      | none => d

/-- The engine fetches on until its claim is raised or its buffer is full. -/
def Den.kick (p : Panel) (d : Den) : Den := d.work p 12

/-- A grant of a line fetch completes: its data joins the line, or is discarded when the line has been given up (R62, R63, R64). -/
def Den.lineGrant (p : Panel) (beats : List ReadBeat) (d : Den) : Den :=
  let free := { d with claim := .idle }
  match d.claim.live, d.fetching with
  | true, some f =>
    Den.kick p { free with fetching := some { f with
      data := f.data ++ beatData beats, poison := f.poison || anyPoison beats, todo := f.todo.drop 1 } }
  | _, _ => free.kick p

/-- LINE_FETCH_GRANT_COMPLETE (R62). An event with no such grant in progress is none the part raises (log 1). -/
def execLineFetchGrantComplete (s : State) : Host.Outcome State Fault Refusal :=
  match s.fmc.busy with
  | some ⟨.lineFetch p, beats⟩ => .next (setEngine p ((engine p s).lineGrant p beats) (freeFmc s))
  | _ => .next s

/-- The scan claim is urgent (R17, R62): no line ahead of the one being output is fetched, or in the blanking interval fewer than two
lines (log 14). -/
def Den.urgent (d : Den) : Bool :=
  match d.timing with
  | .line _ => d.buffer.isEmpty
  | .blanking => decide (d.buffer.length < 2)
  | .atRefreshStart => decide (d.buffer.length < 2)

/-! ## The line due -/

/-- The line that falls due next, if one does (R51). -/
def Den.dueLine (p : Panel) (d : Den) : Option Nat :=
  match d.timing with
  | .atRefreshStart => none
  | .blanking => some 0
  | .line n => lineAfter p n

/-- The line output in place of a late or poisoned one (R63, R64). -/
def Den.repeated (p : Panel) (d : Den) (n : Nat) : List Rgb := if n = 0 then d.plan.fillLine (panelWidth p) else d.output

/-- The engine gives up the fetch of a late line and goes on with the next (R63). -/
def Den.giveUpLine (p : Panel) (d : Den) (n : Nat) : Den :=
  match d.nextLine with
  | some m =>
    if m = n then { d with fetching := none, claim := if d.fetching.isSome then d.claim.giveUp else d.claim, nextLine := lineAfter p n }
    else d
  | none => d

/-- A line n that is not fetched is late (R63): the engine afterwards. -/
def Den.late (p : Panel) (d : Den) (n : Nat) : Den :=
  Den.kick p { d.giveUpLine p n with output := d.repeated p n, underflow := true }

/-- A line n that is fetched is output, or the previous one again when it is unusable, and its space is freed (R63, R64). -/
def Den.outputLine (p : Panel) (d : Den) (b : BufferedLine) : Den :=
  Den.kick p { d with
    buffer := d.buffer.filter fun l => !(l.line == b.line)
    output := if b.poison then d.repeated p b.line else d.plan.compose (panelWidth p) b.line b.data }

/-- LINE_DUE (R63). A line that one grant has poisoned and that is not wholly fetched at its due is late and reported as R63 gives, and not
passed over as R64 gives a poisoned line: the model's choice (log 45). A line due of a generator that is at a refresh start is none the part raises (log 29). -/
def execLineDue (p : Panel) (s : State) : Host.Outcome State Fault Refusal :=
  let d := engine p s
  match d.dueLine p with
  | none => .next s
  | some n =>
    let e := { d with timing := .line n }
    match e.buffer.find? (fun l => l.line == n) with
    | some b => .next (setEngine p (e.outputLine p b) s)
    | none =>
      let t := setEngine p (e.late p n) s
      if d.underflow then .next t else .next (reportPlain .scanUnderflow (panelSource p) (.lateLine n) t)

/-! ## The refresh plan -/

/-- The film slots row of a channel. -/
def filmRow (x : Channel) (m : RegionMap) : Option Region :=
  match x with
  | .a => m.filmSlotsA
  | .b => m.filmSlotsB

/-- The base address of a film slot (R7). -/
def filmSlotAddress (x : Channel) (i : Fin 3) (m : RegionMap) : Nat := rowBase (filmRow x m) + Config.filmSlotStride * i.val

/-- A panel's background colour in the committed layout. -/
def background (p : Panel) (s : State) : Colour := s.lyu.committed.background.get p

/-- The rear panels. -/
inductive RearPanel where
  | left
  | right
deriving DecidableEq, Repr

/-- The panel of a rear panel. -/
def RearPanel.panel : RearPanel → Panel
  | .left => .rl
  | .right => .rr

/-- The channel a rear panel shows (section 4.3). -/
def RearPanel.channel (p : RearPanel) (s : State) : Channel :=
  match p with
  | .left => .a
  | .right => s.lyu.committed.rrSource

/-- The channel that presents at a rear panel's refresh start (R71 step 1). -/
def RearPanel.presents (p : RearPanel) (s : State) : Option Channel :=
  match p with
  | .left => some .a
  | .right =>
    match s.lyu.committed.rrSource with
    | .a => none
    | .b => some .b

/-- A rear engine's hold record. -/
def RearPanel.hold (p : RearPanel) (s : State) : Option Hold :=
  match p with
  | .left => s.den.holdRl
  | .right => s.den.holdRr

/-- A rear engine's hold record replaced. -/
def RearPanel.setHold (p : RearPanel) (h : Option Hold) (s : State) : State :=
  match p with
  | .left => { s with den := { s.den with holdRl := h } }
  | .right => { s with den := { s.den with holdRr := h } }

/-- The attention cause of a film's end. -/
def endedCause : Channel → Cause
  | .a => .filmEndedA
  | .b => .filmEndedB

/-- What a presentation step hands other blocks (R73, R74). -/
def handPresented (x : Channel) (p : Presented) (s : State) : State :=
  match p with
  | .quietly => s
  | .starved seq => reportPlain .filmStarved (channelSource x) (.starvedFrame seq) s
  | .filmEnded => raiseCause (endedCause x) s

/-- The presentation step at a rear refresh start, on the record alone (R71 step 1). -/
def presentAt (x : Option Channel) (fsq : PerChannel FilmChannel) : PerChannel FilmChannel × Presented :=
  match x with
  | none => (fsq, .quietly)
  | some c => (fsq.set c (fsq.get c).presentationStep.1, (fsq.get c).presentationStep.2)

/-- The standing choice on a channel of the table. -/
def standingAt (x : Option Channel) (fsq : PerChannel FilmChannel) : PerChannel FilmChannel :=
  match x with
  | none => fsq
  | some c => fsq.set c (fsq.get c).standing

/-- FSQ at a rear refresh start (R71): presentation, the scan hold exchange, the standing choice on each channel touched. Showing is
whether the engine's plan may carry a FILM base: not while it is held or the part is DEGRADED (R54, R55, R65). -/
def filmRefresh (p : RearPanel) (showing : Bool) (s : State) : State :=
  let presenting := p.presents s
  let stepped := presentAt presenting s.fsq
  let x := p.channel s
  let hold := if showing then ((stepped.1.get x).shown.map fun i => Hold.mk x i) else none
  let old := p.hold s
  let exchanged := exchangeHolds old hold stepped.1
  let fsq := standingAt (hold.map Hold.channel) (standingAt (old.map Hold.channel) (standingAt presenting exchanged))
  let t := p.setHold hold (setChannel .b (fsq.get .b) (setChannel .a (fsq.get .a) s))
  match presenting with
  | none => t
  | some c => handPresented c stepped.2 t

/-- The FILM base a hold record names (R53). -/
def filmBase (h : Option Hold) (s : State) : Base :=
  match h with
  | none => .none
  | some h => .film h.channel h.slot (filmSlotAddress h.channel h.slot s.lyu.committed.map)

/-- The plan of a rear panel (R53, R55, R60, R65), from the state after FSQ's event; degraded is the flag as read at the refresh start. -/
def rearPlan (p : RearPanel) (held degraded : Bool) (s : State) : Plan :=
  let fill := Plan.fillOnly (background p.panel s)
  if held then fill
  else if degraded then { fill with notice := noticeAnswer s.mnu.service s }
  else
    let menu := menuPageAnswer p.panel s.rvc.view s
    { fill with base := filmBase (p.hold s) s, menu := menu, elapsed := elapsedAnswer menu s }

/-- The engine begins a refresh: line 0 is fetched first, and underflow reported becomes no (R62, R63). -/
def Den.begin (p : Panel) (plan : Plan) (d : Den) : Den :=
  Den.kick p { d with
    timing := .blanking, plan := plan, buffer := [], fetching := none, nextLine := some 0, claim := d.claim.giveUp, underflow := false }

/-- A refresh start of a rear panel (R52 to R55, R71). The engine reads DEGRADED before FSQ takes the event (log 13). -/
def rearRefresh (p : RearPanel) (s : State) : State :=
  let held := (engine p.panel s).held
  let degraded := s.flt.degraded
  let t := filmRefresh p (!held && !degraded) s
  aopKick (setEngine p.panel ((engine p.panel t).begin p.panel (rearPlan p held degraded t)) t)

/-- The plan of C with a given fill colour and the menu page (R57, R60). -/
def centrePlan (fill : Colour) (s : State) : Plan :=
  let menu := menuPageAnswer .c s.rvc.view s
  { Plan.fillOnly fill with menu := menu, elapsed := elapsedAnswer menu s }

/-- DEN-C's pin exchange: CCP acts, and the pin record names what CCP pins (R58, R124). -/
def pinExchange (move : Bool) (s : State) : State :=
  let t := exchangePin move s
  { t with den := { t.den with pin := t.ccp.pinned } }

/-- The UI base of the current refresh (R57). -/
def uiBase (s : State) : Base :=
  match s.den.uiCurrent with
  | none => .none
  | some page => .ui (pageAddress page)

/-- The distance readout goes with ENGAGED (R57). -/
def distanceFor (view : View) (s : State) : Option ReadoutLayer :=
  match view with
  | .engaged => distanceAnswer s
  | .hold => none
  | .normal => none

/-- The plan of the GOOD row, or that of the AWAITING row when CCP names no latest slot (R57). -/
def goodPlan (s : State) : Plan :=
  let plan := centrePlan s.lyu.committed.barColour s
  match s.den.pin with
  | none => plan
  | some i =>
    { plan with
      base := .camera i (rowBase s.lyu.committed.map.camera + Config.cameraSlotStride * i.val)
      guide := some (guideAnswer s)
      distance := distanceFor s.rvc.view s }

/-- The pin exchange and the plan of C by the view state and the camera health (R57, R58). -/
def centreRow (s : State) : State × Plan :=
  match s.rvc.view, s.rvc.health with
  | .normal, _ =>
    let t := pinExchange false s
    (t, { centrePlan t.lyu.committed.background.c t with base := uiBase t })
  | _, .awaiting =>
    let t := pinExchange false s
    (t, centrePlan t.lyu.committed.barColour t)
  | _, .good =>
    let t := pinExchange true s
    (t, goodPlan t)
  | _, .lost =>
    let t := pinExchange false s
    (t, { centrePlan t.lyu.committed.barColour t with notice := noticeAnswer t.mnu.cameraLost t })

/-- A refresh start of C (R52, R56 to R59, R65): GDU's switch comes before the plan. -/
def centreRefresh (s : State) : State :=
  let u := { s with den := { s.den with uiCurrent := s.den.uiPending } }
  if (engine .c s).held then
    let t := pinExchange false u
    setEngine .c ((engine .c t).begin .c (Plan.fillOnly (background .c t))) t
  else
    let row := centreRow (guideSwitch u)
    setEngine .c ((engine .c row.1).begin .c row.2) row.1

/-- A refresh start may come: at POR's restart of the generator, or after the last line (R51, log 29). -/
def Den.refreshComes (p : Panel) (d : Den) : Bool :=
  match d.timing with
  | .atRefreshStart => true
  | .blanking => false
  | .line n => (lineAfter p n).isNone

/-- REFRESH_START (R52). A refresh start before the last line of a refresh is none the part raises (log 29). -/
def execRefreshStart (p : Panel) (s : State) : Host.Outcome State Fault Refusal :=
  if (engine p s).refreshComes p then
    match p with
    | .rl => .next (rearRefresh .left s)
    | .rr => .next (rearRefresh .right s)
    | .c => .next (centreRefresh s)
  else .next s

/-! ## The UI base beat, warm reset -/

/-- The pages of a UI plane (section 4.4). -/
def uiPlanePages : Nat := 1350

/-- DEN-C takes a copy of the UI base beat (R56); a held DEN-C discards it (R65). -/
def uiBaseBeat (bytes : List Byte) (s : State) : State :=
  let page := get32 bytes 4
  if (engine .c s).held then s
  else if get8 bytes 0 = 0 then { s with den := { s.den with uiPending := none } }
  else if get8 bytes 0 = 1 ∧ page + uiPlanePages ≤ Config.anchorPage then { s with den := { s.den with uiPending := some page } }
  else reportPlain .requestInvalid .panelC (.uiBase (BitVec.ofNat 32 page)) s

/-- An engine becomes held or ceases to be (R65, R66). -/
def Den.hold (held : Bool) (d : Den) : Den := { d with held := held }

/-- The engines at a warm reset: held, UI bases NONE, the refresh in progress running on with its holds and pin (R65). -/
def displayWarmReset (s : State) : State :=
  let d := s.den
  { s with den := { d with
      panels := ⟨d.panels.rl.hold true, d.panels.rr.hold true, d.panels.c.hold true⟩, uiPending := none, uiCurrent := none } }

/-- The engines at the release (R66). -/
def displayRelease (s : State) : State :=
  let d := s.den
  { s with den := { d with panels := ⟨d.panels.rl.hold false, d.panels.rr.hold false, d.panels.c.hold false⟩ } }

end Sys2Proof.Machine
end

