-- ==== Sys2Proof/Machine/Ring.lean ====
section
/-! DEFINITION. The request engine (chapter 3): the producer beat (R42), starting an entry (R43), judging and dispatching it (R44 to R46)
with the film requests (R79 to R83), the consumer advance (R47), drain and warm reset (R48, R49). -/

namespace Sys2Proof.Machine

/-- RQE's state replaced. -/
def setRqe (r : Rqe) (s : State) : State := { s with rqe := r }

/-! ## Starting an entry -/

/-- RQE may start an entry (R43). -/
def Rqe.mayStart (r : Rqe) : Bool :=
  r.entry.isNone && decide (r.consumer ≠ r.producer) && decide (r.drain = .none) && !r.held

/-- The address of a ring entry (chapter 3). -/
def entryAddress (index : Count) : Nat := Config.ringBase + 32 * (index.toNat % 32)

/-- The entry with index consumer enters execution in FETCHING when RQE may start one (R43). -/
def Rqe.start (r : Rqe) : Rqe :=
  if r.mayStart then { r with entry := some ⟨r.consumer, .fetching⟩, fetched := [] } else r

/-- An entry in FETCHING raises its claim when the port is free (R43, R20). -/
def Rqe.raise (r : Rqe) : Rqe :=
  match r.claim, r.entry with
  | .idle, some ⟨index, .fetching⟩ => { r with claim := .waiting ⟨entryAddress index, 2⟩ }
  | _, _ => r

/-- RQE starts the next entry if it may, and raises the claim of an entry to be fetched. -/
def Rqe.kick (r : Rqe) : Rqe := r.start.raise

/-! ## The producer beat -/

/-- A new producer value is accepted (R42): by its distance ahead of consumer. -/
def Rqe.accepts (r : Rqe) (value : Count) : Bool :=
  let distance := (value - r.consumer).toNat
  match r.entry with
  | none => decide (distance ≤ 32)
  | some _ => decide (1 ≤ distance ∧ distance ≤ 32)

/-- A value that is not accepted is ahead, or behind an entry in execution (R42). -/
def Rqe.isAhead (r : Rqe) (value : Count) : Bool :=
  let distance := (value - r.consumer).toNat
  match r.entry with
  | none => true
  | some _ => decide (33 ≤ distance ∧ distance ≤ 65503)

/-- RQE takes a copy of the request producer beat (R42); a held RQE discards it (R50). -/
def producerBeat (bytes : List Byte) (s : State) : State :=
  let value := producerOf bytes
  let r := s.rqe
  if r.held then s
  else if r.accepts value then setRqe { r with producer := value }.kick s
  else reportPlain .requestInvalid .request (.producer (r.isAhead value) value r.producer r.consumer) s

/-! ## Film requests -/

/-- The arguments common to the film requests (R79). -/
def filmRequest (channel : Nat) (act : Channel → State → State × ResultCode) (s : State) : State × ResultCode :=
  match channelOfCode channel with
  | none => (s, .badArgument)
  | some .a => act .a s
  | some .b => if s.lyu.committed.rrSource = .a then (s, .notRouted) else act .b s

/-- A channel's record changed by a request; the standing choice closes the event (R67). -/
def changeChannel (x : Channel) (f : FilmChannel → FilmChannel) (s : State) : State := setChannel x (f (s.fsq.get x)).standing s

/-- FILM_PLAY (R80). -/
def requestFilmPlay (x : Channel) (s : State) : State × ResultCode :=
  if s.flt.degraded then (s, .degraded)
  else if s.lyu.layoutState = .staged then (s, .busy)
  else (aopKick (changeChannel x FilmChannel.play s), .ok)

/-- FILM_PAUSE (R81). -/
def requestFilmPause (x : Channel) (s : State) : State × ResultCode := (changeChannel x FilmChannel.pause s, .ok)

/-- FILM_STOP (R82). -/
def requestFilmStop (x : Channel) (s : State) : State × ResultCode :=
  (audioStop x (markDirty (channelSection x) (changeChannel x FilmChannel.stop s)), .ok)

/-- FILM_SEEK (R83). -/
def requestFilmSeek (h m sec : Nat) (x : Channel) (s : State) : State × ResultCode :=
  if 9 < h ∨ 59 < m ∨ 59 < sec then (s, .badArgument)
  else (markDirty (channelSection x) (changeChannel x (fun r => r.seek ⟨h, m, sec⟩) s), .ok)

/-! ## Judging an entry -/

/-- An answer given at dispatch. -/
def answered (r : State × ResultCode) : State × Option ResultCode := (r.1, some r.2)

/-- The owner's act on a request of a kind 1 to 17, with the entry's bytes (section 3.4, 11.5); none for any other kind. -/
def dispatchKind (kind : Nat) (e : List Byte) (s : State) : Option (State × Option ResultCode) :=
  let arg := get8 e
  match kind with
  | 1 => some (requestLayoutCommit s)
  | 2 => some (answered (filmRequest (arg 4) requestFilmPlay s))
  | 3 => some (answered (filmRequest (arg 4) requestFilmPause s))
  | 4 => some (answered (filmRequest (arg 4) requestFilmStop s))
  | 5 => some (answered (filmRequest (arg 4) (requestFilmSeek (arg 5) (arg 6) (arg 7)) s))
  | 6 => some (requestMenuPush (arg 4) (arg 5) s)
  | 7 => some (requestMenuPop (arg 4) s)
  | 8 => some (requestMenuReplace (arg 4) (arg 5) s)
  | 9 => some (requestMenuClear (arg 4) s)
  | 10 => some (requestMenuTouch (arg 4) s)
  | 11 => some (answered (requestViewCamera (arg 4) s))
  | 12 => some (answered (requestGuideBank (arg 4) s))
  | 13 => some (answered (requestChimePlay (arg 4) (arg 5) (arg 6) (arg 7) (arg 8) s))
  | 14 => some (answered (requestChimeStop (if arg 4 = 0xFF then none else some (arg 4)) s))
  | 15 => some (answered (requestFaultAck (arg 4) (arg 5) s))
  | 16 => some (answered (requestAttnAck (arg 4) s))
  | 17 => some (answered (requestResume s))
  | _ => none

/-- The kinds taken while the default layout is committed (R45 step 2). -/
def ungatedKind (kind : Nat) : Bool := kind == 1 || kind == 11 || kind == 15 || kind == 16

/-- The entry in execution enters a phase. -/
def enterPhase (phase : EntryPhase) (s : State) : State :=
  setRqe { s.rqe with entry := s.rqe.entry.map fun e => { e with phase := phase } } s

/-- The owner's answer, if it gives one at dispatch, goes to result writing (R46). -/
def finishDispatch (r : State × Option ResultCode) : State :=
  match r.2 with
  | some code => giveResult code r.1
  | none => r.1

/-- A known kind is 1 to 17 (R45 step 1). -/
def knownKind (kind : Nat) : Bool := decide (1 ≤ kind ∧ kind ≤ 17)

/-- An unpoisoned entry is judged in three steps: its kind, the gate of the default layout, and dispatch (R45). -/
def judgeEntry (index : Count) (e : List Byte) (s : State) : State :=
  let kind := get16 e 0
  if knownKind kind = false then
    giveResult .unknownKind (reportPlain .requestInvalid .request (.unknownKind (BitVec.ofNat 16 kind) index) s)
  else if s.lyu.source = .default ∧ ungatedKind kind = false then giveResult .notConfigured s
  else
    match dispatchKind kind e (enterPhase .withOwner s) with
    | some r => finishDispatch r
    | none => s

/-- What the completion of an entry fetch does: RQE holds the entry's two beats, poisoned or not, and decodes an unpoisoned entry (R44,
R45); the data of an abandoned fetch is discarded (R49). -/
def entryFetched (beats : List ReadBeat) (s : State) : State :=
  match s.rqe.claim.live, s.rqe.entry with
  | true, some e =>
    let t := setRqe { s.rqe with claim := .idle, fetched := beatData beats } s
    if anyPoison beats then giveResult .memError t else judgeEntry e.index (beatData beats) t
  | _, _ => setRqe { s.rqe with claim := .idle }.kick s

/-! ## The consumer advance and warm reset -/

/-- The result write of an entry has completed: consumer advances, a drain is done, and the next entry starts (R47, R48). -/
def Rqe.advance (r : Rqe) : Rqe :=
  let done := { r with
    consumer := r.consumer + 1, entry := none, fetched := []
    drain := match r.drain with
      | .draining => .drained
      | .none => .none
      | .drained => .drained }
  done.kick

/-- RQE begins to drain (R48). -/
def Rqe.beginDrain (r : Rqe) : Rqe := { r with drain := if r.entry.isNone then .drained else .draining }

/-- RQE at a warm reset (R49): the entry in execution is abandoned. -/
def ringWarmReset (s : State) : State :=
  markDirty .s0 (setRqe { Rqe.reset with held := true, claim := s.rqe.claim.giveUp } s)

end Sys2Proof.Machine
end

