-- ==== Sys2Proof/Machine/WarmReset.lean ====
section
/-! DEFINITION. Power-on, INIT and warm reset (R34, R35, R38 to R40), and the commands in whose event a drain can end. -/

namespace Sys2Proof.Machine

/-! ## Applying and releasing a warm reset -/

/-- FSQ at a warm reset (R89). -/
def filmWarmReset (s : State) : State :=
  markDirty .s2 (markDirty .s1 { s with fsq := ⟨s.fsq.a.warmReset, s.fsq.b.warmReset⟩ })

/-- FLT at a warm reset (R175): DEGRADED and the attention cause set are cleared, the records and the tally are kept. -/
def faultWarmReset (s : State) : State := { s with flt := { s.flt with degraded := false, causes := 0 } }

/-- STW at a warm reset (R39): every section is dirty, and a result write not yet granted is dropped. -/
def Stw.warmReset (w : Stw) : Stw :=
  let claim := match w.claim with
    | .resultWaiting => .idle
    | .idle => .idle
    | .sectionWaiting k => .sectionWaiting k
    | .sectionGranted => .sectionGranted
    | .resultGranted => .resultGranted
  { dirty := DirtySet.all, result := none, claim := claim : Stw }.raise

/-- LYU applies the warm reset (R39). -/
def applyReset (s : State) : State :=
  let lyu := { s.lyu.discardStaged.abandonCommit with phase := .held, drainLimit := .stopped }
  let blocks := audioWarmReset (chimeWarmReset (parkWarmReset (guideWarmReset (captureWarmReset (reverseWarmReset (menuWarmReset
    (displayWarmReset (filmWarmReset (ringWarmReset (setLyu lyu s))))))))))
  let faults := faultWarmReset blocks
  let silent := { faults with aop := { faults.aop with tdm := silentBlock } }
  { silent with stw := silent.stw.warmReset }

/-- The blocks without work of their own at the release cease to be held (R40). -/
def unhold (s : State) : State :=
  { s with
    rqe := { s.rqe with held := false }
    ccp := { s.ccp with held := false }
    gdu := { s.gdu with held := false }
    pdu := { s.pdu with held := false }
    chu := { s.chu with held := false }
    aop := { s.aop with held := false } }

/-- LYU releases the operational blocks (R40). -/
def releaseReset (s : State) : State :=
  let lyu := { s.lyu with phase := .none, resetCount := s.lyu.resetCount + 1 }
  raiseCause .resetDone (beginActing (menuRelease (displayRelease (unhold (markDirty .s0 (setLyu lyu s))))))

/-- The warm reset is applied, and released at once when WRST is deasserted (R38, R40). -/
def resetNow (s : State) : State :=
  match s.pins.wrst with
  | .high => applyReset s
  | .low => releaseReset (applyReset s)

/-- The three drained blocks have reported their boundaries (R38). -/
def drainOver (s : State) : Bool :=
  decide (s.lyu.phase = .draining) && decide (s.rqe.drain = .drained) && decide (s.ccp.drain = .drained)
    && decide (s.chu.drain = .drained)

/-- The reset is applied in the event in which the last boundary is reported (R38). -/
def checkDrain (s : State) : State := if drainOver s then resetNow s else s

/-- CHU begins to drain (R163). -/
def Chu.beginDrain (c : Chu) : Chu := { c with drain := if c.voice.state = .idle then .drained else .draining }

/-- LYU starts the drain and its limit (R38). -/
def startDrain (s : State) : State :=
  let lyu := { s.lyu with phase := .draining, drainLimit := Timer.start (now s) 100 }
  let told := drainCapture { setLyu lyu s with rqe := s.rqe.beginDrain, chu := s.chu.beginDrain }
  markDirty .s0 told

/-- LYU takes an assertion of WRST by the committed warm_reset_mode (R38). -/
def takeAssertion (s : State) : State :=
  match s.lyu.committed.warmResetMode with
  | .immediate => resetNow s
  | .boundary => checkDrain (startDrain s)

/-- WRST_ASSERT (R38): taken in RUNNING with phase NONE. A level WRST already has is no assertion (log 1). -/
def execWrstAssert (s : State) : Host.Outcome State Fault Refusal :=
  if s.pins.wrst = .high then .next s
  else
    let t := { s with pins := { s.pins with wrst := .high } }
    match s.lyu.partState, s.lyu.phase with
    | .running, .none => .next (takeAssertion t)
    | .running, .draining => .next t
    | .running, .held => .next t
    | .init, _ => .next t

/-- WRST_DEASSERT (R40). A level WRST already has is no deassertion (log 1). -/
def execWrstDeassert (s : State) : Host.Outcome State Fault Refusal :=
  if s.pins.wrst = .low then .next s
  else
    let t := { s with pins := { s.pins with wrst := .low } }
    match s.lyu.phase with
    | .held => .next (releaseReset t)
    | .draining => .next t
    | .none => .next t

/-- DRAIN_LIMIT_EXPIRY (R38). An expiry of a timer that is not due is none the part raises (log 1). -/
def execDrainLimitExpiry (s : State) : Host.Outcome State Fault Refusal :=
  if s.lyu.drainLimit.due (now s) then .next (resetNow s) else .next s

/-! ## Power-on -/

/-- POWER_ON_RESET (R34): every block takes its power-on state. The cells of frame memory stay until the fill of INIT completes (R14,
log 5), and the input pins keep their levels (log 4). -/
def execPowerOnReset (s : State) : Host.Outcome State Fault Refusal :=
  .next { State.reset with
    fmc := { State.reset.fmc with cells := s.fmc.cells, marks := s.fmc.marks }
    pins := s.pins, freeCount := s.freeCount, pending := s.pending }

/-- The part enters RUNNING: the fill is complete, part time starts at 0 and the host gets its 32 credits (R14, R35). -/
def enterRunning (s : State) : State :=
  { s with
    fmc := { s.fmc with cells := [], marks := [] }
    lyu := { s.lyu with partState := .running, partTime := 0 }
    hlp := { s.hlp with credits := 32 } }

/-- INIT_END (R35): taken in INIT. A WRST already high is taken as an assertion in this event. -/
def execInitEnd (s : State) : Host.Outcome State Fault Refusal :=
  match s.lyu.partState with
  | .running => .next s
  | .init =>
    let t := beginActing (raiseCause .resetDone (markDirty .s0 (enterRunning s)))
    match s.pins.wrst with
    | .low => .next t
    | .high => .next (takeAssertion t)

/-! ## Completions of the request ring and the status writer -/

/-- ENTRY_FETCH_COMPLETE (R44, R45). An event with no such grant in progress is none the part raises (log 1). -/
def execEntryFetchComplete (s : State) : Host.Outcome State Fault Refusal :=
  match s.fmc.busy with
  | some ⟨.entryFetch, beats⟩ => .next (checkDrain (entryFetched beats (freeFmc s)))
  | _ => .next s

/-- The status writer's result write is done: RQE advances, unless the entry has been abandoned (R37, R47, R49). -/
def resultWritten (s : State) : State :=
  let t := { s with stw := { s.stw with result := none, claim := .idle } }
  match s.stw.result, s.rqe.entry with
  | some _, some ⟨_, .writingResult⟩ => markDirty .s0 (setRqe t.rqe.advance t)
  | _, _ => { t with stw := t.stw.raise }

/-- RESULT_WRITE_COMPLETE (R47). An event with no such grant in progress is none the part raises (log 1). -/
def execResultWriteComplete (s : State) : Host.Outcome State Fault Refusal :=
  match s.fmc.busy with
  | some ⟨.resultWrite, _⟩ => .next (checkDrain (resultWritten (freeFmc s)))
  | _ => .next s

/-- STATUS_SECTION_WRITE_COMPLETE (R36). An event with no such grant in progress is none the part raises (log 1). -/
def execStatusSectionWriteComplete (s : State) : Host.Outcome State Fault Refusal :=
  match s.fmc.busy with
  | some ⟨.statusSection, _⟩ =>
    let t := freeFmc s
    .next { t with stw := { t.stw with claim := .idle }.raise }
  | _ => .next s

/-! ## Camera packets, capture writes and view timers: a drain can end in their event (R127) -/

/-- FRAME_START (R119, R120). -/
def execFrameStart (frameNo : Count) (s : State) : Host.Outcome State Fault Refusal := .next (checkDrain (takeFrameStart frameNo s))

/-- LINE (R119, R121). -/
def execLine (lineNo : Count) (data : List Byte) (check : BitVec 32) (s : State) : Host.Outcome State Fault Refusal :=
  .next (checkDrain (takeLine lineNo data check s))

/-- FRAME_END (R119, R122). -/
def execFrameEnd (s : State) : Host.Outcome State Fault Refusal := .next (checkDrain (takeFrameEnd s))

/-- CAMERA_LINE_WRITE_COMPLETE (R121, R122). An event with no such grant in progress is none the part raises (log 1). -/
def execCameraLineWriteComplete (s : State) : Host.Outcome State Fault Refusal :=
  match s.fmc.busy with
  | some ⟨.cameraWrite, _⟩ => .next (checkDrain (lineWritten (freeFmc s)))
  | _ => .next s

/-- REV_PENDING_EXPIRY (R108). An expiry that is not due is none the part raises (log 1). -/
def execRevPendingExpiry (s : State) : Host.Outcome State Fault Refusal := .next (checkDrain (qualifyRev s))

/-- HOLD_TIMER_EXPIRY (R114). An expiry of a timer that is not due is none the part raises (log 1). -/
def execHoldTimerExpiry (s : State) : Host.Outcome State Fault Refusal := .next (checkDrain (endHold s))

/-- BLOCK_BOUNDARY (R146): the voices and film channels settle and the block is mixed; CHU's boundary in a drain is reported here (R163). -/
def execBlockBoundary (s : State) : Host.Outcome State Fault Refusal := .next (checkDrain (blockBoundary s))

end Sys2Proof.Machine
end

