-- ==== Sys2Proof/Machine/HostPath.lean ====
section
/-! DEFINITION. The host's path (chapter 1): HLP's queue and credits (R1 to R3), WDC's take (R4 to R12) with the trailers (R68) and the
watched beats it hands on, and the disturbance of the memory cells (R15). -/

namespace Sys2Proof.Machine

/-! ## The host link port -/

/-- The code of a response's outcome (11.1). -/
def HostOutcome.code : HostOutcome → Nat
  | .ok => 0
  | .invalid => 1
  | .refused => 2
  | .poisoned => 3

/-- A response packet as it leaves the part: a header of outcome and tag in four bytes, then the beats of a READ, lowest address first
(11.1). That bytes 2 and 3 of the header, which 11.1 does not name, are 0 is the model's choice (log 41). -/
def Response.bytes (r : Response) : List Byte := put8 r.outcome.code ++ [r.tag, 0, 0] ++ r.data.flatten

/-- The bytes last sent on the link (R2, 11.1). -/
def State.linkBytes (s : State) : List Byte := (s.hlp.sent.map Response.bytes).getD []

/-- HLP sends the head's response, removes the request and returns its credit (R2). -/
def sendResponse (r : Response) (s : State) : State :=
  { s with hlp := { queue := s.hlp.queue.drop 1, credits := s.hlp.credits + 1, sent := some r } }

/-- HOST_REQUEST_PACKET (R1): accepted with a credit, or discarded and reported NO_CREDIT without one. A term that is no packet of 11.1 is
refused (log 22). -/
def execHostRequestPacket (p : HostRequest) (s : State) : Host.Outcome State Fault Refusal :=
  if p.wellFormed then
    if 0 < s.hlp.credits then
      .next { s with hlp := { s.hlp with queue := s.hlp.queue ++ [p], credits := s.hlp.credits - 1 } }
    else .next (reportHost .hostRequestInvalid .hostLink .noCredit p s)
  else .refused (.notThatPacket "HOST_REQUEST_PACKET")

/-- HOST_GRANT_COMPLETE (R2). An event with no such grant in progress is none the part raises (log 1). -/
def execHostGrantComplete (s : State) : Host.Outcome State Fault Refusal :=
  match s.fmc.busy with
  | some ⟨.hostTake response, _⟩ => .next (sendResponse response (freeFmc s))
  | _ => .next s

/-! ## Classification -/

/-- A request's byte address. -/
def requestBase (p : HostRequest) : Nat := p.address.toNat

/-- The first validity check a request fails (R5). -/
def requestFailure (p : HostRequest) : Option Detail :=
  let a := requestBase p
  let n := p.beatCount.toNat
  if a % 16 ≠ 0 then some .misaligned
  else if n = 0 ∨ 16 < n then some .beatCount
  else if Config.pageBytes < a % Config.pageBytes + 16 * n then some .pageCrossing
  else if Config.memoryEnd ≤ a then some .outsideMemory
  else none

/-- A request touches the status block (R10). -/
def touchesStatus (p : HostRequest) : Bool :=
  decide (requestBase p < Config.statusEnd) && decide (Config.statusBase < requestBase p + 16 * p.beatCount.toNat)

/-- The alias window an address lies in (section 1.4). -/
def aliasChannel (m : RegionMap) (a : Nat) : Option Channel :=
  if inRow a m.fillA then some .a else if inRow a m.fillB then some .b else none

/-- The FILL row of a channel. -/
def fillRow (x : Channel) (m : RegionMap) : Option Region :=
  match x with
  | .a => m.fillA
  | .b => m.fillB

/-- A guide bank is in the protection set: GDU names it live or staged (R10, R11). -/
def Wdc.protects (w : Wdc) (b : Bank) : Bool := decide (w.liveBank = some b) || decide (w.stagedBank = some b)

/-- The protected region of the live map that an address lies in (R10). -/
def protectedAt (w : Wdc) (a : Nat) : Option ProtectedRegion :=
  if inRow a w.map.filmSlotsA then some .filmSlotsA
  else if inRow a w.map.filmSlotsB then some .filmSlotsB
  else if inRow a w.map.camera then some .cameraRegion
  else if inRow a w.map.guide0 ∧ w.protects .bank0 then some .guideBank0
  else if inRow a w.map.guide1 ∧ w.protects .bank1 then some .guideBank1
  else none

/-- What a take decides (R4): an answer at the take with its report, or a performance at a target address, of a channel's alias window or
not. -/
inductive Take where
  | answer (outcome : HostOutcome) (kind : FaultKind) (source : FaultSource) (detail : Detail)
  | perform (target : Nat) (window : Option Channel)
deriving DecidableEq, Repr

/-- A refused WRITE into a protected region (R10). -/
def refuseRegion (region : ProtectedRegion) : Take := .answer .refused .writeRefused .hostLink (.touches region)

/-- An alias request while FSQ names no fill slot (R8). -/
def refuseAlias (x : Channel) (direction : Direction) (state : ChannelState) : Take :=
  match direction, state with
  | .read, _ => .answer .refused .writeRefused .hostLink .noFillSlot
  | .write, .idle => .answer .refused .writeRefused .hostLink .noFillSlot
  | .write, .priming => .answer .refused .fillOverrun (channelSource x) (.channelState .priming)
  | .write, .playing => .answer .refused .fillOverrun (channelSource x) (.channelState .playing)
  | .write, .paused => .answer .refused .fillOverrun (channelSource x) (.channelState .paused)
  | .write, .ended => .answer .refused .fillOverrun (channelSource x) (.channelState .ended)

/-- The take of an alias request (R7, R8). -/
def takeAlias (x : Channel) (p : HostRequest) (s : State) : Take :=
  match (s.fsq.get x).fill with
  | none => refuseAlias x p.direction (s.fsq.get x).state
  | some i => .perform (filmSlotAddress x i s.wdc.map + (requestBase p - rowBase (fillRow x s.wdc.map))) (some x)

/-- The take of a request outside the anchor page and the alias windows (R6, R10). -/
def takePlain (p : HostRequest) (s : State) : Take :=
  match p.direction, protectedAt s.wdc (requestBase p) with
  | .write, some region => refuseRegion region
  | .write, none => .perform (requestBase p) none
  | .read, _ => .perform (requestBase p) none

/-- The take of a request in the anchor page (R10, R12). -/
def takeAnchor (p : HostRequest) : Take :=
  match p.direction with
  | .write => if touchesStatus p then refuseRegion .statusBlock else .perform (requestBase p) none
  | .read => .perform (requestBase p) none

/-- WDC classifies the head request (R4). -/
def classify (p : HostRequest) (s : State) : Take :=
  match requestFailure p with
  | some detail => .answer .invalid .hostRequestInvalid .hostLink detail
  | none =>
    if Config.anchorBase ≤ requestBase p then takeAnchor p
    else
      match aliasChannel s.wdc.map (requestBase p) with
      | some x => takeAlias x p s
      | none => takePlain p s

/-! ## Performance -/

/-- The beats of memory move (R6, R15, R16). -/
def moveHost (p : HostRequest) (target : Nat) (f : Fmc) : Moved :=
  match p.direction with
  | .read => f.readBeats target p.beatCount.toNat
  | .write => f.writeBeats target (p.elements.map fun e => (e.mask, beatBytes e.data))

/-- The response of a performed request (R6, R15, R16): POISONED when it read or merged an UNCORRECTABLE beat. -/
def performedResponse (p : HostRequest) (m : Moved) : Response :=
  { tag := p.tag, outcome := if m.poisoned = [] then .ok else .poisoned, data := m.beats.map ReadBeat.bytes }

/-- The elements of a WRITE that are full-beat writes, each with the address of its beat, in ascending order. -/
def fullWrites (a : Nat) : List DataElement → List (Nat × List Byte)
  | [] => []
  | e :: rest => if e.mask = fullMask then (a, beatBytes e.data) :: fullWrites (a + 16) rest else fullWrites (a + 16) rest

/-- FSQ takes a trailer (R68, R69). -/
def takeTrailer (x : Channel) (bytes : List Byte) (s : State) : State :=
  let r := s.fsq.get x
  match trailerFailure bytes, r.fill with
  | some detail, _ => reportPlain .trailerInvalid (channelSource x) detail s
  | none, some i => setChannel x (r.closeFrame i (trailerFrame bytes) (s.lyu.committed.fillPolicy.get x)) s
  | none, none => s

/-- The owner of a watched beat takes its copy (R12). -/
def takeWatched (s : State) (w : Nat × List Byte) : State :=
  if w.1 = Config.anchorBase + 0x200 then producerBeat w.2 s
  else if w.1 = Config.anchorBase + 0x210 then steeringBeat w.2 s
  else if w.1 = Config.anchorBase + 0x220 then distanceBeat w.2 s
  else if w.1 = Config.anchorBase + 0x230 then audioProducerBeat .a w.2 s
  else if w.1 = Config.anchorBase + 0x240 then audioProducerBeat .b w.2 s
  else if w.1 = Config.anchorBase + 0x250 then uiBaseBeat w.2 s
  else s

/-- The trailer beat of an alias WRITE, if it is among the beats written in full (R9). -/
def handTrailer (x : Channel) (p : HostRequest) (s : State) : State :=
  let trailer := rowBase (fillRow x s.wdc.map) + Config.trailerOffset
  match (fullWrites (requestBase p) p.elements).find? fun w => w.1 == trailer with
  | some w => takeTrailer x w.2 s
  | none => s

/-- What a performed WRITE hands on: a trailer of an alias window (R9), or the watched beats written in full (R12). -/
def handOn (window : Option Channel) (p : HostRequest) (s : State) : State :=
  match p.direction, window with
  | .read, _ => s
  | .write, some x => handTrailer x p s
  | .write, none => (fullWrites (requestBase p) p.elements).foldl takeWatched s

/-- A performed take (R4, R19): the beats move, FMC reports, and then the copies are handed on, all in the grant (log 13). -/
def performTake (p : HostRequest) (target : Nat) (window : Option Channel) (s : State) : State :=
  let m := moveHost p target s.fmc
  let moved := { s with fmc := { m.fmc with busy := some ⟨.hostTake (performedResponse p m), []⟩ } }
  handOn window p (reportMemoryHost p target m moved)

/-- A take without performance: the report, and the response at the take (R4, R5, R8, R10). -/
def answerTake (p : HostRequest) (outcome : HostOutcome) (kind : FaultKind) (source : FaultSource) (detail : Detail)
    (s : State) : State :=
  sendResponse ⟨p.tag, outcome, []⟩ (reportHost kind source detail p s)

/-- Beats lie in frame memory. -/
def insideMemory (a n : Nat) : Bool := decide (a + 16 * n ≤ Config.memoryEnd)

/-- The grant of the HOST claim: WDC takes the head request (R4). -/
def grantHost (p : HostRequest) (s : State) : Host.Outcome State Fault Refusal :=
  match classify p s with
  | .answer outcome kind source detail => .next (answerTake p outcome kind source detail s)
  | .perform target window =>
    if insideMemory target (max p.beatCount.toNat p.elements.length) then .next (performTake p target window s)
    else .fault .accessOutsideMemory

/-! ## Disturbance -/

/-- MEMORY_CELL_DISTURBANCE (R15, section 1.8). -/
def execMemoryCellDisturbance (beat : BitVec 25) (flips : Beat) (s : State) : Host.Outcome State Fault Refusal :=
  .next { s with fmc := s.fmc.disturb (16 * beat.toNat) flips }

end Sys2Proof.Machine
end

