-- ==== Sys2Proof/Machine/Arbiter.lean ====
section
/-! DEFINITION. The frame memory arbiter (R17, R18) and the grant it makes (R19, R36, R37). -/

namespace Sys2Proof.Machine

/-! ## The waiting claims -/

/-- A port's claim waits at the arbiter (R17); the HOST claim stands while the queue is non-empty (R3). -/
def waiting (s : State) : Port → Bool
  | .host => !s.hlp.queue.isEmpty
  | .rqe => s.rqe.claim.req.isSome
  | .lyu => s.lyu.claim.req.isSome
  | .stw =>
    match s.stw.claim with
    | .sectionWaiting _ => true
    | .resultWaiting => true
    | .idle => false
    | .sectionGranted => false
    | .resultGranted => false
  | .mnu => s.mnu.claim.req.isSome
  | .gdu => s.gdu.claim.req.isSome
  | .denRl => (engine .rl s).claim.req.isSome
  | .denRr => (engine .rr s).claim.req.isSome
  | .denC => (engine .c s).claim.req.isSome
  | .ccp => s.ccp.claim.req.isSome
  | .aop => s.aop.claim.req.isSome
  | .chu => s.chu.claim.req.isSome

/-- The channel AOP fetches for has no block ahead (R158). -/
def Aop.urgent (o : Aop) : Bool :=
  match o.inFlight with
  | some (x, _) => (o.channels.get x).ahead.isEmpty
  | none => false

/-- CHU's claim is a clip block fetch of a PLAYING voice whose next block is not in the buffer (R152). -/
def Chu.urgent (c : Chu) : Bool :=
  match c.fetch with
  | some f => decide (f.target ≠ .directory) && decide (c.voice.state = .playing) && c.voice.next.isNone
  | none => false

/-- The tier of a port's claim as the arbiter judges it now (R18). -/
def tier (s : State) : Port → Nat
  | .host => 3
  | .denRl => if (engine .rl s).urgent then 1 else 4
  | .denRr => if (engine .rr s).urgent then 1 else 4
  | .denC => if (engine .c s).urgent then 1 else 4
  | .ccp => if 3 ≤ s.ccp.buffer.length then 1 else 4
  | .aop => if s.aop.urgent then 2 else 4
  | .chu => if s.chu.urgent then 2 else 4
  | .rqe => 4
  | .lyu => 4
  | .stw => 4
  | .mnu => 4
  | .gdu => 4

/-- The ports after a position in ring order, wrapping from 12 to 1 (R18). -/
def portsAfter (position : Port) : List Port := Port.ring.drop position.position ++ Port.ring.take position.position

/-- The rotation position of a tier. -/
def Fmc.rotation (f : Fmc) : Nat → Port
  | 1 => f.rot1
  | 2 => f.rot2
  | 3 => f.rot3
  | _ => f.rot4

/-- The rotation position of a tier replaced. -/
def Fmc.setRotation (f : Fmc) (t : Nat) (p : Port) : Fmc :=
  match t with
  | 1 => { f with rot1 := p }
  | 2 => { f with rot2 := p }
  | 3 => { f with rot3 := p }
  | _ => { f with rot4 := p }

/-- The first waiting port of a tier after its rotation position (R18). -/
def chooseIn (s : State) (t : Nat) : Option Port :=
  (portsAfter (s.fmc.rotation t)).find? fun p => waiting s p && tier s p == t

/-- The port granted: the first of the highest tier that holds a waiting claim, with its tier (R18). -/
def choosePort (s : State) : Option (Nat × Port) :=
  match chooseIn s 1, chooseIn s 2, chooseIn s 3, chooseIn s 4 with
  | some p, _, _, _ => some (1, p)
  | none, some p, _, _ => some (2, p)
  | none, none, some p, _ => some (3, p)
  | none, none, none, some p => some (4, p)
  | none, none, none, none => none

/-! ## Grants to the part's own claimants -/

/-- What FMC moved, with the grant in progress and its reports (R15, R19). -/
def beginGrant (port : Port) (kind : GrantKind) (m : Moved) (s : State) : State :=
  reportMemoryFor port m { s with fmc := { m.fmc with busy := some ⟨kind, m.beats⟩ } }

/-- A read grant (R19): the claim becomes granted and FMC reads the request's beats. -/
def grantRead (port : Port) (kind : GrantKind) (r : Req) (granted : State → State) (s : State) : Host.Outcome State Fault Refusal :=
  if insideMemory r.address r.beats then .next (beginGrant port kind (s.fmc.readBeats r.address r.beats) (granted s))
  else .fault .accessOutsideMemory

/-- The kind of a grant to CHU. -/
def Chu.grantKind (c : Chu) : GrantKind :=
  match c.fetch with
  | some f => if f.target = .directory then .clipDirectory else .clipBlock
  | none => .clipBlock

/-- The grant of a capture claim: the beats of the oldest line's next request are written in full (R121). -/
def grantCapture (r : Req) (s : State) : Host.Outcome State Fault Refusal :=
  let beats := match s.ccp.buffer with
    | line :: _ => line.beats
    | [] => []
  if insideMemory r.address (max r.beats beats.length) then
    .next (beginGrant .ccp .cameraWrite (s.fmc.writeBeats r.address beats) { s with ccp := { s.ccp with claim := .granted true } })
  else .fault .accessOutsideMemory

/-- The grant of a section claim: STW takes the contents as they stand and removes the section from the dirty set (R36). -/
def grantSection (k : StatusSection) (s : State) : State :=
  let m := s.fmc.writeBeats (sectionAddress k) (fullBeats 6 (sectionBytes k s))
  beginGrant .stw .statusSection m { s with
    stw := { s.stw with dirty := s.stw.dirty.clear k, claim := .sectionGranted }, freeCount := s.freeCount + 96 }

/-- A result code's number (11.5). -/
def ResultCode.code : ResultCode → Nat
  | .ok => 1
  | .deferred => 2
  | .busy => 3
  | .badArgument => 4
  | .notConfigured => 5
  | .notRouted => 6
  | .stackFull => 7
  | .stackEmpty => 8
  | .pageInvalid => 9
  | .queueFull => 10
  | .degraded => 11
  | .notClear => 12
  | .memError => 13
  | .unknownKind => 14

/-- The mask that enables only the result field of an entry's first beat (R37, 11.5). -/
def resultMask : BitVec 16 := 0x000C

/-- The beat of a result write: the code at bytes 2 and 3 (11.5). -/
def resultBeat (code : ResultCode) : List Byte := zeros 2 ++ put16 code.code ++ zeros 12

/-- The grant of a result claim: a partial-beat write of the result field (R37). -/
def grantResult (r : ResultWrite) (s : State) : State :=
  let m := s.fmc.writeBeat (Config.ringBase + 32 * (r.position % 32)) resultMask (resultBeat r.code)
  beginGrant .stw .resultWrite m { s with stw := { s.stw with claim := .resultGranted } }

/-- The grant of STW's claim (R36, R37). -/
def grantStatus (s : State) : Host.Outcome State Fault Refusal :=
  match s.stw.claim, s.stw.result with
  | .sectionWaiting k, _ => .next (grantSection k s)
  | .resultWaiting, some r => .next (grantResult r s)
  | .resultWaiting, none => .next s
  | .idle, _ => .next s
  | .sectionGranted, _ => .next s
  | .resultGranted, _ => .next s

/-- A claim that waits is granted, by the port that raised it; a port without a waiting claim is never chosen. -/
def withClaim (c : Claim) (s : State) (f : Req → Host.Outcome State Fault Refusal) : Host.Outcome State Fault Refusal :=
  match c with
  | .waiting r => f r
  | .idle => .next s
  | .granted _ => .next s

/-- The grant of a display engine's claim. -/
def grantScan (p : Panel) (s : State) : Host.Outcome State Fault Refusal :=
  withClaim (engine p s).claim s fun r =>
    grantRead (scanPort p) (.lineFetch p) r (fun t => setEngine p { engine p t with claim := .granted true } t) s

/-- The grant the arbiter makes to a port (R18, R19). -/
def grantTo (port : Port) (s : State) : Host.Outcome State Fault Refusal :=
  match port with
  | .host =>
    match s.hlp.queue with
    | p :: _ => grantHost p s
    | [] => .next s
  | .stw => grantStatus s
  | .rqe => withClaim s.rqe.claim s fun r =>
      grantRead .rqe .entryFetch r (fun t => { t with rqe := { t.rqe with claim := .granted true } }) s
  | .lyu => withClaim s.lyu.claim s fun r =>
      grantRead .lyu .layoutFetch r (fun t => { t with lyu := { t.lyu with claim := .granted true } }) s
  | .mnu => withClaim s.mnu.claim s fun r =>
      grantRead .mnu .descriptorFetch r (fun t => { t with mnu := { t.mnu with claim := .granted true } }) s
  | .gdu => withClaim s.gdu.claim s fun r =>
      grantRead .gdu .guideList r (fun t => { t with gdu := { t.gdu with claim := .granted true } }) s
  | .denRl => grantScan .rl s
  | .denRr => grantScan .rr s
  | .denC => grantScan .c s
  | .ccp => withClaim s.ccp.claim s fun r => grantCapture r s
  | .aop => withClaim s.aop.claim s fun r =>
      grantRead .aop .audioBlock r (fun t => { t with aop := { t.aop with claim := .granted true } }) s
  | .chu => withClaim s.chu.claim s fun r =>
      grantRead .chu s.chu.grantKind r (fun t => { t with chu := { t.chu with claim := .granted true } }) s

/-- ARBITER_GRANT (R18): with FMC free and a claim waiting, one grant by tier and rotation. During INIT, with a grant in progress or with
no claim waiting, the arbiter grants nothing (R14, R19, log 1). -/
def execArbiterGrant (s : State) : Host.Outcome State Fault Refusal :=
  match s.lyu.partState, s.fmc.busy, choosePort s with
  | .running, none, some (t, port) => grantTo port { s with fmc := s.fmc.setRotation t port }
  | .running, none, none => .next s
  | .running, some _, _ => .next s
  | .init, _, _ => .next s

end Sys2Proof.Machine
end

