-- ==== Sys2Proof/Machine/Dispatch.lean ====
section
/-! DEFINITION. Every command's meaning: one arm per constructor of Instr. -/

namespace Sys2Proof.Machine

def exec (i : Instr) (s : State) : Host.Outcome State Fault Refusal :=
  match i with
  | .powerOnReset => Sys2Proof.Machine.execPowerOnReset s
  | .initEnd => Sys2Proof.Machine.execInitEnd s
  | .memoryCellDisturbance beat flips => Sys2Proof.Machine.execMemoryCellDisturbance beat flips s
  | .hostRequestPacket packet => Sys2Proof.Machine.execHostRequestPacket packet s
  | .arbiterGrant => Sys2Proof.Machine.execArbiterGrant s
  | .hostGrantComplete => Sys2Proof.Machine.execHostGrantComplete s
  | .entryFetchComplete => Sys2Proof.Machine.execEntryFetchComplete s
  | .layoutFetchGrantComplete => Sys2Proof.Machine.execLayoutFetchGrantComplete s
  | .validationEnd => Sys2Proof.Machine.execValidationEnd s
  | .resultWriteComplete => Sys2Proof.Machine.execResultWriteComplete s
  | .statusSectionWriteComplete => Sys2Proof.Machine.execStatusSectionWriteComplete s
  | .wrstAssert => Sys2Proof.Machine.execWrstAssert s
  | .drainLimitExpiry => Sys2Proof.Machine.execDrainLimitExpiry s
  | .wrstDeassert => Sys2Proof.Machine.execWrstDeassert s
  | .refreshStart panel => Sys2Proof.Machine.execRefreshStart panel s
  | .lineDue panel => Sys2Proof.Machine.execLineDue panel s
  | .lineFetchGrantComplete => Sys2Proof.Machine.execLineFetchGrantComplete s
  | .descriptorFetchComplete => Sys2Proof.Machine.execDescriptorFetchComplete s
  | .idleTimerExpiry panel => Sys2Proof.Machine.execIdleTimerExpiry panel s
  | .revEdge level => Sys2Proof.Machine.execRevEdge level s
  | .revPendingExpiry => Sys2Proof.Machine.execRevPendingExpiry s
  | .holdTimerExpiry => Sys2Proof.Machine.execHoldTimerExpiry s
  | .firstFrameDeadlineExpiry => Sys2Proof.Machine.execFirstFrameDeadlineExpiry s
  | .lostTimerExpiry => Sys2Proof.Machine.execLostTimerExpiry s
  | .frameStart frameNo => Sys2Proof.Machine.execFrameStart frameNo s
  | .line lineNo data check => Sys2Proof.Machine.execLine lineNo data check s
  | .frameEnd => Sys2Proof.Machine.execFrameEnd s
  | .unknownCameraPacket typeCode => Sys2Proof.Machine.execUnknownCameraPacket typeCode s
  | .cameraLineWriteComplete => Sys2Proof.Machine.execCameraLineWriteComplete s
  | .staleTimerExpiry => Sys2Proof.Machine.execStaleTimerExpiry s
  | .guideListGrantComplete => Sys2Proof.Machine.execGuideListGrantComplete s
  | .distanceTimerExpiry => Sys2Proof.Machine.execDistanceTimerExpiry s
  | .clipDirectoryFetchComplete => Sys2Proof.Machine.execClipDirectoryFetchComplete s
  | .clipBlockFetchComplete => Sys2Proof.Machine.execClipBlockFetchComplete s
  | .tonePeriodWrap => Sys2Proof.Machine.execTonePeriodWrap s
  | .blockBoundary => Sys2Proof.Machine.execBlockBoundary s
  | .audioBlockFetchComplete => Sys2Proof.Machine.execAudioBlockFetchComplete s
  | .partTimeTick => Sys2Proof.Machine.execPartTimeTick s

end Sys2Proof.Machine
end

