-- ==== Sys2Proof/Safety.lean ====
section
/-! DEFINITION. What counts as a safe state, and the terms the statements are made in: frames by block, the marks of the status writer, and
the invariants the chapters give for each block. -/

namespace Sys2Proof.Machine

/-! ## Frames -/

/-- The parts of State that can change on their own. -/
inductive Block where
  | fmc
  | hlp
  | wdc
  | lyu
  | stw
  | rqe
  | den
  | fsq
  | mnu
  | rvc
  | ccp
  | gdu
  | pdu
  | chu
  | aop
  | flt
  | pins
  | freeCount
  | pending
deriving DecidableEq, Repr

/-- A block is the same in two states. -/
def Block.kept (s t : State) : Block → Prop
  | .fmc => t.fmc = s.fmc
  | .hlp => t.hlp = s.hlp
  | .wdc => t.wdc = s.wdc
  | .lyu => t.lyu = s.lyu
  | .stw => t.stw = s.stw
  | .rqe => t.rqe = s.rqe
  | .den => t.den = s.den
  | .fsq => t.fsq = s.fsq
  | .mnu => t.mnu = s.mnu
  | .rvc => t.rvc = s.rvc
  | .ccp => t.ccp = s.ccp
  | .gdu => t.gdu = s.gdu
  | .pdu => t.pdu = s.pdu
  | .chu => t.chu = s.chu
  | .aop => t.aop = s.aop
  | .flt => t.flt = s.flt
  | .pins => t.pins = s.pins
  | .freeCount => t.freeCount = s.freeCount
  | .pending => t.pending = s.pending

/-- Every block but those listed is as it was. -/
def ChangesOnly (blocks : List Block) (s t : State) : Prop := ∀ b : Block, b ∉ blocks → b.kept s t

/-- Only the fault unit and what a SAFE action reaches (R168) may change, beside the blocks listed. -/
def ReportsBeside (blocks : List Block) (s t : State) : Prop := ChangesOnly (blocks ++ [.stw, .flt, .fsq, .chu]) s t

/-- Every byte of frame memory reads as before, and every beat has its check state. -/
def MemoryKept (s t : State) : Prop := t.fmc.cells = s.fmc.cells ∧ t.fmc.marks = s.fmc.marks

/-- The grant in progress has ended, and nothing else of FMC has changed. -/
def GrantEnded (s t : State) : Prop := t.fmc = { s.fmc with busy := none }

/-- No drain is in progress, so no boundary reported in an event can apply a warm reset (R38). -/
def NotDraining (s : State) : Prop := s.lyu.phase ≠ .draining

/-! ## Memory -/

/-- Frame memory and the check states have their canonical forms. -/
def MemorySafe (s : State) : Prop := s.fmc.wf = true

/-! ## The host link -/

/-- The host's credits (R1 to R3): all 32 are with the host or in the queue from RUNNING on, none before; and a host grant in progress is
that of the head of the queue. -/
def CreditsSafe (s : State) : Prop :=
  (s.lyu.partState = .init → s.hlp.credits = 0 ∧ s.hlp.queue = [] ∧ s.fmc.busy = none) ∧
  (s.lyu.partState = .running → s.hlp.credits + s.hlp.queue.length = 32) ∧
  ((s.fmc.busy.map fun g => g.kind.port) = some .host → s.hlp.queue ≠ [])

/-! ## Grants -/

/-- A claim is granted. -/
def Claim.isGranted : Claim → Bool
  | .granted _ => true
  | .idle => false
  | .waiting _ => false

/-- STW's claim is granted. -/
def StwClaim.isGranted : StwClaim → Bool
  | .sectionGranted => true
  | .resultGranted => true
  | .idle => false
  | .sectionWaiting _ => false
  | .resultWaiting => false

/-- The claim of an internal port is granted and not yet complete. The HOST claim has no such state: it stands while the queue does. -/
def grantedAt (s : State) : Port → Bool
  | .host => false
  | .rqe => s.rqe.claim.isGranted
  | .lyu => s.lyu.claim.isGranted
  | .stw => s.stw.claim.isGranted
  | .mnu => s.mnu.claim.isGranted
  | .gdu => s.gdu.claim.isGranted
  | .denRl => (engine .rl s).claim.isGranted
  | .denRr => (engine .rr s).claim.isGranted
  | .denC => (engine .c s).claim.isGranted
  | .ccp => s.ccp.claim.isGranted
  | .aop => s.aop.claim.isGranted
  | .chu => s.chu.claim.isGranted

/-- One grant at a time (R19): an internal port's claim is granted exactly while the grant in progress is that port's. -/
def GrantsSafe (s : State) : Prop :=
  ∀ p ∈ Port.ring, p ≠ .host → (grantedAt s p = true ↔ (s.fmc.busy.map fun g => g.kind.port) = some p)

/-! ## The fault unit -/

/-- A class's records agree with its seen set (R165, R166): a first record exactly when the seen set is non-empty, a latest record only
beside a first one, each recorded in the class, its kind in the class's seen set. -/
def ClassSafe (seen : BitVec 19) (k : FaultClass) (first latest : Option FaultRecord) : Prop :=
  (first.isSome = true ↔ seen ≠ 0) ∧ (latest.isSome = true → first.isSome = true) ∧
  (∀ r, first = some r ∨ latest = some r → r.cls = k ∧ kindIn seen r.report.kind = true)

/-- Every class of FLT is safe, and the tally stays within 0 to 255 with its overflow only at 255 (R167). -/
def FaultsSafe (s : State) : Prop :=
  ClassSafe s.flt.seen.advisory .advisory s.flt.first.advisory s.flt.latest.advisory ∧
  ClassSafe s.flt.seen.serious .serious s.flt.first.serious s.flt.latest.serious ∧
  ClassSafe s.flt.seen.critical .critical s.flt.first.critical s.flt.latest.critical ∧
  (s.flt.overflow = true → s.flt.tally = 255)

/-- While the part is DEGRADED, no film channel is PLAYING or PRIMING (R85, R168). -/
def DegradedSafe (s : State) : Prop :=
  s.flt.degraded = true →
    s.fsq.a.state ≠ .playing ∧ s.fsq.a.state ≠ .priming ∧ s.fsq.b.state ≠ .playing ∧ s.fsq.b.state ≠ .priming

/-! ## Layouts -/

/-- The layout unit's states agree (R27 to R33): STAGED exactly with a staged layout, which waits only while the view is not NORMAL;
without one the state follows the committed source; DEFAULT means the default layout; WDC's map is the committed layout's. -/
def LayoutSafe (s : State) : Prop :=
  (s.lyu.layoutState = .staged ↔ s.lyu.staged.isSome = true) ∧
  (s.lyu.staged.isSome = true → s.rvc.view ≠ .normal) ∧
  (s.lyu.staged = none → s.lyu.layoutState = unstagedState s.lyu.source) ∧
  (s.lyu.source = .default → s.lyu.committed = Layout.default) ∧
  s.wdc.map = s.lyu.committed.map

/-! ## The request ring -/

/-- The ring's indices (R42, R47): producer stands 0 to 32 ahead of consumer; an entry in execution has index consumer, and producer
stands beyond it; a drain is DRAINING exactly while an entry is still in execution. -/
def RingSafe (s : State) : Prop :=
  (s.rqe.producer - s.rqe.consumer).toNat ≤ 32 ∧
  (∀ e, s.rqe.entry = some e → e.index = s.rqe.consumer ∧ s.rqe.producer ≠ s.rqe.consumer) ∧
  (s.rqe.drain = .draining → s.rqe.entry.isSome = true) ∧ (s.rqe.drain = .drained → s.rqe.entry = none)

/-- The phase of the entry in execution. -/
def entryPhase (s : State) : Option EntryPhase := s.rqe.entry.map Entry.phase

/-- Each entry has one owner at a time (R45 to R47): its fetch is claimed only while it is FETCHING; a menu request or a LAYOUT_COMMIT in
hand belongs to an entry WITH_OWNER, and not both; a result stands at STW exactly while the entry is WRITING_RESULT. -/
def EntrySafe (s : State) : Prop :=
  (s.rqe.claim.req.isSome = true ∨ s.rqe.claim.live = true → entryPhase s = some .fetching) ∧
  (s.mnu.request.isSome = true → entryPhase s = some .withOwner ∧ s.lyu.commit = .none) ∧
  (s.lyu.commit ≠ .none → entryPhase s = some .withOwner) ∧
  (s.stw.result.isSome = true ↔ entryPhase s = some .writingResult)

/-! ## Film channels -/

/-- A valid film time, 0:00:00 to 9:59:59 (R84). -/
def Elapsed.valid (e : Elapsed) : Prop := e.hours ≤ 9 ∧ e.minutes ≤ 59 ∧ e.seconds ≤ 59

/-- The slots of a channel record agree with its queue and its fill slot (R67 to R70, section 5.1): the ready queue lists each READY slot
once; the fill slot is the FILLING slot; at most one slot is SHOWN; a frame part stands in READY, SHOWN and RETIRED slots; a slot with
scan holds is SHOWN or RETIRED, and a RETIRED one has some; an IDLE channel's slots are FREE or RETIRED. -/
def FilmChannel.safe (r : FilmChannel) : Prop :=
  r.queue.Nodup ∧ (∀ i : Fin 3, i ∈ r.queue ↔ (r.slots.get i).state = .ready) ∧
  (∀ i : Fin 3, r.fill = some i ↔ (r.slots.get i).state = .filling) ∧
  (∀ i j : Fin 3, (r.slots.get i).state = .shown → (r.slots.get j).state = .shown → i = j) ∧
  (∀ i : Fin 3, (r.slots.get i).frame.isSome = true ↔
    (r.slots.get i).state = .ready ∨ (r.slots.get i).state = .shown ∨ (r.slots.get i).state = .retired) ∧
  (∀ i : Fin 3, (r.slots.get i).scanHolds ≠ 0 → (r.slots.get i).state = .shown ∨ (r.slots.get i).state = .retired) ∧
  (∀ i : Fin 3, (r.slots.get i).state = .retired → (r.slots.get i).scanHolds ≠ 0) ∧
  (r.state = .idle → ∀ i : Fin 3, (r.slots.get i).state = .free ∨ (r.slots.get i).state = .retired) ∧
  r.queue.length ≤ 2 ∧ (r.fill.isSome = true → r.queue.length ≤ 1) ∧ r.elapsed.valid ∧ r.starveRun ≤ 255

/-- Both channel records are safe. -/
def FilmSafe (s : State) : Prop := s.fsq.a.safe ∧ s.fsq.b.safe

/-- One for a hold record that names a slot, else none. -/
def holdsOn (h : Option Hold) (x : Channel) (i : Fin 3) : Nat := if h = some ⟨x, i⟩ then 1 else 0

/-- A slot's scan hold count is the number of rear engines whose hold record names it (R54, R77). -/
def HoldsSafe (s : State) : Prop :=
  (∀ i : Fin 3, (s.fsq.a.slots.get i).scanHolds = holdsOn s.den.holdRl .a i + holdsOn s.den.holdRr .a i) ∧
  (∀ i : Fin 3, (s.fsq.b.slots.get i).scanHolds = holdsOn s.den.holdRl .b i + holdsOn s.den.holdRr .b i)

/-! ## Menus -/

/-- A panel's stack, top cache, idle timer and auto-pop agree (R92, R100, R101): 0 to 8 page ids from 0 to 63; the top cache is NONE
exactly for an empty stack; the timer is STOPPED for an empty stack and while an auto-pop waits or fetches, which needs two pages. -/
def MenuPanel.safe (m : MenuPanel) : Prop :=
  m.stack.length ≤ 8 ∧ (∀ page ∈ m.stack, page ≤ 63) ∧ (m.top = .none ↔ m.stack = []) ∧ (m.stack = [] → m.idle = .stopped) ∧
  (m.autoPop ≠ .none → m.idle = .stopped ∧ 2 ≤ m.stack.length)

/-- The request in hand still fits its panel's stack, whose auto-pop it has ended (R94 to R97). -/
def MenuRequest.fits (r : MenuRequest) (m : MenuPanel) : Prop :=
  m.autoPop = .none ∧
  match r.kind with
  | .push => m.stack.length < 8 ∧ r.page ≤ 63
  | .replace => m.stack ≠ [] ∧ r.page ≤ 63
  | .pop => 2 ≤ m.stack.length

/-- MNU's panels, the request in hand and the fetch of an auto-pop agree. -/
def MenuSafe (s : State) : Prop :=
  s.mnu.panels.rl.safe ∧ s.mnu.panels.rr.safe ∧ s.mnu.panels.c.safe ∧
  (∀ r, s.mnu.request = some r → r.fits (s.mnu.panels.get r.panel)) ∧
  (∀ f, s.mnu.fetch = some f → f.live = true → ∀ p, f.purpose = .autoPop p → (s.mnu.panels.get p).autoPop = .inFlight)

/-! ## The reverse view and capture -/

/-- The view, the camera health, their timers and capture agree (R110 to R119, R125). -/
def ReverseSafe (s : State) : Prop :=
  (s.rvc.view = .normal →
    s.rvc.engageCause = .none ∧ s.rvc.health = .awaiting ∧ s.rvc.recoveryCount = 0 ∧ s.rvc.firstFrameDeadline = .stopped ∧
      s.rvc.lostTimer = .stopped ∧ s.ccp.capturing = false) ∧
  (s.rvc.view ≠ .normal → s.rvc.engageCause ≠ .none ∧ s.ccp.capturing = true) ∧
  (s.rvc.view = .hold ↔ s.rvc.holdTimer ≠ .stopped) ∧
  (s.rvc.health = .good ↔ s.rvc.lostTimer ≠ .stopped) ∧
  (s.rvc.view ≠ .normal → (s.rvc.health = .awaiting ↔ s.rvc.firstFrameDeadline ≠ .stopped)) ∧
  (s.rvc.recoveryCount ≤ 1 ∧ (s.rvc.recoveryCount = 1 → s.rvc.health = .lost)) ∧
  (s.ccp.capturing = false → s.ccp.receiving = none ∧ s.ccp.closing = none ∧ s.ccp.buffer = [] ∧ s.ccp.latest = none)

/-- Capture never writes the slot that is latest or pinned (R120, R58): the receiving frame's slot is neither, nor that of the closing
frame, which is neither too. The line buffer holds 0 to 4 lines, and DEN-C's pin record names the pinned slot. -/
def CaptureSafe (s : State) : Prop :=
  (∀ f, s.ccp.receiving = some f →
    s.ccp.latest ≠ some f.slot ∧ s.ccp.pinned ≠ some f.slot ∧ s.ccp.closingSlot ≠ some f.slot ∧ f.nextLine ≤ 720) ∧
  (∀ f, s.ccp.closing = some f → s.ccp.latest ≠ some f.slot ∧ s.ccp.pinned ≠ some f.slot) ∧
  (s.ccp.reception = .receiving ↔ s.ccp.receiving.isSome = true) ∧
  s.ccp.buffer.length ≤ 4 ∧ s.den.pin = s.ccp.pinned

/-! ## Guide lines -/

/-- GDU's banks are those WDC protects, its caches hold lists of a live bank only, within the limits of R137, and a fetch that still counts
reads the live bank, for the bucket wanted, while GDU works (R11, R135, R136). -/
def GuideSafe (s : State) : Prop :=
  s.wdc.liveBank = s.gdu.liveBank ∧ s.wdc.stagedBank = s.gdu.stagedBank ∧
  (s.gdu.liveBank = none → s.gdu.staticCache = .absent ∧ s.gdu.bucketCache = .absent) ∧
  (∀ f, s.gdu.fetch = some f → f.givenUp = false → s.gdu.claim ≠ .granted false →
    s.gdu.working = true ∧ s.gdu.liveBank = some f.bank ∧ ∀ k, f.list = .bucket k → k = s.gdu.wantedBucket) ∧
  (∀ l, s.gdu.staticCache = .valid l → l.length ≤ 16) ∧ (∀ k l, s.gdu.bucketCache = .valid k l → l.length ≤ 12)

/-! ## Chimes and film audio -/

/-- The chime queue (R147): at most 8 entries, no two with the same clip, none with the clip on the voice, ordered by priority and then
arrival; every stamp in use is its own, below the arrival count, and at most 65535. -/
def ChimesSafe (s : State) : Prop :=
  s.chu.queue.length ≤ 8 ∧ (s.chu.queue.map Chime.clip).Nodup ∧
  (∀ q ∈ s.chu.queue, s.chu.voice.holds q.clip = false) ∧
  s.chu.queue.Pairwise (fun p q => p.before q = true) ∧
  s.chu.stamps.Nodup ∧ (∀ a ∈ s.chu.stamps, a < s.chu.arrivals) ∧ s.chu.arrivals ≤ 65536

/-- A block index that AOP may hold or fetch ahead: in the ring, and at most one beyond consumer (R158). -/
def AudioChannel.mayHold (c : AudioChannel) (index : Count) : Prop := c.inRing index = true ∧ (index - c.consumer).toNat < 2

/-- A film audio ring (R157 to R159): producer at most capacity ahead of consumer; each block ahead, and a fetch that still counts, one of
the next two in the ring, and no index twice. -/
def AudioChannel.safe (c : AudioChannel) (capacity : Nat) : Prop :=
  (c.producer - c.consumer).toNat ≤ capacity ∧ (∀ b ∈ c.ahead, c.mayHold b.index) ∧ (c.ahead.map AudioBlock.index).Nodup ∧
  c.ahead.length ≤ 2 ∧
  (∀ f, c.fetch = some f → f.givenUp = false → c.mayHold f.index ∧ c.buffered f.index = none)

/-- Both rings are safe, and only one channel's fetch is in flight (R158, log 47). -/
def AudioSafe (s : State) : Prop :=
  s.aop.channels.a.safe (audioCapacity .a s.lyu.committed) ∧ s.aop.channels.b.safe (audioCapacity .b s.lyu.committed) ∧
  (s.aop.channels.a.fetch = none ∨ s.aop.channels.b.fetch = none)

/-! ## Requests of the ring -/

/-- The fetch of an entry ends unpoisoned with these bytes, for the entry in execution with this index, and no drain is in progress. -/
structure EntryFetched (s : State) (index : Count) (e : List Byte) : Prop where
  busy : ∃ beats, s.fmc.busy = some ⟨.entryFetch, beats⟩ ∧ anyPoison beats = false ∧ beatData beats = e
  claim : s.rqe.claim = .granted true
  entry : s.rqe.entry = some ⟨index, .fetching⟩
  calm : NotDraining s

/-- The entry with this index has been given this result, which waits to be written at its ring position (R37, R46). -/
def Answered (code : ResultCode) (index : Count) (s t : State) : Prop :=
  t.stw.result = some ⟨index.toNat % 32, code⟩ ∧ t.rqe.entry = some ⟨index, .writingResult⟩ ∧
    t.rqe.consumer = s.rqe.consumer ∧ t.rqe.producer = s.rqe.producer

/-- The entry with this index is with its owner, and no result has been given (R45 step 3). -/
def WithOwner (index : Count) (s t : State) : Prop :=
  t.rqe.entry = some ⟨index, .withOwner⟩ ∧ t.stw.result = s.stw.result

/-- A film channel that a request may name: the committed source is HOST, and channel B is not routed away (R45, R79). -/
def Routed (x : Channel) (s : State) : Prop := s.lyu.source = .host ∧ (x = .b → s.lyu.committed.rrSource ≠ .a)

/-- The code of a channel in a request's argument (Record Formats). -/
def channelArgument : Channel → Nat
  | .a => 0
  | .b => 1

/-- The code of a panel in a request's argument (Record Formats). -/
def panelArgument : Panel → Nat
  | .rl => 0
  | .rr => 1
  | .c => 2

/-- The chime that the bytes of a CHIME_PLAY entry ask for, with this arrival (R148, 11.5). -/
def askedChime (e : List Byte) (arrival : Nat) : Chime :=
  ⟨get8 e 4, get8 e 5, get8 e 6, routeOfByte (get8 e 7), (get8 e 8).testBit 0, .requested, arrival⟩

/-- The clip voice takes no head of the queue: it is not IDLE, or CHU is draining or held (R151, R163). -/
def Chu.takesNone (c : Chu) : Prop := c.voice.state ≠ .idle ∨ c.drain ≠ .none ∨ c.held = true

/-! ## The end of a reverse view -/

/-- The view has entered NORMAL (R114), RVC's other fields being these: capture has stopped (R125), the neighbours are told (R115),
REVERSE_CHANGED is raised, and a staged layout is applied with LAYOUT_APPLIED, while without one the committed layout stands (R30). -/
structure ViewEnded (r : Rvc) (s t : State) : Prop where
  rvc : t.rvc = { r with
    view := .normal, engageCause := .none, holdTimer := .stopped, firstFrameDeadline := .stopped, lostTimer := .stopped,
    recoveryCount := 0, health := .awaiting }
  capture : t.ccp.capturing = false ∧ t.ccp.receiving = none ∧ t.ccp.closing = none ∧ t.ccp.latest = none ∧ t.ccp.pinned = s.ccp.pinned
  told : (s.gdu.held = false → t.gdu.working = false) ∧ (s.pdu.held = false → t.pdu.active = false)
  cause : t.flt.causes.getLsbD Cause.reverseChanged.bit = true
  unstaged : s.lyu.layoutState ≠ .staged → t.lyu = s.lyu ∧ t.wdc.map = s.wdc.map
  staged : ∀ l : Layout, s.lyu.layoutState = .staged → s.lyu.staged = some l →
    t.lyu.committed = l ∧ t.lyu.source = .host ∧ t.lyu.layoutState = .configured ∧ t.lyu.staged = none ∧ t.wdc.map = l.map ∧
      t.flt.causes.getLsbD Cause.layoutApplied.bit = true
  memory : MemoryKept s t

/-! ## Grants by port -/

/-- The request that a claimant which only reads has waiting. -/
def readClaim (s : State) : Port → Option Req
  | .rqe => s.rqe.claim.req
  | .lyu => s.lyu.claim.req
  | .mnu => s.mnu.claim.req
  | .gdu => s.gdu.claim.req
  | .denRl => (engine .rl s).claim.req
  | .denRr => (engine .rr s).claim.req
  | .denC => (engine .c s).claim.req
  | .aop => s.aop.claim.req
  | .chu => s.chu.claim.req
  | .host => none
  | .stw => none
  | .ccp => none

/-- The block that owns a port. -/
def Port.block : Port → Block
  | .host => .hlp
  | .rqe => .rqe
  | .lyu => .lyu
  | .stw => .stw
  | .mnu => .mnu
  | .gdu => .gdu
  | .denRl => .den
  | .denRr => .den
  | .denC => .den
  | .ccp => .ccp
  | .aop => .aop
  | .chu => .chu

/-- How many ports in ring order lie between a rotation position and a port, wrapping from 12 to 1 (R18). -/
def ringDistance (position port : Port) : Nat := (port.position + 11 - position.position) % 12

/-- FMC is free in RUNNING, and this port is the arbiter's choice in this tier. -/
structure Chosen (s : State) (k : Nat) (p : Port) : Prop where
  running : s.lyu.partState = .running
  free : s.fmc.busy = none
  choice : choosePort s = some (k, p)

/-- Every beat of a stretch is CLEAN. -/
def CleanBeats (s : State) (a n : Nat) : Prop := ∀ i, i < n → s.fmc.mark (a + 16 * i) = .clean

/-- A valid host request at the head of the queue, whose grant the arbiter makes now. -/
structure HostTakes (s : State) (p : HostRequest) (rest : List HostRequest) : Prop where
  chosen : Chosen s 3 .host
  head : s.hlp.queue = p :: rest
  formed : p.wellFormed = true
  valid : requestFailure p = none

/-- A valid WRITE to the anchor page outside the status block, whose grant the arbiter makes now (R12). -/
structure AnchorWrite (s : State) (p : HostRequest) (rest : List HostRequest) : Prop where
  takes : HostTakes s p rest
  write : p.direction = .write
  anchor : Config.anchorBase ≤ requestBase p
  spared : touchesStatus p = false
  memory : MemorySafe s

/-- The transaction of a host request (R1). -/
def txnOf (p : HostRequest) : Txn := ⟨p.tag, p.address, p.direction, p.beatCount⟩

/-- What the read of a beat delivers (R15): the stored bytes, corrected where the beat is CORRECTABLE. -/
def delivered (s : State) (a : Nat) : List Byte :=
  match s.fmc.mark a with
  | .clean => readBytes s.fmc.cells a 16
  | .correctable bit => flipBit (readBytes s.fmc.cells a 16) bit
  | .uncorrectable => readBytes s.fmc.cells a 16

/-- A CORRECTABLE beat. -/
def CheckState.isCorrectable : CheckState → Bool
  | .correctable _ => true
  | .clean => false
  | .uncorrectable => false

/-- The places, in a stretch of n beats, of the beats that are read and whose check state passes a test, lowest first. -/
def beatsFound (s : State) (a n : Nat) (read : Nat → Bool) (test : CheckState → Bool) : List Nat :=
  (List.range n).filter fun j => read j && test (s.fmc.mark (a + 16 * j))

/-- FMC's report of one kind for a host grant, if it met the kind: the lowest affected beat's place, how many beats were affected, and the
transaction (R15, R22). -/
def reportBeats (kind : FaultKind) (p : HostRequest) (places : List Nat) (s : State) : State :=
  match places with
  | [] => s
  | lowest :: _ => report ⟨kind, .memory, .hostBeats lowest places.length, some (txnOf p)⟩ s

/-- FMC's reports of a host grant, MEM_CORRECTED first (R15, R21). -/
def reportHostBeats (p : HostRequest) (corrected poisoned : List Nat) (s : State) : State :=
  reportBeats .memUncorrectable p poisoned (reportBeats .memCorrected p corrected s)

/-- The address at which a performed request moves its beats: its own, or that of the fill slot behind an alias window (R6, R7). -/
def PerformedAt (s : State) (p : HostRequest) (target : Nat) : Prop :=
  ((Config.anchorBase ≤ requestBase p ∨ aliasChannel s.wdc.map (requestBase p) = none) ∧ target = requestBase p) ∨
  ∃ (x : Channel) (i : Fin 3), requestBase p < Config.anchorBase ∧ aliasChannel s.wdc.map (requestBase p) = some x ∧
    (s.fsq.get x).fill = some i ∧
    target = rowBase (filmRow x s.wdc.map) + 2052096 * i.val + (requestBase p - rowBase (fillRow x s.wdc.map)) ∧
    target + 16 * p.beatCount.toNat ≤ Config.memoryEnd

/-- An element of a WRITE that is a partial-beat write: it enables some bytes and not all (R16). -/
def partialAt (p : HostRequest) (j : Nat) : Bool :=
  match p.elements[j]? with
  | some e => decide (e.mask ≠ 0) && decide (e.mask ≠ fullMask)
  | none => false

/-- The owner of a watched beat takes the copy handed to it, by the beat's address (R12, 11.2). -/
def handWatched (s : State) (a : Nat) (bytes : List Byte) : State :=
  match a with
  | 0x1FFFF200 => producerBeat bytes s
  | 0x1FFFF210 => steeringBeat bytes s
  | 0x1FFFF220 => distanceBeat bytes s
  | 0x1FFFF230 => audioProducerBeat .a bytes s
  | 0x1FFFF240 => audioProducerBeat .b bytes s
  | 0x1FFFF250 => uiBaseBeat bytes s
  | _ => s

/-- The watched beats of a WRITE at an address are handed on in ascending order, each written in full (R12). -/
def handAll (a : Nat) : List DataElement → State → State
  | [], s => s
  | e :: rest, s => handAll (a + 16) rest (if e.mask = fullMask then handWatched s a (beatBytes e.data) else s)

/-! ## What a plan shows -/

/-- A plan shows the page of a VALID top cache that the panel may show, with its elapsed readout, and nothing in its place otherwise (R60,
R102, R104). -/
def ShowsMenu (may : Descriptor → Prop) (top : TopCache) (l : Layout) (fsq : PerChannel FilmChannel) (plan : Plan) : Prop :=
  (∀ d : Descriptor, top = .valid d → may d →
    plan.menu = some ⟨d, rowBase l.map.menuStore + 4096 * d.planeOffset⟩ ∧
    (d.readout = none → plan.elapsed = none) ∧
    (∀ (x : Channel) (dx dy : Nat) (time : Elapsed), d.readout = some (x, dx, dy) → time = (fsq.get x).elapsed →
      plan.elapsed =
        some ⟨[time.hours, 10, time.minutes / 10, time.minutes % 10, 10, time.seconds / 10, time.seconds % 10],
          d.x + dx, d.y + dy, rowBase l.map.glyphs⟩)) ∧
  ((∀ d : Descriptor, top = .valid d → ¬ may d) → plan.menu = none ∧ plan.elapsed = none)

/-- The guide overlay that GDU's caches give (R59, R138): the static list, and the bucket list of the wanted bucket while the steering is
FRESH, with a palette. -/
def DrawsLists (g : Gdu) (palette : Palette) (guide : Option GuideOverlay) : Prop :=
  ∃ o : GuideOverlay, guide = some o ∧ o.palette = palette ∧
    (∀ l : List Segment, g.staticCache = .valid l → o.static = l) ∧
    ((∀ l : List Segment, g.staticCache ≠ .valid l) → o.static = []) ∧
    (∀ l : List Segment, g.bucketCache = .valid g.wantedBucket l → g.steeringState = .fresh → o.bucket = l) ∧
    ((∀ l : List Segment, g.bucketCache ≠ .valid g.wantedBucket l) ∨ g.steeringState ≠ .fresh → o.bucket = [])

/-- The three glyphs of a distance readout, none for NONE (R105). -/
def GlyphsShown (r : Readout) (glyphs : Option (List Nat)) : Prop :=
  (r = .none → glyphs = none) ∧ (r = .fault → glyphs = some [12, 12, 12]) ∧ (r = .clear → glyphs = some [11, 11, 11]) ∧
  (∀ d : Nat, r = .distance d →
    (100 ≤ d → glyphs = some [d / 100, d / 10 % 10, d % 10]) ∧ (10 ≤ d → d < 100 → glyphs = some [11, d / 10, d % 10]) ∧
    (d < 10 → glyphs = some [11, 11, d]))

/-! ## The checks of the record formats -/

/-- A layout record that passes the sixteen checks of R26, by the offsets of 11.4: row i has its base page at 0x10 + 8i and its pages at
0x14 + 8i. -/
structure ValidLayout (rec : List Byte) : Prop where
  marker : get32 rec 0 = 0x4C594F54
  pages : get32 rec 0x14 = 501 ∧ get32 rec 0x1C = 501 ∧ get32 rec 0x24 = 1503 ∧ get32 rec 0x2C = 1503 ∧ get32 rec 0x34 = 1800 ∧
    1 ≤ get32 rec 0x3C ∧ 20 ≤ get32 rec 0x44 ∧ 2 ≤ get32 rec 0x4C ∧ 2 ≤ get32 rec 0x54 ∧ 1 ≤ get32 rec 0x5C ∧
    1 ≤ get32 rec 0x64 ∧ get32 rec 0x64 ≤ 64 ∧ 1 ≤ get32 rec 0x6C ∧ get32 rec 0x6C ≤ 64
  below : ∀ i, i < 12 → get32 rec (0x10 + 8 * i) + get32 rec (0x14 + 8 * i) ≤ 0x1FFFF
  apart : ∀ i j, i < 12 → j < 12 → i ≠ j →
    get32 rec (0x10 + 8 * i) + get32 rec (0x14 + 8 * i) ≤ get32 rec (0x10 + 8 * j) ∨
      get32 rec (0x10 + 8 * j) + get32 rec (0x14 + 8 * j) ≤ get32 rec (0x10 + 8 * i)
  films : get8 rec 0x70 ≤ 1 ∧ get8 rec 0x71 ≤ 1 ∧ get8 rec 0x72 ≤ 1
  menuPages : (get8 rec 0x76 ≤ 63 ∨ get8 rec 0x76 = 0xFF) ∧ (get8 rec 0x77 ≤ 63 ∨ get8 rec 0x77 = 0xFF)
  readout : get16 rec 0xA0 ≤ 224 ∧ get16 rec 0xA2 ≤ 672
  hold : get8 rec 0x74 ≤ 100
  timeouts : get8 rec 0x78 ≤ 60 ∧ get8 rec 0x79 ≤ 60 ∧ get8 rec 0x7A ≤ 60
  thresholds : 1 ≤ get8 rec 0x75 ∧ get8 rec 0x75 ≤ 4 ∧
    get8 rec 0xA5 < get8 rec 0xA4 ∧ get8 rec 0xA6 < get8 rec 0xA5 ∧ get8 rec 0xA7 < get8 rec 0xA6 ∧ 1 ≤ get8 rec 0xA7
  cadences : ∀ i, i < 4 → 20 ≤ get16 rec (0xA8 + 2 * i) ∧ get16 rec (0xA8 + 2 * i) ≤ 2000 ∧
    1 ≤ get16 rec (0xB0 + 2 * i) ∧ get16 rec (0xB0 + 2 * i) ≤ get16 rec (0xA8 + 2 * i)
  tone : 4 ≤ get8 rec 0x7D ∧ get8 rec 0x7D ≤ 240
  ducks : get8 rec 0x7B ≤ 16 ∧ get8 rec 0x7C ≤ 16
  chimes : ∀ i, i < 4 → get8 rec (0xB8 + 4 * i) = 0xFF ∨ (get8 rec (0xB8 + 4 * i) ≤ 31 ∧ get8 rec (0xB9 + 4 * i) ≤ 7)
  policy : (∀ k, k < 19 → get8 rec (0xE0 + k) ≤ 2) ∧ ∀ k, k < 3 → get8 rec (0xD0 + k) ≤ 2
  resetMode : get8 rec 0x73 ≤ 1

/-- A page descriptor that passes the checks of R91 on a panel of this width and height, with a MENU_STORE row of so many pages (11.6). -/
structure ValidDescriptor (d : List Byte) (width height storePages : Nat) : Prop where
  marker : get32 d 0 = 0x50414745
  size : 1 ≤ get16 d 8 ∧ get16 d 8 ≤ width ∧ 1 ≤ get16 d 10 ∧ get16 d 10 ≤ height
  place : get16 d 12 + get16 d 8 ≤ width ∧ get16 d 14 + get16 d 10 ≤ height
  plane : 1 ≤ get32 d 4 ∧ get32 d 4 + (4 * get16 d 8 * get16 d 10 + 4095) / 4096 ≤ storePages
  readout : (get8 d 16).testBit 2 = true → get8 d 17 ≤ 1 ∧ get16 d 18 + 224 ≤ get16 d 8 ∧ get16 d 20 + 48 ≤ get16 d 10

/-- A guide segment that passes checks 2 to 4 of R137. -/
def Segment.fits (g : Segment) : Prop :=
  g.x0 ≤ 1279 ∧ g.x1 ≤ 1279 ∧ g.y0 ≤ 719 ∧ g.y1 ≤ 719 ∧ 1 ≤ g.width ∧ g.width ≤ 8 ∧ g.colour ≤ 3

/-- A chime directory entry that passes checks 1 to 4 of R151, with a CHIME_STORE row of so many pages (11.6). -/
structure ValidClipEntry (d : List Byte) (storePages : Nat) : Prop where
  offset : get32 d 0 ≠ 0
  length : 1 ≤ get16 d 4 ∧ get16 d 4 ≤ 4095
  shift : get8 d 6 ≤ 15
  store : get32 d 0 + get16 d 4 ≤ 8 * storePages

/-! ## Camera health -/

/-- RVC has taken a good-frame notice with this frame_no (R116 to R118): AWAITING and GOOD end in GOOD with the lost timer restarted, and LOST
needs two in a row. -/
structure GoodFrameNoticed (frameNo : Count) (s t : State) : Prop where
  last : t.rvc.lastGoodFrameNo = some frameNo
  awaiting : s.rvc.health = .awaiting → t.rvc.health = .good ∧ t.rvc.firstFrameDeadline = .stopped
  timed : s.rvc.health ≠ .lost ∨ s.rvc.recoveryCount ≠ 0 →
    t.rvc.health = .good ∧ t.rvc.lostTimer = .running (s.lyu.partTime + 100)
  first : s.rvc.health = .lost → s.rvc.recoveryCount = 0 → t.rvc.health = .lost ∧ t.rvc.recoveryCount = 1 ∧ t.rvc.lostTimer = s.rvc.lostTimer
  second : s.rvc.health = .lost → s.rvc.recoveryCount ≠ 0 → t.rvc.recoveryCount = 0
  view : t.rvc.view = s.rvc.view ∧ t.rvc.revQualified = s.rvc.revQualified ∧ t.rvc.hostRequest = s.rvc.hostRequest

/-- RVC has taken a damaged-frame notice (R118): in LOST the count of good frames in a row is 0 again. -/
def DamagedFrameNoticed (s t : State) : Prop :=
  (s.rvc.health = .lost → t.rvc = { s.rvc with recoveryCount := 0 }) ∧ (s.rvc.health ≠ .lost → t.rvc = s.rvc)

/-! ## The mix -/

/-- A sum as a sample carries it (R161). -/
def clamped (n : Int) : Int := max (-32768) (min 32767 n)

/-- The film's part of a headphone sample: its sample at an offset, shifted right by the duck shift while ducked, 0 for a shift of 16 (R161). -/
def filmPart (playing : Option (List Byte)) (off : Nat) (ducked : Bool) (shift : Nat) : Int :=
  match playing with
  | none => 0
  | some data =>
    if ducked then (if 16 ≤ shift then 0 else (sampleAt data off).toInt / 2 ^ shift) else (sampleAt data off).toInt

/-- The clip sample of sample frame i: the voice's block sample shifted right by gain_shift, or 0 when no clip block plays (R161). -/
def clipPart (v : Voice) (i : Nat) : Int :=
  match v.state, v.current with
  | .playing, some b =>
    if b.poison then 0 else (sampleAt b.data (2 * i)).toInt / 2 ^ (v.entry.map ClipEntry.gainShift).getD 0
  | .playing, none => 0
  | .starting, _ => 0
  | .idle, _ => 0

/-- The tone is audible in the block that begins (R156). -/
def toneHeard (t : Tone) : Prop := t.sounding = true ∧ (t.counter < t.cadence.onTime ∨ t.beepStarted = true)

/-- A TDM frame carries the mix of sample frame i: these film sources with their duck states and shifts, this clip sample and this tone
sample (R161). -/
def MixedFrame (f : TdmFrame) (l : Layout) (o : Aop) (clip tone : Int) (i : Nat) : Prop :=
  let b := match l.rrSource with
    | .a => o.channels.a.playing
    | .b => o.channels.b.playing
  let ha := fun off => clamped (filmPart o.channels.a.playing off o.duckHa l.duckShiftHa + if o.duckHa then clip else 0)
  let hb := fun off => clamped (filmPart b off o.duckHb l.duckShiftHb + if o.duckHb then clip else 0)
  f.haL.toInt = ha (4 * i) ∧ f.haR.toInt = ha (4 * i + 2) ∧ f.hbL.toInt = hb (4 * i) ∧ f.hbR.toInt = hb (4 * i + 2) ∧
    f.cabL.toInt = clamped (clip + tone) ∧ f.cabR.toInt = clamped (clip + tone) ∧ f.slot7 = 0 ∧ f.slot8 = 0

/-- AUDIO_UNDERRUN is due for a channel at a block boundary (R159): it is PLAYING, the block at consumer is not in hand, and no underrun has
been reported in this run. -/
def UnderrunDue (s : State) (x : Channel) : Prop :=
  (s.fsq.get x).state = .playing ∧ (s.aop.channels.get x).buffered (s.aop.channels.get x).consumer = none ∧
    (s.aop.channels.get x).underrun = false

/-- The report of an underrun: LATE for a block in the ring, EMPTY for an empty ring, with the channel and the consumer
(R159). That the consumer is the one before the advance of that boundary is the model's choice (log 24). -/
def underrunReport (s : State) (x : Channel) : Report :=
  ⟨.audioUnderrun, .audio, .underrun ((s.aop.channels.get x).inRing (s.aop.channels.get x).consumer) x (s.aop.channels.get x).consumer, none⟩

/-! ## Menu fetches -/

/-- Work of MNU that waits for its port (R93): the request in hand, a PENDING notice cache whose field names a page, or a PENDING auto-pop, over
at least two pages as MenuPanel.safe has it. -/
def MenuFetchWaits (t : State) : MenuPurpose → Prop
  | .request => t.mnu.request ≠ none
  | .service => t.mnu.service = .pending ∧ t.lyu.committed.servicePage ≠ none
  | .cameraLost => t.mnu.cameraLost = .pending ∧ t.lyu.committed.cameraLostPage ≠ none
  | .autoPop p => (menuPanel p t).autoPop = .pending ∧ 2 ≤ (menuPanel p t).stack.length

/-- The place of a purpose in the order of R93, first to last. -/
def MenuPurpose.place : MenuPurpose → Nat
  | .request => 0
  | .service => 1
  | .cameraLost => 2
  | .autoPop .rl => 3
  | .autoPop .rr => 4
  | .autoPop .c => 5

/-- No work comes before this purpose in the order of R93. -/
def ComesFirst (t : State) (purpose : MenuPurpose) : Prop := ∀ q : MenuPurpose, q.place < purpose.place → ¬ MenuFetchWaits t q

/-- The page that a fetch under way for a purpose reads; its notice cache or auto-pop is IN_FLIGHT (R90, R93). -/
def MenuFetchReads (t : State) (page : Nat) : MenuPurpose → Prop
  | .request => ∃ r : MenuRequest, t.mnu.request = some r ∧ page = r.page
  | .service => t.mnu.service = .inFlight ∧ t.lyu.committed.servicePage = some page
  | .cameraLost => t.mnu.cameraLost = .inFlight ∧ t.lyu.committed.cameraLostPage = some page
  | .autoPop p => (menuPanel p t).autoPop = .inFlight ∧ (menuPanel p t).below = some page

/-- A fetch for a purpose is under way and claims the two beats of the directory entry of its page (R90). -/
def MenuClaims (t : State) (purpose : MenuPurpose) (page : Nat) : Prop :=
  t.mnu.fetch = some ⟨purpose, page, true⟩ ∧ t.mnu.claim = .waiting ⟨rowBase t.lyu.committed.map.menuStore + 32 * page, 2⟩ ∧
    MenuFetchReads t page purpose

/-- MNU's port after it was free to start a fetch (R93): idle with no work waiting, or claiming for the work that comes first. -/
def MenuFetchRaised (t : State) : Prop :=
  (t.mnu.fetch = none ∧ t.mnu.claim = .idle ∧ ∀ purpose : MenuPurpose, ¬ MenuFetchWaits t purpose) ∨
  ∃ (purpose : MenuPurpose) (page : Nat), MenuClaims t purpose page ∧ ComesFirst t purpose

/-- Work that waits for the port in one state still waits in another, or has its fetch under way there. -/
def WaitsOn (s t : State) (purpose : MenuPurpose) : Prop :=
  MenuFetchWaits s purpose → MenuFetchWaits t purpose ∨ ∃ page : Nat, t.mnu.fetch = some ⟨purpose, page, true⟩

/-! ## Warm reset -/

/-- What a warm reset makes of the blocks (R39, R49, R65, R89, R107, R128, R145, R163, R175), and what it keeps. -/
structure WarmReset (s t : State) : Prop where
  layout : t.lyu.staged = none ∧ t.lyu.layoutState = unstagedState s.lyu.source ∧ t.lyu.source = s.lyu.source ∧
    t.lyu.committed = s.lyu.committed ∧ t.lyu.lastCommitCheck = s.lyu.lastCommitCheck ∧ t.lyu.commit = .none
  ring : t.rqe.producer = 0 ∧ t.rqe.consumer = 0 ∧ t.rqe.entry = none ∧ t.rqe.drain = .none ∧ t.stw.result = none
  film : t.fsq.a.state = .idle ∧ t.fsq.b.state = .idle ∧ t.fsq.a.queue = [] ∧ t.fsq.b.queue = [] ∧
    t.fsq.a.fill = none ∧ t.fsq.b.fill = none
  menus : t.mnu.panels = ⟨MenuPanel.reset, MenuPanel.reset, MenuPanel.reset⟩ ∧ t.mnu.request = none
  reverse : t.rvc.view = .normal ∧ t.rvc.engageCause = .none ∧ t.rvc.hostRequest = false ∧ t.rvc.health = .awaiting ∧
    t.rvc.holdTimer = .stopped ∧ t.rvc.revQualified = .deasserted
  capture : t.ccp.capturing = false ∧ t.ccp.receiving = none ∧ t.ccp.closing = none ∧ t.ccp.buffer = [] ∧ t.ccp.latest = none ∧
    t.ccp.pinned = s.ccp.pinned ∧ t.ccp.framesGood = 0 ∧ t.ccp.framesDamaged = 0 ∧ t.ccp.drain = .none
  guide : t.gdu.liveBank = none ∧ t.gdu.stagedBank = none ∧ t.gdu.steering = none ∧ t.wdc = { s.wdc with liveBank := none, stagedBank := none }
  park : t.pdu.active = false ∧ t.pdu.sensorFault = false ∧ t.pdu.readout = .none
  chimes : t.chu.queue = [] ∧ t.chu.voice.state = .idle ∧ t.chu.tone.sounding = false ∧ t.chu.dropped = 0 ∧ t.chu.drain = .none
  audio : t.aop.channels = ⟨AudioChannel.reset, AudioChannel.reset⟩ ∧ t.aop.duckHa = false ∧ t.aop.duckHb = false
  faults : t.flt.degraded = false ∧ t.flt.seen = s.flt.seen ∧ t.flt.first = s.flt.first ∧ t.flt.latest = s.flt.latest ∧
    t.flt.tally = s.flt.tally ∧ t.flt.overflow = s.flt.overflow
  bases : t.den.uiPending = none ∧ t.den.uiCurrent = none ∧ t.den.holdRl = s.den.holdRl ∧ t.den.holdRr = s.den.holdRr ∧
    t.den.pin = s.den.pin
  dirty : ∀ k : StatusSection, t.stw.dirty.has k = true
  kept : t.hlp = s.hlp ∧ t.fmc = s.fmc ∧ t.lyu.partTime = s.lyu.partTime

/-- The operational blocks are held, and the attention cause set is empty (R39, R175). -/
structure Held (t : State) : Prop where
  phase : t.lyu.phase = .held
  held : t.rqe.held = true ∧ t.mnu.held = true ∧ t.ccp.held = true ∧ t.gdu.held = true ∧ t.pdu.held = true ∧ t.chu.held = true ∧
    t.aop.held = true ∧ (engine .rl t).held = true ∧ (engine .rr t).held = true ∧ (engine .c t).held = true ∧ t.rvc.acting = false
  silent : t.aop.tdm = silentBlock
  causes : t.flt.causes = 0 ∧ t.attn = .low

/-- The operational blocks are released (R40). -/
structure Released (t : State) : Prop where
  phase : t.lyu.phase = .none
  free : t.rqe.held = false ∧ t.mnu.held = false ∧ t.ccp.held = false ∧ t.gdu.held = false ∧ t.pdu.held = false ∧ t.chu.held = false ∧
    t.aop.held = false ∧ (engine .rl t).held = false ∧ (engine .rr t).held = false ∧ (engine .c t).held = false ∧ t.rvc.acting = true
  done : t.flt.causes.getLsbD Cause.resetDone.bit = true ∧ t.attn = .high

/-- The warm reset is applied in the event that leaves the blocks as in the first state: HELD while WRST is high, and released at once while it is
low (R38, R40). -/
def ResetIn (u t : State) : Prop :=
  WarmReset u t ∧ (u.pins.wrst = .high → Held t ∧ t.lyu.resetCount = u.lyu.resetCount) ∧
  (u.pins.wrst = .low → Released t ∧ t.lyu.resetCount = u.lyu.resetCount + 1)

/-- A drain is in progress, with these states of RQE's, CCP's and CHU's parts in it (R38). -/
def Drains (s : State) (ring capture chimes : Drain) : Prop :=
  s.lyu.phase = .draining ∧ s.rqe.drain = ring ∧ s.ccp.drain = capture ∧ s.chu.drain = chimes

/-- No event of one block ends a drain now: none is in progress, or another block, with one of these drain states, has not reported its
boundary (R38). -/
def NotLast (s : State) (others : List Drain) : Prop := s.lyu.phase ≠ .draining ∨ ∃ d ∈ others, d ≠ .drained

/-- None of the three drained blocks has anything in hand (R38). -/
def NothingInHand (s : State) : Prop :=
  s.rqe.entry = none ∧ s.ccp.receiving = none ∧ s.ccp.closing = none ∧ s.chu.voice.state = .idle

/-! ## Safe states -/

/-- Every invariant of the part. -/
structure Safe (s : State) : Prop where
  memory : MemorySafe s
  credits : CreditsSafe s
  grants : GrantsSafe s
  faults : FaultsSafe s
  degraded : DegradedSafe s
  layout : LayoutSafe s
  ring : RingSafe s
  entry : EntrySafe s
  film : FilmSafe s
  holds : HoldsSafe s
  menus : MenuSafe s
  reverse : ReverseSafe s
  capture : CaptureSafe s
  guide : GuideSafe s
  chimes : ChimesSafe s
  audio : AudioSafe s

end Sys2Proof.Machine
end

