-- ==== Sys2Proof/Certificates/Slice0/Obligations.lean ====
section
/-! DEFINITION. The statements for the provers. Each names the rules of the spec it formalises; where it rests on a choice of the model, the
docstring names the log entry. -/

open Sys2Proof Sys2Proof.Machine

/-! ## The step and the reset -/

/-- A step runs the command at the front of the queue on the state with the queue's rest; on an empty queue the part idles (log 3). -/
def Obligations.StepRunsTheFrontCommand : Prop :=
  (∀ (c : Instr) (rest : List Instr) (s : State), s.pending = c :: rest → step s = exec c { s with pending := rest }) ∧
  (∀ s : State, s.pending = [] → step s = .next s)

/-- POWER_ON_RESET gives every block its power-on state (R34, R3, R13, R41, R66, R88, R107, R129, R145, R163, R175). The model's
choices in it: frame memory stays until the fill completes (log 5), the pins keep what the outside gave them (log 4), the queue and the free
count stay (log 30), the default layout's black is opaque (log 37), and what the spec gives no value at power-on has the one of log 15: the
response last sent, the drain limit, the plans, the playing blocks, the clip voice's underrun. -/
def Obligations.PowerOnResetState : Prop :=
  ∀ s : State, ∃ t : State, exec .powerOnReset s = .next t ∧
    (t.lyu.partState = .init ∧ t.lyu.layoutState = .unconfigured ∧ t.lyu.source = .default ∧ t.lyu.committed = Layout.default ∧
      t.lyu.staged = none ∧ t.lyu.phase = .none ∧ t.lyu.resetCount = 0 ∧ t.lyu.lastCommitCheck = none ∧ t.lyu.commit = .none ∧
      t.lyu.claim = .idle ∧ t.lyu.drainLimit = .stopped) ∧
    (t.stw.result = none ∧ ∀ k : StatusSection, t.stw.dirty.has k = true) ∧
    (t.hlp.queue = [] ∧ t.hlp.credits = 0 ∧ t.hlp.sent = none) ∧
    (t.wdc.map = RegionMap.default ∧ t.wdc.liveBank = none ∧ t.wdc.stagedBank = none) ∧
    (t.fmc.busy = none ∧ t.fmc.rot1 = .chu ∧ t.fmc.rot2 = .chu ∧ t.fmc.rot3 = .chu ∧ t.fmc.rot4 = .chu) ∧
    t.rqe = { producer := 0, consumer := 0, entry := none, fetched := [], drain := .none, held := false, claim := .idle } ∧
    (∀ p : Panel, (engine p t).timing = .atRefreshStart ∧ (engine p t).plan = Plan.fillOnly Colour.black ∧ (engine p t).buffer = [] ∧
      (engine p t).fetching = none ∧ (engine p t).claim = .idle ∧ (engine p t).underflow = false ∧ (engine p t).held = false) ∧
    (t.den.holdRl = none ∧ t.den.holdRr = none ∧ t.den.pin = none ∧ t.den.uiPending = none ∧ t.den.uiCurrent = none) ∧
    (∀ x : Channel, t.fsq.get x =
      { state := .idle, slots := ⟨⟨.free, 0, none⟩, ⟨.free, 0, none⟩, ⟨.free, 0, none⟩⟩, queue := [], fill := none, holdCount := 0,
        starveRun := 0, elapsed := ⟨0, 0, 0⟩, wrap := false, presented := 0, repeated := 0, dropped := 0 }) ∧
    t.mnu =
      { panels := ⟨⟨[], .none, .stopped, .none⟩, ⟨[], .none, .stopped, .none⟩, ⟨[], .none, .stopped, .none⟩⟩, request := none,
        service := .absent, cameraLost := .absent, fetch := none, held := false, claim := .idle } ∧
    t.rvc =
      { revQualified := .deasserted, revPending := none, hostRequest := false, view := .normal, engageCause := .none,
        holdTimer := .stopped, health := .awaiting, firstFrameDeadline := .stopped, lostTimer := .stopped, recoveryCount := 0,
        lastGoodFrameNo := none, acting := false } ∧
    t.ccp =
      { capturing := false, reception := .waiting, receiving := none, closing := none, buffer := [],
        frameNos := ⟨none, none, none, none⟩, latest := none, pinned := none, drain := .none, held := false,
        framesGood := 0, framesDamaged := 0, claim := .idle } ∧
    t.gdu =
      { steering := none, steeringState := .absent, staleTimer := .stopped, staleReported := false, wantedBucket := 16,
        working := false, liveBank := none, stagedBank := none, staticCache := .absent, bucketCache := .absent, fetch := none,
        held := false, claim := .idle } ∧
    t.pdu =
      { active := false, distance := none, distanceTimer := .stopped, validCount := 0, nearest := none, zone := 0,
        sensorFault := false, readout := .none, handed := .zone 0, held := false } ∧
    (t.chu.queue = [] ∧ t.chu.voice.state = .idle ∧ t.chu.voice.underrun = false ∧ t.chu.fetch = none ∧ t.chu.tone.sounding = false ∧
      t.chu.tone.pending = .none ∧ t.chu.dropped = 0 ∧ t.chu.arrivals = 0 ∧ t.chu.drain = .none ∧ t.chu.held = false ∧ t.chu.claim = .idle) ∧
    (∀ x : Channel, (t.aop.channels.get x).producer = 0 ∧ (t.aop.channels.get x).consumer = 0 ∧ (t.aop.channels.get x).ahead = [] ∧
      (t.aop.channels.get x).playing = none ∧ (t.aop.channels.get x).fetch = none ∧ (t.aop.channels.get x).underrun = false) ∧
    (t.aop.duckHa = false ∧ t.aop.duckHb = false ∧ t.aop.held = false ∧ t.aop.claim = .idle ∧ t.aop.tdm = silentBlock) ∧
    t.flt =
      { seen := ⟨0, 0, 0⟩, first := ⟨none, none, none⟩, latest := ⟨none, none, none⟩, tally := 0, overflow := false, degraded := false,
        causes := 0 } ∧
    t.attn = .low ∧ MemoryKept s t ∧ t.pins = s.pins ∧ t.freeCount = s.freeCount ∧ t.pending = s.pending

/-- The state after reset meets every invariant of the part. -/
def Obligations.ResetIsSafe : Prop := Safe State.reset

/-- INIT_END in INIT (R35, R14, R3, R108): RUNNING from part time 0, 32 credits, zeroed CLEAN memory, RESET_DONE with ATTN high, and RVC
acting on the present REV level. With WRST already high and nothing in hand, the phase is HELD after the same event, with the cause set empty
and RVC not acting: that the five points of R35 come before the assertion is the model's choice (log 31). -/
def Obligations.InitEndStartsRunning : Prop :=
  (∀ s : State, s.lyu.partState = .init → s.pins.wrst = .low →
    ∃ t : State, exec .initEnd s = .next t ∧
      t.lyu = { s.lyu with partState := .running, partTime := 0 } ∧
      t.hlp = { s.hlp with credits := 32 } ∧
      (∀ a : Nat, readByte t.fmc.cells a = 0 ∧ t.fmc.mark a = .clean) ∧ t.fmc.busy = s.fmc.busy ∧
      t.flt = { s.flt with causes := causeJoin s.flt.causes .resetDone } ∧ t.attn = .high ∧
      t.rvc = { s.rvc with
        acting := true, revQualified := .deasserted,
        revPending := if s.pins.rev = .high then some ⟨.asserted, 20⟩ else none } ∧
      t.stw.dirty.has .s0 = true ∧
      ChangesOnly [.lyu, .hlp, .fmc, .flt, .rvc, .stw] s t) ∧
  (∀ s : State, s.lyu.partState = .init → s.pins.wrst = .high → NothingInHand s →
    ∃ t : State, exec .initEnd s = .next t ∧ t.lyu.partState = .running ∧ t.lyu.partTime = 0 ∧ t.hlp.credits = 32 ∧ Held t)

/-! ## Invariants that every step keeps -/

/-- Frame memory and its check states keep their canonical forms. -/
def Obligations.MemoryKeepsItsForm : Prop := ∀ s t : State, MemorySafe s → step s = .next t → MemorySafe t

/-- Credits move only by acceptance and response (R1 to R3); and FMC performs one grant at a time, the claim granted being that grant's
(R19, R20). -/
def Obligations.CreditsAndGrantsAgree : Prop :=
  (∀ s t : State, CreditsSafe s → step s = .next t → CreditsSafe t) ∧ (∀ s t : State, GrantsSafe s → step s = .next t → GrantsSafe t)

/-- A class has a first record exactly when its seen set is non-empty (R166), and the tally overflows only at 255 (R167); and while the part
is DEGRADED, no film channel is PLAYING or PRIMING (R85, R168). -/
def Obligations.FaultRecordsAgree : Prop :=
  (∀ s t : State, FaultsSafe s → step s = .next t → FaultsSafe t) ∧ (∀ s t : State, DegradedSafe s → step s = .next t → DegradedSafe t)

/-- The layout state, the staged layout, the committed source and WDC's map agree, and a staged layout waits only while the view is not
NORMAL (R27 to R33, R39). -/
def Obligations.LayoutStatesAgree : Prop := ∀ s t : State, LayoutSafe s → step s = .next t → LayoutSafe t

/-- Consumer never passes producer, and producer never stands more than 32 ahead of it (R42, R47). -/
def Obligations.RingIndicesHold : Prop := ∀ s t : State, RingSafe s → step s = .next t → RingSafe t

/-- The entry in execution has one owner at a time, and one result (R45 to R47, R49, R106). -/
def Obligations.EntryHasOneOwner : Prop := ∀ s t : State, EntrySafe s → step s = .next t → EntrySafe t

/-- The slots of each film channel agree with its ready queue, its fill slot and its state (R67 to R77, R80 to R84, R89); and a slot's scan
holds are counted by the rear engines' hold records (R54, R77). -/
def Obligations.FilmSlotsAgree : Prop :=
  (∀ s t : State, FilmSafe s → step s = .next t → FilmSafe t) ∧ (∀ s t : State, HoldsSafe s → step s = .next t → HoldsSafe t)

/-- Each panel's stack holds 0 to 8 pages, and its top cache, idle timer and auto-pop follow it (R92, R100 to R102, R106), while the entry in
execution has one owner (R46): a menu request in hand keeps the next entry from its dispatch. -/
def Obligations.MenuStacksHold : Prop := ∀ s t : State, MenuSafe s ∧ EntrySafe s → step s = .next t → MenuSafe t

/-- The view, the camera health, their timers and capture agree (R110 to R119, R125, R128), and camera capture never writes the slot that is
latest or pinned (R58, R120, R124). -/
def Obligations.CaptureSparesShownSlots : Prop :=
  (∀ s t : State, ReverseSafe s → step s = .next t → ReverseSafe t) ∧
  (∀ s t : State, ReverseSafe s ∧ CaptureSafe s → step s = .next t → CaptureSafe t)

/-- GDU's caches hold lists of the live bank, whose row WDC protects (R11, R133 to R138). -/
def Obligations.GuideListsAreLive : Prop := ∀ s t : State, GuideSafe s → step s = .next t → GuideSafe t

/-- The chime queue holds at most 8 entries, no two with one clip, in order of priority and arrival (R147, R151, R154). The bound of the
arrival stamps is the model's choice (log 25). -/
def Obligations.ChimeQueueIsOrdered : Prop := ∀ s t : State, ChimesSafe s → step s = .next t → ChimesSafe t

/-- Each film audio ring keeps within its capacity, and AOP fetches at most two blocks ahead (R157 to R159). That only one of the two channels
has a fetch in flight at a time is the model's choice (log 47). -/
def Obligations.AudioRingsHold : Prop := ∀ s t : State, AudioSafe s → step s = .next t → AudioSafe t

/-! ## Rules of the whole part -/

/-- While the view is not NORMAL, the committed layout does not change, nor the map WDC classifies by (R28, R115). -/
def Obligations.LayoutStandsInReverseView : Prop :=
  ∀ (c : Instr) (s t : State), exec c s = .next t → s.rvc.view ≠ .normal → t.rvc.view ≠ .normal →
    t.lyu.committed = s.lyu.committed ∧ t.lyu.source = s.lyu.source ∧ t.wdc.map = s.wdc.map

/-- Frame memory changes only by a grant, by the disturbance of a cell and by the fill of INIT (R14, R19); no command but the host link's
changes the host's queue, and none changes the queue of commands. That POWER_ON_RESET leaves the cells, and INIT_END alone is the fill of
INIT, is the model's choice (log 5), and so is that POWER_ON_RESET leaves the queue of commands (log 30). -/
def Obligations.MemoryChangesOnlyByGrants : Prop :=
  ∀ (c : Instr) (s t : State), exec c s = .next t →
    t.pending = s.pending ∧
    (c ≠ .arbiterGrant → c ≠ .initEnd → (∀ beat flips, c ≠ .memoryCellDisturbance beat flips) → MemoryKept s t) ∧
    (c ≠ .arbiterGrant → c ≠ .hostGrantComplete → c ≠ .powerOnReset → (∀ p, c ≠ .hostRequestPacket p) → t.hlp.queue = s.hlp.queue)

/-- The fault unit handles a report in the steps of R166 to R169: a masked kind is ignored; else the kind joins the seen set of its class,
the first record is filled, or the latest replaced, the tally counts, and the class's action is taken, not during INIT (R164). -/
def Obligations.ReportIsHandled : Prop :=
  ∀ (r : Report) (s t : State), t = report r s →
    (kindIn s.lyu.committed.mask r.kind = true → t = s) ∧
    (kindIn s.lyu.committed.mask r.kind = false →
      ∀ k : FaultClass, k = classOf s.lyu.committed r.kind →
        t.flt.seen = s.flt.seen.set k (kindJoin (s.flt.seen.get k) r.kind) ∧
        (s.flt.first.get k = none → t.flt.first = s.flt.first.set k (some ⟨r, k, stamp s⟩) ∧ t.flt.latest = s.flt.latest) ∧
        (s.flt.first.get k ≠ none → t.flt.first = s.flt.first ∧ t.flt.latest = s.flt.latest.set k (some ⟨r, k, stamp s⟩)) ∧
        (kindIn s.lyu.committed.tallySelection r.kind = false → t.flt.tally = s.flt.tally ∧ t.flt.overflow = s.flt.overflow) ∧
        (kindIn s.lyu.committed.tallySelection r.kind = true →
          (s.flt.tally ≠ 255 → t.flt.tally = s.flt.tally + 1 ∧ t.flt.overflow = s.flt.overflow) ∧
          (s.flt.tally = 255 → t.flt.tally = 255 ∧ t.flt.overflow = true)) ∧
        (s.lyu.partState = .init ∨ s.lyu.committed.action.get k = .quiet ∨
            (s.lyu.committed.action.get k = .safe ∧ s.flt.degraded = true) →
          t.flt.causes = s.flt.causes ∧ t.flt.degraded = s.flt.degraded ∧ t.fsq = s.fsq ∧ t.chu = s.chu) ∧
        (s.lyu.partState = .running → s.lyu.committed.action.get k = .signal →
          t.flt.causes = causeJoin s.flt.causes .fault ∧ t.flt.degraded = s.flt.degraded ∧ t.fsq = s.fsq ∧ t.chu = s.chu) ∧
        (s.lyu.partState = .running → s.lyu.committed.action.get k = .safe → s.flt.degraded = false →
          t.flt.causes = causeJoin s.flt.causes .fault ∧ t.flt.degraded = true ∧
            ∀ x : Channel, (t.fsq.get x).state ≠ .playing ∧ (t.fsq.get x).state ≠ .priming ∧
              (t.fsq.get x).holdCount = (s.fsq.get x).holdCount ∧ (t.fsq.get x).queue = (s.fsq.get x).queue) ∧
        t.stw.dirty.has .s7 = true ∧ ReportsBeside [] s t)

/-! ## The memory path -/

/-- HOST_REQUEST_PACKET (R1): with a credit the request joins the tail of the queue for one credit, whatever its address and beat count;
without one it is discarded, neither queued nor answered, and reported HOST_REQUEST_INVALID, NO_CREDIT, with its transaction. Its direction is
bit 0 of its first byte (R176). HOST_GRANT_COMPLETE (R2): the head's response is sent, in the four header bytes of 11.1 and the data beats,
the request leaves the queue, and its credit returns. That bytes 2 and 3 of that header are 0 is the model's choice (log 41). -/
def Obligations.HostLinkTakesAndAnswers : Prop :=
  (∀ (p : HostRequest) (s : State), p.wellFormed = true → 0 < s.hlp.credits →
    exec (.hostRequestPacket p) s =
      .next { s with hlp := { s.hlp with queue := s.hlp.queue ++ [p], credits := s.hlp.credits - 1 } }) ∧
  (∀ (p : HostRequest) (s : State), p.wellFormed = true → s.hlp.credits = 0 →
    ∃ t : State, exec (.hostRequestPacket p) s = .next t ∧ t.hlp = s.hlp ∧
      t = report ⟨.hostRequestInvalid, .hostLink, .noCredit, some ⟨p.tag, p.address, p.direction, p.beatCount⟩⟩ s) ∧
  (∀ p : HostRequest, (p.first.getLsbD 0 = true → p.direction = .write) ∧ (p.first.getLsbD 0 = false → p.direction = .read)) ∧
  (∀ (r : Response) (beats : List ReadBeat) (s : State), s.fmc.busy = some ⟨.hostTake r, beats⟩ →
    ∃ t : State, exec .hostGrantComplete s = .next t ∧
      t = { s with
        fmc := { s.fmc with busy := none }
        hlp := { queue := s.hlp.queue.drop 1, credits := s.hlp.credits + 1, sent := some r } } ∧
      t.linkBytes = [(match r.outcome with | .ok => 0 | .invalid => 1 | .refused => 2 | .poisoned => 3), r.tag, 0, 0] ++ r.data.flatten)

/-- Every command that is one answers a next state, but for a grant outside frame memory (log 21); a term that is no packet of chapter 11
is refused, and nothing else is (log 22). These stops are the model's choice, and so is the next state that a command answers while its
event's condition does not hold: it passes with no effect (log 1). -/
def Obligations.CommandsComplete : Prop :=
  (∀ (c : Instr) (s : State), c.wellFormed = true → c ≠ .arbiterGrant → ∃ t : State, exec c s = .next t) ∧
  (∀ s : State, (∃ t : State, exec .arbiterGrant s = .next t) ∨ exec .arbiterGrant s = .fault .accessOutsideMemory) ∧
  (∀ (c : Instr) (s : State), c.wellFormed = false → ∃ mnemonic : String, exec c s = .refused (.notThatPacket mnemonic))

/-- MEMORY_CELL_DISTURBANCE (section 1.8, R15): one changed bit makes a CLEAN beat CORRECTABLE, two or more changed bits in all make it
UNCORRECTABLE, which persists; no other byte and no other beat changes. A single changed bit is corrected by the next read of its beat,
which delivers and writes back the data as it was stored. -/
def Obligations.DisturbanceMarksOneBeat : Prop :=
  (∀ (beat : BitVec 25) (flips : Beat) (s : State), MemorySafe s →
    ∃ t : State, exec (.memoryCellDisturbance beat flips) s = .next t ∧
      (s.fmc.mark (16 * beat.toNat) = .clean → bitCount flips = 1 →
        t.fmc.mark (16 * beat.toNat) = .correctable (lowestBit flips)) ∧
      (s.fmc.mark (16 * beat.toNat) = .clean → 2 ≤ bitCount flips → t.fmc.mark (16 * beat.toNat) = .uncorrectable) ∧
      (∀ bit : Nat, s.fmc.mark (16 * beat.toNat) = .correctable bit → 2 ≤ bitCount (flips ^^^ (1#128 <<< bit)) →
        t.fmc.mark (16 * beat.toNat) = .uncorrectable) ∧
      (s.fmc.mark (16 * beat.toNat) = .uncorrectable → t.fmc.mark (16 * beat.toNat) = .uncorrectable) ∧
      (∀ a : Nat, a < 16 * beat.toNat ∨ 16 * beat.toNat + 16 ≤ a →
        readByte t.fmc.cells a = readByte s.fmc.cells a ∧ t.fmc.mark a = s.fmc.mark a) ∧
      ChangesOnly [.fmc] s t) ∧
  (∀ (f : Fmc) (a : Nat) (flips : Beat), f.wf = true → a % 16 = 0 → a + 16 ≤ Config.memoryEnd → f.mark a = .clean →
    bitCount flips = 1 →
    ((f.disturb a flips).readBeat a).beats = [⟨readBytes f.cells a 16, false⟩] ∧
    ((f.disturb a flips).readBeat a).corrected = [a] ∧ ((f.disturb a flips).readBeat a).poisoned = [] ∧
    ((f.disturb a flips).readBeat a).fmc.mark a = .clean ∧
    ∀ b : Nat, readByte ((f.disturb a flips).readBeat a).fmc.cells b = readByte f.cells b)

/-- The arbiter grants the highest tier that holds a waiting claim, and in it the first waiting port after the tier's rotation position;
it grants none only when no claim waits (R18). -/
def Obligations.ArbiterChoosesByTierAndRotation : Prop :=
  (∀ (s : State) (k : Nat) (p : Port), choosePort s = some (k, p) →
    waiting s p = true ∧ tier s p = k ∧ (∀ q : Port, waiting s q = true → k ≤ tier s q) ∧
    (∀ q : Port, waiting s q = true → tier s q = k → ringDistance (s.fmc.rotation k) p ≤ ringDistance (s.fmc.rotation k) q)) ∧
  (∀ s : State, choosePort s = none → ∀ q : Port, waiting s q = false)

/-- ARBITER_GRANT to a claimant that reads (R18, R19): its claim is granted, FMC reads the request's beats and is busy with them, the tier's
rotation position becomes the port, and CLEAN beats leave memory as it was. That a request outside frame memory faults is the model's choice
(log 21). -/
def Obligations.ReadGrantMovesItsBeats : Prop :=
  ∀ (s : State) (k : Nat) (p : Port) (r : Req), Chosen s k p → readClaim s p = some r →
    (r.address + 16 * r.beats ≤ Config.memoryEnd →
      ∃ (t : State) (g : Grant), exec .arbiterGrant s = .next t ∧
        t.fmc.busy = some g ∧ g.kind.port = p ∧ g.beats = (s.fmc.readBeats r.address r.beats).beats ∧
        grantedAt t p = true ∧ t.fmc.rotation k = p ∧
        t.fmc.cells = (s.fmc.readBeats r.address r.beats).fmc.cells ∧ t.fmc.marks = (s.fmc.readBeats r.address r.beats).fmc.marks ∧
        (CleanBeats s r.address r.beats →
          g.beats = (List.range r.beats).map (fun i => ⟨readBytes s.fmc.cells (r.address + 16 * i) 16, false⟩) ∧ MemoryKept s t) ∧
        ReportsBeside [.fmc, p.block] s t) ∧
    (Config.memoryEnd < r.address + 16 * r.beats → exec .arbiterGrant s = .fault .accessOutsideMemory)

/-- ARBITER_GRANT to the host for a plain WRITE (R4, R6, R14 to R16, R21, R22): the enabled bytes of each element are written at the
request's own address and nothing outside the request changes. A full element leaves its beat CLEAN, an empty one touches nothing, and a
partial one merges over what the read of its beat delivers: a byte not enabled holds the corrected data over a CORRECTABLE beat, which is
CLEAN then, and the data as read over an UNCORRECTABLE beat, which keeps its mark. The response is POISONED when a partial element met an
UNCORRECTABLE beat and OK otherwise; FMC reports MEM_CORRECTED and then MEM_UNCORRECTABLE, each once, with the lowest affected beat, their
number and the transaction. -/
def Obligations.PlainWriteStoresItsBytes : Prop :=
  ∀ (s : State) (p : HostRequest) (rest : List HostRequest) (corrected poisoned : List Nat),
    HostTakes s p rest → p.direction = .write → MemorySafe s →
    requestBase p < Config.anchorBase → aliasChannel s.wdc.map (requestBase p) = none → protectedAt s.wdc (requestBase p) = none →
    corrected = beatsFound s (requestBase p) p.elements.length (partialAt p) CheckState.isCorrectable →
    poisoned = beatsFound s (requestBase p) p.elements.length (partialAt p) (fun c => decide (c = .uncorrectable)) →
    ∃ t : State, exec .arbiterGrant s = .next t ∧
      (∀ (j i : Nat) (e : DataElement), p.elements[j]? = some e → i < 16 → e.mask.getLsbD i = true →
        readByte t.fmc.cells (requestBase p + 16 * j + i) = (beatBytes e.data).getD i 0) ∧
      (∀ (j i : Nat) (e : DataElement), p.elements[j]? = some e → i < 16 → e.mask.getLsbD i = false →
        readByte t.fmc.cells (requestBase p + 16 * j + i) =
          (if e.mask = 0 then readByte s.fmc.cells (requestBase p + 16 * j + i)
            else (delivered s (requestBase p + 16 * j)).getD i 0)) ∧
      (∀ (j : Nat) (e : DataElement), p.elements[j]? = some e →
        t.fmc.mark (requestBase p + 16 * j) =
          (if e.mask = 0 ∨ (e.mask ≠ fullMask ∧ s.fmc.mark (requestBase p + 16 * j) = .uncorrectable)
            then s.fmc.mark (requestBase p + 16 * j) else .clean)) ∧
      (∀ a : Nat, a < requestBase p ∨ requestBase p + 16 * p.elements.length ≤ a →
        readByte t.fmc.cells a = readByte s.fmc.cells a ∧ t.fmc.mark a = s.fmc.mark a) ∧
      t.fmc.busy = some ⟨.hostTake ⟨p.tag, if poisoned = [] then .ok else .poisoned, []⟩, []⟩ ∧
      t.flt = (reportHostBeats p corrected poisoned s).flt ∧
      (corrected = [] → poisoned = [] → ChangesOnly [.fmc] s t) ∧
      t.fmc.rot3 = .host ∧ t.hlp = s.hlp ∧ ReportsBeside [.fmc] s t

/-- ARBITER_GRANT to the host for a READ (R6, R7, R10, R12, R15, R21, R22), at its own address, also in a protected region or the anchor
page, or behind an alias window in the fill slot at the same offset: CLEAN beats are returned as stored, lowest address first, with outcome
OK, and memory is as it was. A CORRECTABLE beat is returned and stored corrected and is CLEAN then; an UNCORRECTABLE one is returned as read,
keeps its mark and makes the outcome POISONED. FMC reports MEM_CORRECTED and then MEM_UNCORRECTABLE, each once, with the lowest affected
beat, their number and the transaction. -/
def Obligations.ReadReturnsStoredBeats : Prop :=
  (∀ (s : State) (p : HostRequest) (rest : List HostRequest) (target : Nat), HostTakes s p rest → p.direction = .read →
    PerformedAt s p target → CleanBeats s target p.beatCount.toNat →
    ∃ t : State, exec .arbiterGrant s = .next t ∧
      t.fmc.busy = some ⟨.hostTake
        ⟨p.tag, .ok, (List.range p.beatCount.toNat).map fun j => readBytes s.fmc.cells (target + 16 * j) 16⟩, []⟩ ∧
      MemoryKept s t ∧ t.fmc.rot3 = .host ∧ ChangesOnly [.fmc] s t) ∧
  (∀ (s : State) (p : HostRequest) (rest : List HostRequest) (target : Nat) (corrected poisoned : List Nat),
    HostTakes s p rest → p.direction = .read → PerformedAt s p target → MemorySafe s →
    corrected = beatsFound s target p.beatCount.toNat (fun _ => true) CheckState.isCorrectable →
    poisoned = beatsFound s target p.beatCount.toNat (fun _ => true) (fun c => decide (c = .uncorrectable)) →
    ∃ t : State, exec .arbiterGrant s = .next t ∧
      t.fmc.busy = some ⟨.hostTake
        ⟨p.tag, if poisoned = [] then .ok else .poisoned,
          (List.range p.beatCount.toNat).map fun j => delivered s (target + 16 * j)⟩, []⟩ ∧
      (∀ j i : Nat, j < p.beatCount.toNat → i < 16 →
        readByte t.fmc.cells (target + 16 * j + i) = (delivered s (target + 16 * j)).getD i 0) ∧
      (∀ j : Nat, j < p.beatCount.toNat → t.fmc.mark (target + 16 * j) =
        (if s.fmc.mark (target + 16 * j) = .uncorrectable then .uncorrectable else .clean)) ∧
      (∀ a : Nat, a < target ∨ target + 16 * p.beatCount.toNat ≤ a →
        readByte t.fmc.cells a = readByte s.fmc.cells a ∧ t.fmc.mark a = s.fmc.mark a) ∧
      t.flt = (reportHostBeats p corrected poisoned s).flt ∧ t.fmc.rot3 = .host ∧ t.hlp = s.hlp ∧ ReportsBeside [.fmc] s t)

/-- A request that fails a validity check is answered INVALID at its take with the first of the four checks it fails (R5), a valid WRITE into
the protection set is refused whole (R10), and an alias request while FSQ names no fill slot is refused (R8): nothing is performed, the
credit returns with the response, the report its rule gives carries the request's transaction, and memory is as it was. -/
def Obligations.InvalidAndRefusedTakesPerformNothing : Prop :=
  (∀ (s : State) (p : HostRequest) (rest : List HostRequest) (detail : Detail),
    Chosen s 3 .host → s.hlp.queue = p :: rest →
    some detail = (if p.address.toNat % 16 ≠ 0 then some Detail.misaligned
      else if p.beatCount.toNat = 0 ∨ 16 < p.beatCount.toNat then some .beatCount
      else if 4096 < p.address.toNat % 4096 + 16 * p.beatCount.toNat then some .pageCrossing
      else if 0x20000000 ≤ p.address.toNat then some .outsideMemory
      else none) →
    ∃ t : State, exec .arbiterGrant s = .next t ∧
      t.hlp = { queue := rest, credits := s.hlp.credits + 1, sent := some ⟨p.tag, .invalid, []⟩ } ∧
      t.flt = (report ⟨.hostRequestInvalid, .hostLink, detail, some (txnOf p)⟩ s).flt ∧
      MemoryKept s t ∧ t.fmc.busy = none ∧ ReportsBeside [.fmc, .hlp] s t) ∧
  (∀ (s : State) (p : HostRequest) (rest : List HostRequest) (region : ProtectedRegion),
    HostTakes s p rest → p.direction = .write →
    (requestBase p < Config.anchorBase ∧ aliasChannel s.wdc.map (requestBase p) = none ∧
        protectedAt s.wdc (requestBase p) = some region) ∨
      (Config.anchorBase ≤ requestBase p ∧ touchesStatus p = true ∧ region = .statusBlock) →
    ∃ t : State, exec .arbiterGrant s = .next t ∧
      t.hlp = { queue := rest, credits := s.hlp.credits + 1, sent := some ⟨p.tag, .refused, []⟩ } ∧
      t.flt = (report ⟨.writeRefused, .hostLink, .touches region, some (txnOf p)⟩ s).flt ∧
      MemoryKept s t ∧ t.fmc.busy = none ∧ ReportsBeside [.fmc, .hlp] s t) ∧
  (∀ (s : State) (p : HostRequest) (rest : List HostRequest) (x : Channel),
    HostTakes s p rest → requestBase p < Config.anchorBase → aliasChannel s.wdc.map (requestBase p) = some x →
    (s.fsq.get x).fill = none →
    ∃ t : State, exec .arbiterGrant s = .next t ∧
      t.hlp = { queue := rest, credits := s.hlp.credits + 1, sent := some ⟨p.tag, .refused, []⟩ } ∧
      t.flt = (report (if p.direction = .read ∨ (s.fsq.get x).state = .idle
        then ⟨.writeRefused, .hostLink, .noFillSlot, some (txnOf p)⟩
        else ⟨.fillOverrun, channelSource x, .channelState (s.fsq.get x).state, some (txnOf p)⟩) s).flt ∧
      MemoryKept s t ∧ t.fmc.busy = none ∧ ReportsBeside [.fmc, .hlp] s t)

/-- An alias WRITE with a fill slot is performed at the base of the FILM_SLOTS row plus the slot's index times 2,052,096 plus its offset in
the FILL row (R7), and nowhere else. A trailer beat, at offset 2,048,000, is handed to FSQ only when it is written in full (R9). A valid
trailer puts the slot with its frame at the tail of the ready queue and FSQ chooses the fill slot anew (R69, R70); one that fails a check is
reported and the slot stays the fill slot (R68). -/
def Obligations.AliasWriteReachesTheFillSlot : Prop :=
  ∀ (s : State) (p : HostRequest) (rest : List HostRequest) (x : Channel) (i : Fin 3) (trailer target : Nat),
    HostTakes s p rest → p.direction = .write → MemorySafe s → requestBase p < Config.anchorBase →
    aliasChannel s.wdc.map (requestBase p) = some x → (s.fsq.get x).fill = some i →
    trailer = rowBase (fillRow x s.wdc.map) + 2048000 →
    target = rowBase (filmRow x s.wdc.map) + 2052096 * i.val + (requestBase p - rowBase (fillRow x s.wdc.map)) →
    target + 16 * p.elements.length ≤ Config.memoryEnd →
    ((∀ (j : Nat) (e : DataElement), p.elements[j]? = some e → requestBase p + 16 * j = trailer → e.mask ≠ fullMask) →
      CleanBeats s target p.elements.length →
      ∃ t : State, exec .arbiterGrant s = .next t ∧
        (∀ (j k : Nat) (e : DataElement), p.elements[j]? = some e → k < 16 →
          readByte t.fmc.cells (target + 16 * j + k) =
            (if e.mask.getLsbD k then (beatBytes e.data).getD k 0 else readByte s.fmc.cells (target + 16 * j + k))) ∧
        (∀ a : Nat, a < target ∨ target + 16 * p.elements.length ≤ a → readByte t.fmc.cells a = readByte s.fmc.cells a) ∧
        t.fmc.busy = some ⟨.hostTake ⟨p.tag, .ok, []⟩, []⟩ ∧ ChangesOnly [.fmc] s t) ∧
    (∀ (j : Nat) (e : DataElement) (bytes : List Byte) (r : FilmChannel),
      p.elements[j]? = some e → requestBase p + 16 * j = trailer → (∀ d ∈ p.elements, d.mask = fullMask) →
      bytes = beatBytes e.data → r = s.fsq.get x → r.safe →
      ∃ t : State, exec .arbiterGrant s = .next t ∧
        (∀ (m k : Nat) (d : DataElement), p.elements[m]? = some d → k < 16 →
          readByte t.fmc.cells (target + 16 * m + k) = (beatBytes d.data).getD k 0) ∧
        (∀ a : Nat, a < target ∨ target + 16 * p.elements.length ≤ a → readByte t.fmc.cells a = readByte s.fmc.cells a) ∧
        t.fmc.busy = some ⟨.hostTake ⟨p.tag, .ok, []⟩, []⟩ ∧
        (get32 bytes 0 = 0x54524C52 → 1 ≤ get8 bytes 8 → get8 bytes 8 ≤ 4 →
          (t.fsq.get x).state = r.state ∧ (t.fsq.get x).holdCount = r.holdCount ∧ (t.fsq.get x).starveRun = r.starveRun ∧
          (t.fsq.get x).elapsed = r.elapsed ∧ (t.fsq.get x).shown = r.shown ∧ (t.fsq.get x).presented = r.presented ∧
          ((t.fsq.get x).slots.get i).state = .ready ∧
          ((t.fsq.get x).slots.get i).frame =
            some ⟨BitVec.ofNat 32 (get32 bytes 4), get8 bytes 8, (get8 bytes 9).testBit 0, (get8 bytes 9).testBit 1⟩ ∧
          (r.queue = [] →
            (t.fsq.get x).queue = [i] ∧ (t.fsq.get x).fill = r.lowestFree ∧ (t.fsq.get x).dropped = r.dropped) ∧
          (∀ head : Fin 3, r.queue = [head] → s.lyu.committed.fillPolicy.get x = .newest →
            (t.fsq.get x).queue = [i] ∧ (t.fsq.get x).fill = some head ∧ ((t.fsq.get x).slots.get head).frame = none ∧
              (t.fsq.get x).dropped = r.dropped + 1) ∧
          (∀ head : Fin 3, r.queue = [head] → s.lyu.committed.fillPolicy.get x = .keepAll →
            (t.fsq.get x).queue = [head, i] ∧ (t.fsq.get x).fill = none ∧ (t.fsq.get x).dropped = r.dropped) ∧
          (∀ y : Channel, y ≠ x → t.fsq.get y = s.fsq.get y) ∧
          t.stw.dirty.has (channelSection x) = true ∧ ChangesOnly [.fmc, .fsq, .stw] s t) ∧
        (get32 bytes 0 ≠ 0x54524C52 ∨ get8 bytes 8 = 0 ∨ 4 < get8 bytes 8 →
          (t.fsq.get x).queue = r.queue ∧ (t.fsq.get x).fill = some i ∧ (t.fsq.get x).slots = r.slots ∧
          t.flt = (report ⟨.trailerInvalid, channelSource x,
            if get32 bytes 0 ≠ 0x54524C52 then .badMarker (BitVec.ofNat 32 (get32 bytes 4))
              else .badDelay (BitVec.ofNat 8 (get8 bytes 8)) (BitVec.ofNat 32 (get32 bytes 4)), none⟩ s).flt ∧
          ReportsBeside [.fmc] s t))

/-- ARBITER_GRANT to STW (R36, R37): a section claim writes the section's 96 bytes as they stand at the grant, at its place in the status
block, and takes the section out of the dirty set; a result claim writes the code into the two result bytes of the entry's ring position
and no other byte, where the entry's first beat need not be corrected. ARBITER_GRANT to CCP (R121): the next request of the oldest line, 1 to
16 beats within a page, is written in full at the slot base plus 2560 × line_no, its beats are CLEAN, and no other byte changes. -/
def Obligations.WriteGrantsStoreTheirBytes : Prop :=
  (∀ (s : State) (n : Nat) (k : StatusSection), Chosen s n .stw → s.stw.claim = .sectionWaiting k → MemorySafe s →
    ∃ t : State, exec .arbiterGrant s = .next t ∧
      (∀ i : Nat, i < 96 → readByte t.fmc.cells (0x1FFFF700 + 96 * k.index + i) = (sectionBytes k s).getD i 0) ∧
      (∀ a : Nat, a < 0x1FFFF700 + 96 * k.index ∨ 0x1FFFF700 + 96 * k.index + 96 ≤ a →
        readByte t.fmc.cells a = readByte s.fmc.cells a) ∧
      (∀ j : StatusSection, t.stw.dirty.has j = (s.stw.dirty.has j && decide (j ≠ k))) ∧
      t.stw.claim = .sectionGranted ∧ t.stw.result = s.stw.result ∧ t.fmc.busy = some ⟨.statusSection, []⟩ ∧
      ChangesOnly [.fmc, .stw, .freeCount] s t) ∧
  (∀ (s : State) (n : Nat) (r : ResultWrite), Chosen s n .stw → s.stw.claim = .resultWaiting → s.stw.result = some r →
    MemorySafe s → (∀ bit : Nat, s.fmc.mark (0x1FFFF300 + 32 * (r.position % 32)) ≠ .correctable bit) →
    ∃ t : State, exec .arbiterGrant s = .next t ∧
      readByte t.fmc.cells (0x1FFFF300 + 32 * (r.position % 32) + 2) = BitVec.ofNat 8 r.code.code ∧
      readByte t.fmc.cells (0x1FFFF300 + 32 * (r.position % 32) + 3) = 0 ∧
      (∀ a : Nat, a ≠ 0x1FFFF300 + 32 * (r.position % 32) + 2 → a ≠ 0x1FFFF300 + 32 * (r.position % 32) + 3 →
        readByte t.fmc.cells a = readByte s.fmc.cells a) ∧
      t.fmc.marks = s.fmc.marks ∧ t.stw.claim = .resultGranted ∧ t.stw.result = s.stw.result ∧
      ReportsBeside [.fmc] s t) ∧
  (∀ (s : State) (n : Nat) (line : CameraLine) (rest : List CameraLine) (a beats : Nat), Chosen s n .ccp →
    s.ccp.claim = .waiting line.request → s.ccp.buffer = line :: rest → line.data.length = 2560 → line.written < 160 →
    line.base % 16 = 0 → a = line.base + 2560 * line.lineNo + 16 * line.written → beats = line.request.beats → MemorySafe s →
    a + 16 * beats ≤ Config.memoryEnd →
    1 ≤ beats ∧ beats ≤ 16 ∧ line.written + beats ≤ 160 ∧ a % 4096 + 16 * beats ≤ 4096 ∧
    ∃ t : State, exec .arbiterGrant s = .next t ∧
      (∀ i : Nat, i < 16 * beats → readByte t.fmc.cells (a + i) = line.data.getD (16 * line.written + i) 0) ∧
      (∀ i : Nat, i < beats → t.fmc.mark (a + 16 * i) = .clean) ∧
      (∀ b : Nat, b < a ∨ a + 16 * beats ≤ b → readByte t.fmc.cells b = readByte s.fmc.cells b ∧ t.fmc.mark b = s.fmc.mark b) ∧
      t.fmc.busy = some ⟨.cameraWrite, []⟩ ∧ t.ccp = { s.ccp with claim := .granted true } ∧ ChangesOnly [.fmc, .ccp] s t)

/-! ## The request ring -/

/-- ENTRY_FETCH_COMPLETE judges the entry (R44, R45): a poisoned one is answered MEM_ERROR, an unknown kind UNKNOWN_KIND with
REQUEST_INVALID, and a kind not taken while the default layout is committed NOT_CONFIGURED without a fault; no owner hears of it. -/
def Obligations.EntryIsJudged : Prop :=
  (∀ (s : State) (index : Count) (beats : List ReadBeat), s.fmc.busy = some ⟨.entryFetch, beats⟩ → anyPoison beats = true →
    s.rqe.claim = .granted true → s.rqe.entry = some ⟨index, .fetching⟩ → NotDraining s →
    ∃ t : State, exec .entryFetchComplete s = .next t ∧ Answered .memError index s t ∧ GrantEnded s t ∧
      ChangesOnly [.fmc, .rqe, .stw] s t) ∧
  (∀ (s : State) (index : Count) (e : List Byte), EntryFetched s index e → get16 e 0 = 0 ∨ 17 < get16 e 0 →
    ∃ t : State, exec .entryFetchComplete s = .next t ∧ Answered .unknownKind index s t ∧ GrantEnded s t ∧
      t.flt = (report ⟨.requestInvalid, .request, .unknownKind (BitVec.ofNat 16 (get16 e 0)) index, none⟩ s).flt ∧
      ReportsBeside [.fmc, .rqe] s t) ∧
  (∀ (s : State) (index : Count) (e : List Byte), EntryFetched s index e → s.lyu.source = .default →
    1 ≤ get16 e 0 → get16 e 0 ≤ 17 → get16 e 0 ∉ [1, 11, 15, 16] →
    ∃ t : State, exec .entryFetchComplete s = .next t ∧ Answered .notConfigured index s t ∧ GrantEnded s t ∧
      ChangesOnly [.fmc, .rqe, .stw] s t)

/-- The requests of the fault unit at their dispatch. FAULT_ACK (R171), also under the default layout, empties the records and the seen set
of the classes named and clears the tally if asked. ATTN_ACK (R173), also under the default layout, removes the causes named. An argument
outside their sets is answered BAD_ARGUMENT with nothing changed. RESUME (R170) clears DEGRADED unless a class whose action is SAFE has a
first record, and is answered NOT_CONFIGURED under the default layout. -/
def Obligations.FaultRequestsAct : Prop :=
  (∀ (s : State) (index : Count) (e : List Byte), EntryFetched s index e → get16 e 0 = 15 →
    ∃ t : State, exec .entryFetchComplete s = .next t ∧ GrantEnded s t ∧ ChangesOnly [.fmc, .rqe, .stw, .flt] s t ∧
      (8 ≤ get8 e 4 ∨ 1 < get8 e 5 → Answered .badArgument index s t ∧ t.flt = s.flt ∧ t.stw.dirty = s.stw.dirty) ∧
      (get8 e 4 < 8 → get8 e 5 ≤ 1 → Answered .ok index s t ∧
        t.flt.causes = s.flt.causes ∧ t.flt.degraded = s.flt.degraded ∧ t.stw.dirty.has .s7 = true ∧
        (∀ (k : FaultClass) (bit : Nat), (k, bit) ∈ [(FaultClass.advisory, 0), (.serious, 1), (.critical, 2)] →
          ((get8 e 4).testBit bit = true →
            t.flt.seen.get k = 0 ∧ t.flt.first.get k = none ∧ t.flt.latest.get k = none) ∧
          ((get8 e 4).testBit bit = false →
            t.flt.seen.get k = s.flt.seen.get k ∧ t.flt.first.get k = s.flt.first.get k ∧
              t.flt.latest.get k = s.flt.latest.get k)) ∧
        (get8 e 5 = 1 → t.flt.tally = 0 ∧ t.flt.overflow = false) ∧
        (get8 e 5 = 0 → t.flt.tally = s.flt.tally ∧ t.flt.overflow = s.flt.overflow))) ∧
  (∀ (s : State) (index : Count) (e : List Byte), EntryFetched s index e → get16 e 0 = 16 →
    ∃ t : State, exec .entryFetchComplete s = .next t ∧ GrantEnded s t ∧ ChangesOnly [.fmc, .rqe, .stw, .flt] s t ∧
      (64 ≤ get8 e 4 → Answered .badArgument index s t ∧ t.flt = s.flt ∧ t.stw.dirty = s.stw.dirty) ∧
      (get8 e 4 < 64 → Answered .ok index s t ∧
        t.flt = { s.flt with causes := s.flt.causes &&& ~~~ BitVec.ofNat 6 (get8 e 4) } ∧
        (t.flt.causes ≠ s.flt.causes → t.stw.dirty.has .s0 = true) ∧ (t.flt.causes = 0 → t.attn = .low) ∧
        (t.flt.causes ≠ 0 → t.attn = .high))) ∧
  (∀ (s : State) (index : Count) (e : List Byte), EntryFetched s index e → get16 e 0 = 17 →
    ∃ t : State, exec .entryFetchComplete s = .next t ∧ GrantEnded s t ∧ ChangesOnly [.fmc, .rqe, .stw, .flt] s t ∧
      (s.lyu.source = .default → Answered .notConfigured index s t ∧ t.flt = s.flt) ∧
      (s.lyu.source = .host → (∃ k : FaultClass, s.lyu.committed.action.get k = .safe ∧ s.flt.first.get k ≠ none) →
        Answered .notClear index s t ∧ t.flt = s.flt ∧ t.stw.dirty = s.stw.dirty) ∧
      (s.lyu.source = .host → (∀ k : FaultClass, s.lyu.committed.action.get k = .safe → s.flt.first.get k = none) →
        Answered .ok index s t ∧
        (s.flt.degraded = true → t.flt = { s.flt with degraded := false } ∧ t.stw.dirty.has .s7 = true) ∧
        (s.flt.degraded = false → t.flt = s.flt ∧ t.stw.dirty = s.stw.dirty)))

/-- The film requests at their dispatch (R79 to R83): PLAY is refused while DEGRADED or STAGED and else starts or resumes the channel, PAUSE
pauses a PLAYING or PRIMING channel, STOP makes it IDLE with its counter and its audio ring at 0, SEEK presets the counter and empties the
ready queue. The other channel is as it was. A request that names no channel, or channel B while rr_source is A, is answered BAD_ARGUMENT
or NOT_ROUTED and changes no film channel. -/
def Obligations.FilmRequestsAct : Prop :=
  (∀ (s : State) (index : Count) (e : List Byte) (x y : Channel),
    EntryFetched s index e → Routed x s → get8 e 4 = channelArgument x → y ≠ x →
    (get16 e 0 = 2 →
      ∃ t : State, exec .entryFetchComplete s = .next t ∧ ChangesOnly [.fmc, .rqe, .stw, .fsq, .aop] s t ∧
        t.fsq.get y = s.fsq.get y ∧
        (s.flt.degraded = true → Answered .degraded index s t ∧ t.fsq = s.fsq ∧ t.aop = s.aop) ∧
        (s.flt.degraded = false → s.lyu.layoutState = .staged → Answered .busy index s t ∧ t.fsq = s.fsq ∧ t.aop = s.aop) ∧
        (s.flt.degraded = false → s.lyu.layoutState ≠ .staged →
          Answered .ok index s t ∧ (t.fsq.get x).elapsed = (s.fsq.get x).elapsed ∧ (t.fsq.get x).queue = (s.fsq.get x).queue ∧
          ((s.fsq.get x).state = .idle → (t.fsq.get x).state = .priming ∧ (t.fsq.get x).presented = 0 ∧
            (t.fsq.get x).holdCount = 0 ∧ (∀ i, (s.fsq.get x).lowestFree = some i → (t.fsq.get x).fill = some i)) ∧
          ((s.fsq.get x).state = .playing ∨ (s.fsq.get x).state = .priming → (t.fsq.get x).state = (s.fsq.get x).state) ∧
          ((s.fsq.get x).state = .paused → (t.fsq.get x).state = (if (s.fsq.get x).shown.isSome then .playing else .priming) ∧
            (t.fsq.get x).holdCount = (s.fsq.get x).holdCount) ∧
          ((s.fsq.get x).state = .ended → (t.fsq.get x).state = .playing ∧ (t.fsq.get x).holdCount = 1))) ∧
    (get16 e 0 = 3 →
      ∃ t : State, exec .entryFetchComplete s = .next t ∧ Answered .ok index s t ∧ ChangesOnly [.fmc, .rqe, .stw, .fsq] s t ∧
        t.fsq.get y = s.fsq.get y ∧ (t.fsq.get x).queue = (s.fsq.get x).queue ∧
        (t.fsq.get x).holdCount = (s.fsq.get x).holdCount ∧ (t.fsq.get x).elapsed = (s.fsq.get x).elapsed ∧
        (t.fsq.get x).state =
          (if (s.fsq.get x).state = .playing ∨ (s.fsq.get x).state = .priming then .paused else (s.fsq.get x).state)) ∧
    (get16 e 0 = 4 →
      ∃ t : State, exec .entryFetchComplete s = .next t ∧ Answered .ok index s t ∧ ChangesOnly [.fmc, .rqe, .stw, .fsq, .aop] s t ∧
        t.fsq.get y = s.fsq.get y ∧ (t.fsq.get x).state = .idle ∧ (t.fsq.get x).elapsed = ⟨0, 0, 0⟩ ∧ (t.fsq.get x).wrap = false ∧
        ((s.fsq.get x).state ≠ .idle → (t.fsq.get x).queue = [] ∧ (t.fsq.get x).fill = none ∧ (t.fsq.get x).holdCount = 0 ∧
          (t.fsq.get x).starveRun = 0) ∧
        (t.aop.channels.get x).producer = 0 ∧ (t.aop.channels.get x).consumer = 0) ∧
    (get16 e 0 = 5 →
      ∃ t : State, exec .entryFetchComplete s = .next t ∧ ChangesOnly [.fmc, .rqe, .stw, .fsq] s t ∧
        t.fsq.get y = s.fsq.get y ∧
        (9 < get8 e 5 ∨ 59 < get8 e 6 ∨ 59 < get8 e 7 → Answered .badArgument index s t ∧ t.fsq = s.fsq) ∧
        (get8 e 5 ≤ 9 → get8 e 6 ≤ 59 → get8 e 7 ≤ 59 → Answered .ok index s t ∧
          (t.fsq.get x).elapsed = ⟨get8 e 5, get8 e 6, get8 e 7⟩ ∧ (t.fsq.get x).wrap = false ∧ (t.fsq.get x).queue = [] ∧
          (t.fsq.get x).state = (s.fsq.get x).state ∧ (t.fsq.get x).holdCount = (s.fsq.get x).holdCount))) ∧
  (∀ (s : State) (index : Count) (e : List Byte), EntryFetched s index e → s.lyu.source = .host → 2 ≤ get16 e 0 → get16 e 0 ≤ 5 →
    (1 < get8 e 4 →
      ∃ t : State, exec .entryFetchComplete s = .next t ∧ Answered .badArgument index s t ∧ ChangesOnly [.fmc, .rqe, .stw] s t) ∧
    (get8 e 4 = 1 → s.lyu.committed.rrSource = .a →
      ∃ t : State, exec .entryFetchComplete s = .next t ∧ Answered .notRouted index s t ∧ ChangesOnly [.fmc, .rqe, .stw] s t))

/-- MENU_PUSH, MENU_POP and MENU_REPLACE at their dispatch (R94 to R97): each is answered at once or becomes the request in hand; each names
one panel, whose idle timer restarts (R100) and whose auto-pop ends, and leaves the other panels and the notice caches as they were. With
MNU's port free the request's fetch starts, as a claim of the two beats of the page's directory entry (R90, R93). That a pop in hand carries
the page below the top is the model's choice (log 26). A menu request that names no panel is answered BAD_ARGUMENT. IDLE_TIMER_EXPIRY (R101):
with a request for the panel in hand the timer restarts by the committed timeout; a single page is removed; a deeper stack starts an auto-pop
with its timer STOPPED. The fetch of the page below the top starts when the port is free and no other work comes first in the order of R93;
otherwise the auto-pop is PENDING, and with the port free the work that comes first starts. No other work that waits is lost. That an expiry
may be taken later than the time it is due is the model's choice (log 2). -/
def Obligations.MenuRequestsAndIdleExpiryAct : Prop :=
  (∀ (s : State) (index : Count) (e : List Byte) (p : Panel),
      EntryFetched s index e → s.lyu.source = .host → get8 e 4 = panelArgument p → 6 ≤ get16 e 0 → get16 e 0 ≤ 8 →
      ∃ t : State, exec .entryFetchComplete s = .next t ∧ GrantEnded s t ∧ ChangesOnly [.fmc, .rqe, .stw, .mnu] s t ∧
        (∀ q : Panel, q ≠ p → menuPanel q t = menuPanel q s) ∧ (menuPanel p t).autoPop = .none ∧
        t.mnu.service = s.mnu.service ∧ t.mnu.cameraLost = s.mnu.cameraLost ∧
        (∀ timeout : Nat, timeout = s.lyu.committed.idleTimeout.get p →
          (menuPanel p t).idle = (if (menuPanel p t).stack ≠ [] ∧ 1 ≤ timeout ∧ timeout ≤ 60
            then .running (s.lyu.partTime + BitVec.ofNat 32 (1000 * timeout)) else .stopped)) ∧
        (get16 e 0 = 6 → (menuPanel p t).stack = (menuPanel p s).stack ∧
          (63 < get8 e 5 → Answered .badArgument index s t) ∧
          (get8 e 5 ≤ 63 → (menuPanel p s).topPage = some (get8 e 5) → Answered .ok index s t) ∧
          (get8 e 5 ≤ 63 → (menuPanel p s).topPage ≠ some (get8 e 5) → 8 ≤ (menuPanel p s).stack.length →
            Answered .stackFull index s t) ∧
          (get8 e 5 ≤ 63 → (menuPanel p s).topPage ≠ some (get8 e 5) → (menuPanel p s).stack.length < 8 →
            WithOwner index s t ∧ t.mnu.request = some ⟨.push, p, get8 e 5⟩ ∧
            (s.mnu.held = false → s.mnu.fetch = none → s.mnu.claim = .idle → MenuClaims t .request (get8 e 5)))) ∧
        (get16 e 0 = 7 →
          ((menuPanel p s).stack = [] → Answered .stackEmpty index s t) ∧
          ((menuPanel p s).stack.length = 1 → Answered .ok index s t ∧ (menuPanel p t).stack = [] ∧ (menuPanel p t).top = .none) ∧
          (∀ page : Nat, (menuPanel p s).below = some page →
            WithOwner index s t ∧ (menuPanel p t).stack = (menuPanel p s).stack ∧ t.mnu.request = some ⟨.pop, p, page⟩ ∧
            (s.mnu.held = false → s.mnu.fetch = none → s.mnu.claim = .idle → MenuClaims t .request page))) ∧
        (get16 e 0 = 8 → (menuPanel p t).stack = (menuPanel p s).stack ∧
          (63 < get8 e 5 → Answered .badArgument index s t) ∧
          (get8 e 5 ≤ 63 → (menuPanel p s).stack = [] → Answered .stackEmpty index s t) ∧
          (get8 e 5 ≤ 63 → (menuPanel p s).stack ≠ [] → WithOwner index s t ∧ t.mnu.request = some ⟨.replace, p, get8 e 5⟩ ∧
            (s.mnu.held = false → s.mnu.fetch = none → s.mnu.claim = .idle → MenuClaims t .request (get8 e 5))))) ∧
  (∀ (s : State) (index : Count) (e : List Byte), EntryFetched s index e → s.lyu.source = .host → 6 ≤ get16 e 0 → get16 e 0 ≤ 10 →
    2 < get8 e 4 →
    ∃ t : State, exec .entryFetchComplete s = .next t ∧ Answered .badArgument index s t ∧ GrantEnded s t ∧
      ChangesOnly [.fmc, .rqe, .stw] s t) ∧
  (∀ (s : State) (p : Panel) (expiry : Millis), (menuPanel p s).idle = .running expiry → reached s.lyu.partTime expiry = true →
      ∃ t : State, exec (.idleTimerExpiry p) s = .next t ∧ ChangesOnly [.mnu, .stw] s t ∧
        (∀ q : Panel, q ≠ p → (menuPanel q t).stack = (menuPanel q s).stack ∧ (menuPanel q t).top = (menuPanel q s).top ∧
          (menuPanel q t).idle = (menuPanel q s).idle) ∧
        (requestFor p s = true → (menuPanel p t).stack = (menuPanel p s).stack ∧ (menuPanel p t).top = (menuPanel p s).top ∧
          (menuPanel p t).autoPop = (menuPanel p s).autoPop ∧
          (∀ timeout : Nat, timeout = s.lyu.committed.idleTimeout.get p →
            (menuPanel p t).idle = (if (menuPanel p s).stack ≠ [] ∧ 1 ≤ timeout ∧ timeout ≤ 60
              then .running (s.lyu.partTime + BitVec.ofNat 32 (1000 * timeout)) else .stopped))) ∧
        (requestFor p s = false → (menuPanel p s).stack.length = 1 →
          (menuPanel p t).stack = [] ∧ (menuPanel p t).top = .none ∧ (menuPanel p t).idle = .stopped) ∧
        (requestFor p s = false → 2 ≤ (menuPanel p s).stack.length →
          (menuPanel p t).stack = (menuPanel p s).stack ∧ (menuPanel p t).top = (menuPanel p s).top ∧ (menuPanel p t).idle = .stopped ∧
          t.mnu.request = s.mnu.request ∧ (∀ purpose : MenuPurpose, WaitsOn s t purpose) ∧
          (∀ page : Nat, (menuPanel p s).below = some page → s.mnu.held = false → s.mnu.fetch = none → s.mnu.claim = .idle →
            ComesFirst s (.autoPop p) → MenuClaims t (.autoPop p) page) ∧
          (s.mnu.held = true ∨ s.mnu.fetch ≠ none ∨ s.mnu.claim ≠ .idle ∨ ¬ ComesFirst s (.autoPop p) →
            (menuPanel p t).autoPop = .pending) ∧
          (s.mnu.held = true ∨ s.mnu.fetch ≠ none ∨ s.mnu.claim ≠ .idle →
            t.mnu.fetch = s.mnu.fetch ∧ t.mnu.claim = s.mnu.claim) ∧
          (s.mnu.held = false → s.mnu.fetch = none → s.mnu.claim = .idle → MenuFetchRaised t)))

/-- MENU_CLEAR (R98) empties the panel's stack and makes its top cache NONE, also when it was empty, and stops its timer. MENU_TOUCH (R99)
restarts the panel's idle timer and changes no stack. Both end the panel's auto-pop, are answered OK at dispatch, and leave the other panels
as they were. -/
def Obligations.MenuClearAndTouchAct : Prop :=
  ∀ (s : State) (index : Count) (e : List Byte) (p : Panel),
    EntryFetched s index e → s.lyu.source = .host → get8 e 4 = panelArgument p → (menuPanel p s).safe →
    (get16 e 0 = 9 →
      ∃ t : State, exec .entryFetchComplete s = .next t ∧ Answered .ok index s t ∧ GrantEnded s t ∧
        t.mnu.panels = s.mnu.panels.set p ⟨[], .none, .stopped, .none⟩ ∧ t.mnu.request = s.mnu.request ∧
        t.mnu.service = s.mnu.service ∧ t.mnu.cameraLost = s.mnu.cameraLost ∧ ChangesOnly [.fmc, .rqe, .stw, .mnu] s t) ∧
    (get16 e 0 = 10 →
      ∃ t : State, exec .entryFetchComplete s = .next t ∧ Answered .ok index s t ∧ GrantEnded s t ∧
        (∀ timeout : Nat, timeout = s.lyu.committed.idleTimeout.get p →
          t.mnu.panels = s.mnu.panels.set p { menuPanel p s with
            autoPop := .none
            idle := if (menuPanel p s).stack ≠ [] ∧ 1 ≤ timeout ∧ timeout ≤ 60
              then .running (s.lyu.partTime + BitVec.ofNat 32 (1000 * timeout)) else .stopped }) ∧
        t.mnu.request = s.mnu.request ∧ t.mnu.service = s.mnu.service ∧ t.mnu.cameraLost = s.mnu.cameraLost ∧
        t.stw.dirty = s.stw.dirty ∧ ChangesOnly [.fmc, .rqe, .stw, .mnu] s t)

/-- VIEW_CAMERA, GUIDE_BANK and CHIME_STOP at their dispatch (R109, R111, R113, R114, R133, R150): ON from NORMAL engages the view with cause
HOST and from HOLD re-engages it, and in ENGAGED changes host_request alone, as OFF does in NORMAL and while REV is qualified ASSERTED; any
other OFF ends the view at once. S3 is marked dirty whenever host_request or the view changes, and nothing is marked where neither does. A
bank neither live nor staged becomes staged, with WDC told; CHIME_STOP(all) empties the queue and stops the voice at the next boundary;
CHIME_STOP(clip) takes the clip out of the queue and stops a voice that holds it. Arguments out of range are answered BAD_ARGUMENT with
nothing changed. -/
def Obligations.ViewBankAndStopRequestsAct : Prop :=
  (∀ (s : State) (index : Count) (e : List Byte), EntryFetched s index e → get16 e 0 = 11 →
    (1 < get8 e 4 →
      ∃ t : State, exec .entryFetchComplete s = .next t ∧ Answered .badArgument index s t ∧ ChangesOnly [.fmc, .rqe, .stw] s t) ∧
    (get8 e 4 = 1 → s.rvc.view = .normal →
      ∃ t : State, exec .entryFetchComplete s = .next t ∧ Answered .ok index s t ∧
        t.rvc.view = .engaged ∧ t.rvc.engageCause = .host ∧ t.rvc.hostRequest = true ∧ t.rvc.health = .awaiting ∧
        t.rvc.firstFrameDeadline = .running (s.lyu.partTime + 250) ∧ t.ccp.capturing = true ∧
        t.flt.causes.getLsbD Cause.reverseChanged.bit = true ∧ t.stw.dirty.has .s3 = true ∧ t.lyu = s.lyu ∧ MemoryKept s t) ∧
    (get8 e 4 = 1 → s.rvc.view = .engaged →
      ∃ t : State, exec .entryFetchComplete s = .next t ∧ Answered .ok index s t ∧
        t.rvc = { s.rvc with hostRequest := true } ∧ (s.rvc.hostRequest = false → t.stw.dirty.has .s3 = true) ∧
        (s.rvc.hostRequest = true → t.stw.dirty = s.stw.dirty) ∧ ChangesOnly [.fmc, .rqe, .stw, .rvc] s t) ∧
    (get8 e 4 = 1 → s.rvc.view = .hold →
      ∃ t : State, exec .entryFetchComplete s = .next t ∧ Answered .ok index s t ∧
        t.rvc = { s.rvc with hostRequest := true, view := .engaged, engageCause := .host, holdTimer := .stopped } ∧
        (s.pdu.held = false → s.pdu.active = false → s.lyu.source = .host → t.pdu.active = true ∧ t.pdu.distance = none) ∧
        t.stw.dirty.has .s3 = true ∧ ChangesOnly [.fmc, .rqe, .stw, .rvc, .pdu] s t) ∧
    (get8 e 4 = 0 → s.rvc.view = .normal ∨ (s.rvc.view = .engaged ∧ s.rvc.revQualified = .asserted) →
      ∃ t : State, exec .entryFetchComplete s = .next t ∧ Answered .ok index s t ∧
        t.rvc = { s.rvc with hostRequest := false } ∧ (s.rvc.hostRequest = true → t.stw.dirty.has .s3 = true) ∧
        (s.rvc.hostRequest = false → t.stw.dirty = s.stw.dirty) ∧ ChangesOnly [.fmc, .rqe, .stw, .rvc] s t) ∧
    (get8 e 4 = 0 → s.rvc.view ≠ .normal → s.rvc.revQualified = .deasserted →
      ∃ t : State, exec .entryFetchComplete s = .next t ∧ Answered .ok index s t ∧
        ViewEnded { s.rvc with hostRequest := false } s t ∧ t.stw.dirty.has .s3 = true)) ∧
  (∀ (s : State) (index : Count) (e : List Byte), EntryFetched s index e → s.lyu.source = .host → get16 e 0 = 12 →
    (1 < get8 e 4 →
      ∃ t : State, exec .entryFetchComplete s = .next t ∧ Answered .badArgument index s t ∧ ChangesOnly [.fmc, .rqe, .stw] s t) ∧
    (∀ b : Bank, bankOfCode (get8 e 4) = some b →
      ∃ t : State, exec .entryFetchComplete s = .next t ∧ Answered .ok index s t ∧
        (s.gdu.liveBank = some b ∨ s.gdu.stagedBank = some b → ChangesOnly [.fmc, .rqe, .stw] s t) ∧
        (s.gdu.liveBank ≠ some b → s.gdu.stagedBank ≠ some b →
          t.gdu = { s.gdu with stagedBank := some b } ∧
          t.wdc = { s.wdc with liveBank := s.gdu.liveBank, stagedBank := some b } ∧
          t.stw.dirty.has .s3 = true ∧ ChangesOnly [.fmc, .rqe, .stw, .gdu, .wdc] s t))) ∧
  (∀ (s : State) (index : Count) (e : List Byte), EntryFetched s index e → s.lyu.source = .host → get16 e 0 = 14 → get8 e 4 = 0xFF →
    ∃ t : State, exec .entryFetchComplete s = .next t ∧ Answered .ok index s t ∧
      t.chu.queue = [] ∧ t.chu.tone = s.chu.tone ∧
      (s.chu.voice.state ≠ .idle → t.chu.voice = { s.chu.voice with pendingStop := true }) ∧
      (s.chu.voice.state = .idle → t.chu.voice = s.chu.voice) ∧
      t.stw.dirty.has .s5 = true ∧ ChangesOnly [.fmc, .rqe, .stw, .chu] s t) ∧
  (∀ (s : State) (index : Count) (e : List Byte), EntryFetched s index e → s.lyu.source = .host → get16 e 0 = 14 →
    (get8 e 4 ≤ 31 →
      ∃ t : State, exec .entryFetchComplete s = .next t ∧ Answered .ok index s t ∧
        t.chu.queue = s.chu.queue.filter (fun q => !(q.clip == get8 e 4)) ∧ t.chu.tone = s.chu.tone ∧ t.chu.dropped = s.chu.dropped ∧
        (s.chu.voice.state ≠ .idle → s.chu.voice.chime.clip = get8 e 4 → t.chu.voice = { s.chu.voice with pendingStop := true }) ∧
        (s.chu.voice.state = .idle ∨ s.chu.voice.chime.clip ≠ get8 e 4 → t.chu.voice = s.chu.voice) ∧
        t.stw.dirty.has .s5 = true ∧ ChangesOnly [.fmc, .rqe, .stw, .chu] s t) ∧
    (31 < get8 e 4 → get8 e 4 ≠ 0xFF →
      ∃ t : State, exec .entryFetchComplete s = .next t ∧ Answered .badArgument index s t ∧ ChangesOnly [.fmc, .rqe, .stw] s t))

/-- CHIME_PLAY at its dispatch (R147, R148, R151), by the first case that applies: an argument out of range is answered BAD_ARGUMENT; a clip
on the voice merges into the voice; a queued clip merges into its entry, which keeps its origin and arrival and moves to its place; with
room the chime is placed with a fresh arrival; with 8 entries it evicts the last one, if that has a lower priority, and one is counted
dropped; else the answer is QUEUE_FULL and nothing changes. An IDLE voice takes a chime that finds the queue empty and claims its directory
entry. That arrivals are stamps of one count, renumbered by rank at its end, is the model's choice (log 25). -/
def Obligations.ChimePlayIsInserted : Prop :=
  ∀ (s : State) (index : Count) (e : List Byte) (arrival : Nat),
    EntryFetched s index e → s.lyu.source = .host → get16 e 0 = 13 → ChimesSafe s →
    arrival = (if 65535 < s.chu.arrivals then s.chu.stamps.length else s.chu.arrivals) →
    (31 < get8 e 4 ∨ 7 < get8 e 5 ∨ 15 < get8 e 6 →
      ∃ t : State, exec .entryFetchComplete s = .next t ∧ Answered .badArgument index s t ∧ ChangesOnly [.fmc, .rqe, .stw] s t) ∧
    (get8 e 4 ≤ 31 → get8 e 5 ≤ 7 → get8 e 6 ≤ 15 →
      ∃ t : State, exec .entryFetchComplete s = .next t ∧ ChangesOnly [.fmc, .rqe, .stw, .chu] s t ∧
        (s.chu.voice.state ≠ .idle → s.chu.voice.chime.clip = get8 e 4 →
          Answered .ok index s t ∧ t.chu.queue = s.chu.queue ∧ t.chu.dropped = s.chu.dropped ∧
          t.chu.voice = { s.chu.voice with
            chime := { s.chu.voice.chime with
              priority := max s.chu.voice.chime.priority (get8 e 5), plays := get8 e 6
              requeue := s.chu.voice.chime.requeue || (get8 e 8).testBit 0 }
            nextRoute := s.chu.voice.nextRoute.join (routeOfByte (get8 e 7))
            pendingStop := false }) ∧
        (s.chu.takesNone → (s.chu.voice.state ≠ .idle → s.chu.voice.chime.clip ≠ get8 e 4) →
          (∀ q ∈ s.chu.queue, q.clip = get8 e 4 →
            Answered .ok index s t ∧ t.chu.queue.length = s.chu.queue.length ∧ t.chu.dropped = s.chu.dropped ∧
            t.chu.voice = s.chu.voice ∧ t.chu.queue.Pairwise (fun a b => a.before b = true) ∧
            { q with
              priority := max q.priority (get8 e 5), plays := get8 e 6, route := q.route.join (routeOfByte (get8 e 7))
              requeue := q.requeue || (get8 e 8).testBit 0 } ∈ t.chu.queue ∧
            (∀ a : Chime, a.clip ≠ get8 e 4 → (a ∈ t.chu.queue ↔ a ∈ s.chu.queue))) ∧
          ((∀ q ∈ s.chu.queue, q.clip ≠ get8 e 4) → s.chu.queue.length < 8 →
            Answered .ok index s t ∧ t.chu.queue.length = s.chu.queue.length + 1 ∧ t.chu.dropped = s.chu.dropped ∧
            t.chu.queue.Pairwise (fun a b => a.before b = true) ∧ askedChime e arrival ∈ t.chu.queue ∧
            t.chu.arrivals = arrival + 1 ∧
            (s.chu.arrivals ≤ 65535 → t.chu.voice = s.chu.voice ∧ ∀ q ∈ s.chu.queue, q ∈ t.chu.queue)) ∧
          (∀ (kept : List Chime) (last : Chime), (∀ q ∈ s.chu.queue, q.clip ≠ get8 e 4) → s.chu.queue.length = 8 →
            s.chu.queue = kept ++ [last] → last.priority < get8 e 5 →
            Answered .ok index s t ∧ t.chu.queue.length = 8 ∧ t.chu.dropped = s.chu.dropped + 1 ∧
            t.chu.queue.Pairwise (fun a b => a.before b = true) ∧ (∀ q ∈ t.chu.queue, q.clip ≠ last.clip) ∧
            (s.chu.arrivals ≤ 65535 → t.chu.voice = s.chu.voice ∧ askedChime e arrival ∈ t.chu.queue ∧ ∀ q ∈ kept, q ∈ t.chu.queue)) ∧
          ((∀ q ∈ s.chu.queue, q.clip ≠ get8 e 4 ∧ get8 e 5 ≤ q.priority) → s.chu.queue.length = 8 →
            Answered .queueFull index s t ∧ t.chu.queue = s.chu.queue ∧ t.chu.dropped = s.chu.dropped ∧ t.chu.voice = s.chu.voice)) ∧
        (s.chu.voice.state = .idle → s.chu.drain = .none → s.chu.held = false → s.chu.queue = [] →
          Answered .ok index s t ∧ t.chu.queue = [] ∧ t.chu.dropped = s.chu.dropped ∧
          t.chu.voice.state = .starting ∧ t.chu.voice.chime = askedChime e arrival ∧ t.chu.voice.entry = none ∧
          t.chu.voice.current = none ∧ t.chu.voice.next = none ∧ t.chu.voice.pendingStop = false ∧
          t.chu.voice.nextRoute = ⟨false, false⟩ ∧
          (s.chu.fetch = none → s.chu.claim = .idle → t.chu.fetch = some ⟨.directory, false, 0, []⟩ ∧
            t.chu.claim = .waiting ⟨rowBase s.lyu.committed.map.chimeStore + 16 * get8 e 4, 1⟩)))

/-- RESULT_WRITE_COMPLETE (R47): consumer advances by one, and the next entry starts if producer differs and RQE is neither draining nor held;
in a drain RQE reports its boundary instead and starts no entry (R48), which ends the drain only when it is the last.
STATUS_SECTION_WRITE_COMPLETE (R36, R37): STW raises its claim for a result in hand, else for the lowest dirty section. -/
def Obligations.StatusWriterCompletions : Prop :=
  (∀ (s : State) (beats : List ReadBeat) (r : ResultWrite) (index : Count),
    s.fmc.busy = some ⟨.resultWrite, beats⟩ → s.stw.result = some r → s.rqe.entry = some ⟨index, .writingResult⟩ →
    NotLast s [s.ccp.drain, s.chu.drain] →
    ∃ t : State, exec .resultWriteComplete s = .next t ∧ GrantEnded s t ∧
      t.rqe.consumer = s.rqe.consumer + 1 ∧ t.rqe.producer = s.rqe.producer ∧ t.stw.result = none ∧ t.stw.dirty.has .s0 = true ∧
      (s.rqe.producer = s.rqe.consumer + 1 → t.rqe.entry = none) ∧
      (s.rqe.producer ≠ s.rqe.consumer + 1 → s.rqe.drain = .none → s.rqe.held = false →
        t.rqe.entry = some ⟨s.rqe.consumer + 1, .fetching⟩ ∧
        (s.rqe.claim = .idle → t.rqe.claim = .waiting ⟨0x1FFFF300 + 32 * ((s.rqe.consumer + 1).toNat % 32), 2⟩)) ∧
      (s.rqe.drain ≠ .none → t.rqe.entry = none ∧ t.rqe.drain = .drained) ∧
      ChangesOnly [.fmc, .rqe, .stw] s t) ∧
  (∀ (s : State) (beats : List ReadBeat), s.fmc.busy = some ⟨.statusSection, beats⟩ →
    ∃ t : State, exec .statusSectionWriteComplete s = .next t ∧ GrantEnded s t ∧
      t.stw.dirty = s.stw.dirty ∧ t.stw.result = s.stw.result ∧
      (s.stw.result ≠ none → t.stw.claim = .resultWaiting) ∧
      (∀ k : StatusSection, s.stw.result = none → s.stw.dirty.lowest = some k → t.stw.claim = .sectionWaiting k) ∧
      (s.stw.result = none → s.stw.dirty.lowest = none → t.stw.claim = .idle) ∧
      ChangesOnly [.fmc, .stw] s t)

/-! ## Layouts -/

/-- LAYOUT_COMMIT at its dispatch (R25): BUSY while a film channel is not IDLE, else the first half of the record is claimed.
LAYOUT_FETCH_GRANT_COMPLETE (R25, R27): the first half leads to the claim of the second, the second to validation, and a poisoned half ends
the fetch with MEM_ERROR, check 0, the staged layout discarded and the committed layout as it stands. -/
def Obligations.LayoutRecordIsFetched : Prop :=
  (∀ (s : State) (index : Count) (e : List Byte), EntryFetched s index e → get16 e 0 = 1 →
    ∃ t : State, exec .entryFetchComplete s = .next t ∧ GrantEnded s t ∧ ChangesOnly [.fmc, .rqe, .stw, .lyu] s t ∧
      (channelsIdle s = false → Answered .busy index s t ∧ t.lyu = s.lyu) ∧
      (channelsIdle s = true → WithOwner index s t ∧ t.lyu.commit = .firstHalf ∧ t.lyu.committed = s.lyu.committed ∧
        (s.lyu.claim = .idle → t.lyu.claim = .waiting ⟨0x1FFFF000, 16⟩))) ∧
  (∀ (s : State) (beats : List ReadBeat), s.fmc.busy = some ⟨.layoutFetch, beats⟩ → s.lyu.claim = .granted true →
    (anyPoison beats = false → s.lyu.commit = .firstHalf →
      exec .layoutFetchGrantComplete s = .next { s with
        fmc := { s.fmc with busy := none }
        lyu := { s.lyu with commit := .secondHalf (beatData beats), claim := .waiting ⟨0x1FFFF100, 16⟩ } }) ∧
    (∀ first : List Byte, anyPoison beats = false → s.lyu.commit = .secondHalf first →
      exec .layoutFetchGrantComplete s = .next { s with
        fmc := { s.fmc with busy := none }
        lyu := { s.lyu with commit := .validating (first ++ beatData beats), claim := .idle } }) ∧
    (∀ (index : Count) (phase : EntryPhase), anyPoison beats = true → s.lyu.commit = .firstHalf ∨ (∃ b, s.lyu.commit = .secondHalf b) →
      s.rqe.entry = some ⟨index, phase⟩ →
      ∃ t : State, exec .layoutFetchGrantComplete s = .next t ∧ Answered .memError index s t ∧ GrantEnded s t ∧
        t.lyu = { s.lyu.discardStaged with claim := .idle, commit := .none, lastCommitCheck := some 0 } ∧
        t.flt = (report ⟨.layoutInvalid, .layout, .layoutCheck 0 none, none⟩ s).flt ∧
        t.stw.dirty.has .s0 = true ∧ ReportsBeside [.fmc, .lyu, .rqe] s t))

/-- VALIDATION_END (R26 to R29): a record is valid exactly when it passes the sixteen checks of R26. One that fails is answered
BAD_ARGUMENT with the failing check, and the committed layout stands; a valid one is applied while the view is NORMAL, and staged while it is
not. -/
def Obligations.ValidationEndDecides : Prop :=
  (∀ record : List Byte, validateLayout record = none ↔ ValidLayout record) ∧
  ∀ (s : State) (record : List Byte) (index : Count) (phase : EntryPhase),
    s.lyu.commit = .validating record → s.rqe.entry = some ⟨index, phase⟩ →
    (∀ f : CheckFailure, validateLayout record = some f →
      ∃ t : State, exec .validationEnd s = .next t ∧ Answered .badArgument index s t ∧
        t.lyu = { s.lyu.discardStaged with commit := .none, lastCommitCheck := some f.check } ∧
        t.flt = (report ⟨.layoutInvalid, .layout, .layoutCheck f.check f.row, none⟩ s).flt ∧
        t.stw.dirty.has .s0 = true ∧ ReportsBeside [.lyu, .rqe] s t) ∧
    (validateLayout record = none → s.rvc.view = .normal →
      ∃ t : State, exec .validationEnd s = .next t ∧ Answered .ok index s t ∧
        t.lyu.committed = parseLayout record ∧ t.lyu.source = .host ∧ t.lyu.layoutState = .configured ∧ t.lyu.staged = none ∧
        t.lyu.lastCommitCheck = none ∧ t.lyu.commit = .none ∧
        t.wdc = ⟨(parseLayout record).map, none, none⟩ ∧
        t.mnu.panels = ⟨MenuPanel.reset, MenuPanel.reset, MenuPanel.reset⟩ ∧
        t.gdu.liveBank = none ∧ t.gdu.stagedBank = none ∧ t.gdu.steering = s.gdu.steering ∧
        t.chu.queue = [] ∧ t.chu.tone.sounding = false ∧
        (s.chu.voice.state ≠ .idle → t.chu.voice.pendingStop = true) ∧
        (∀ x : Channel, (t.aop.channels.get x).producer = 0 ∧ (t.aop.channels.get x).consumer = 0) ∧
        t.stw.dirty.has .s0 = true ∧
        ChangesOnly [.lyu, .rqe, .stw, .wdc, .mnu, .gdu, .chu, .aop] s t) ∧
    (validateLayout record = none → s.rvc.view ≠ .normal →
      ∃ t : State, exec .validationEnd s = .next t ∧ Answered .deferred index s t ∧
        t.lyu = { s.lyu with staged := some (parseLayout record), layoutState := .staged, commit := .none, lastCommitCheck := none } ∧
        t.stw.dirty.has .s0 = true ∧ ChangesOnly [.lyu, .rqe, .stw] s t)

/-! ## Warm reset -/

/-- WRST_ASSERT (R38, R39): under IMMEDIATE, and under BOUNDARY with nothing in hand, the reset is applied in the event and the phase is
HELD; under BOUNDARY with something in hand the phase is DRAINING with a limit of 100 ms. DRAIN_LIMIT_EXPIRY applies the reset; that an expiry
may be taken later than the time it is due is the model's choice (log 2). The last of the three boundaries applies it in its event: RQE's at
the result write's completion (R48); CCP's when its receiving frame ends good or damaged, its closing frame's last line is written, or the
view enters NORMAL (R127); CHU's at the block boundary (R163). That the event's own work, a report or a layout applied, is done before is the
model's choice (log 13). -/
def Obligations.WarmResetIsApplied : Prop :=
  (∀ s : State, s.pins.wrst = .low → s.lyu.partState = .running → s.lyu.phase = .none →
    (s.lyu.committed.warmResetMode = .immediate ∨ NothingInHand s →
      ∃ t : State, exec .wrstAssert s = .next t ∧ WarmReset s t ∧ Held t ∧ t.lyu.resetCount = s.lyu.resetCount ∧
        t.pins = { s.pins with wrst := .high } ∧ t.pending = s.pending) ∧
    (s.lyu.committed.warmResetMode = .boundary → ¬ NothingInHand s →
      ∃ t : State, exec .wrstAssert s = .next t ∧
        t.lyu = { s.lyu with phase := .draining, drainLimit := .running (s.lyu.partTime + 100) } ∧
        t.pins = { s.pins with wrst := .high } ∧ t.rqe.entry = s.rqe.entry ∧ t.ccp.receiving = s.ccp.receiving ∧
        t.chu.voice = s.chu.voice ∧ t.stw.dirty.has .s0 = true ∧ ChangesOnly [.lyu, .pins, .rqe, .ccp, .chu, .stw] s t)) ∧
  (∀ (s : State) (expiry : Millis), s.lyu.drainLimit = .running expiry → reached s.lyu.partTime expiry = true → s.pins.wrst = .high →
    ∃ t : State, exec .drainLimitExpiry s = .next t ∧ WarmReset s t ∧ Held t ∧ t.lyu.resetCount = s.lyu.resetCount) ∧
  (∀ (s : State) (beats : List ReadBeat) (r : ResultWrite) (index : Count), Drains s .draining .drained .drained →
    s.fmc.busy = some ⟨.resultWrite, beats⟩ → s.stw.result = some r → s.rqe.entry = some ⟨index, .writingResult⟩ →
    ∃ t : State, exec .resultWriteComplete s = .next t ∧ ResetIn { s with fmc := { s.fmc with busy := none } } t) ∧
  (∀ (s : State) (f : ReceivingFrame), Drains s .drained .draining .drained → s.ccp.capturing = true → s.ccp.held = false →
    s.ccp.receiving = some f →
    (f.nextLine = 720 → (∀ l ∈ s.ccp.buffer, l.slot ≠ f.slot) → ∃ t : State, exec .frameEnd s = .next t ∧ ResetIn s t) ∧
    (f.nextLine < 720 → s.ccp.closing = none →
      ∃ t : State, exec .frameEnd s = .next t ∧
        ResetIn (report ⟨.cameraLineError, .camera, .missingLines (720 - f.nextLine) f.frameNo, none⟩ s) t) ∧
    (∀ no : Count, s.ccp.closing = none →
      ∃ t : State, exec (.frameStart no) s = .next t ∧
        ResetIn (report ⟨.cameraLineError, .camera, .startBeforeEnd f.frameNo, none⟩ s) t) ∧
    (∀ (lineNo : Count) (data : List Byte) (check : BitVec 32), lineNo.toNat ≠ f.nextLine → s.ccp.closing = none →
      ∃ t : State, exec (.line lineNo data check) s = .next t ∧
        ResetIn (report ⟨.cameraLineError, .camera, .outOfOrder f.nextLine lineNo f.frameNo, none⟩ s) t)) ∧
  (∀ (s : State) (beats : List ReadBeat) (line : CameraLine) (rest : List CameraLine) (f : ClosingFrame),
    Drains s .drained .draining .drained → s.fmc.busy = some ⟨.cameraWrite, beats⟩ → s.ccp.claim = .granted true →
    s.ccp.buffer = line :: rest → 160 ≤ line.written + line.request.beats → s.ccp.receiving = none → s.ccp.closing = some f →
    (∀ l ∈ rest, l.slot ≠ f.slot) →
    ∃ t : State, exec .cameraLineWriteComplete s = .next t ∧ ResetIn { s with fmc := { s.fmc with busy := none } } t) ∧
  (∀ s : State, Drains s .drained .drained .draining → s.aop.held = false →
    ∃ u t : State, exec .blockBoundary s = .next t ∧ ReportsBeside [.aop] s u ∧ u.chu.voice.state = .idle ∧ ResetIn u t) ∧
  (∀ (s : State) (expiry : Millis), Drains s .drained .draining .drained → s.rvc.view = .hold → s.rvc.holdTimer = .running expiry →
    reached s.lyu.partTime expiry = true →
    ∃ u t : State, exec .holdTimerExpiry s = .next t ∧ ViewEnded s.rvc s u ∧ ResetIn u t ∧ t.hlp = s.hlp ∧ t.fmc = s.fmc) ∧
  (∀ (s : State) (expiry : Millis), Drains s .drained .draining .drained → s.rvc.acting = true →
    s.rvc.revPending = some ⟨.deasserted, expiry⟩ → reached s.lyu.partTime expiry = true → s.rvc.view = .engaged →
    s.rvc.hostRequest = false → s.lyu.committed.reverseHold = 0 →
    ∃ u t : State, exec .revPendingExpiry s = .next t ∧ ViewEnded { s.rvc with revQualified := .deasserted, revPending := none } s u ∧
      ResetIn u t ∧ t.hlp = s.hlp ∧ t.fmc = s.fmc)

/-- WRST_DEASSERT (R40): with the phase HELD the blocks are released, reset_count rises by one, RESET_DONE is raised and S0 is dirty; while
DRAINING the drain goes on, and a reset applied with WRST low is released in the same event. That an expiry may be taken later than the time
it is due is the model's choice (log 2). -/
def Obligations.WarmResetIsReleased : Prop :=
  (∀ s : State, s.pins.wrst = .high → s.lyu.phase = .held →
    ∃ t : State, exec .wrstDeassert s = .next t ∧ Released t ∧
      t.lyu = { s.lyu with phase := .none, resetCount := s.lyu.resetCount + 1 } ∧ t.stw.dirty.has .s0 = true ∧
      t.rvc.revQualified = .deasserted ∧
      (s.pins.rev = .high → t.rvc.revPending = some ⟨.asserted, s.lyu.partTime + 20⟩) ∧
      ChangesOnly [.pins, .lyu, .stw, .rqe, .den, .mnu, .rvc, .ccp, .gdu, .pdu, .chu, .aop, .flt] s t) ∧
  (∀ s : State, s.pins.wrst = .high → s.lyu.phase = .draining →
    exec .wrstDeassert s = .next { s with pins := { s.pins with wrst := .low } }) ∧
  (∀ (s : State) (expiry : Millis), s.lyu.drainLimit = .running expiry → reached s.lyu.partTime expiry = true → s.pins.wrst = .low →
    ∃ t : State, exec .drainLimitExpiry s = .next t ∧ WarmReset s t ∧ Released t ∧ t.lyu.resetCount = s.lyu.resetCount + 1)

/-! ## Display -/

/-- REFRESH_START of a rear panel when one comes (R52 to R55, R60, R65): a held engine's plan is its background alone, a DEGRADED part's has
the service page as notice and neither film nor menu; else the base is the channel's SHOWN slot, and a VALID top cache gives the menu page
with its elapsed readout (R102, R104). The hold record follows the base. That the engine reads DEGRADED before FSQ takes the event is the
model's choice (log 13): it shows when a FILM_STARVED report of the same event sets DEGRADED. -/
def Obligations.RearRefreshBuildsItsPlan : Prop :=
  ∀ (s : State) (rear : RearPanel), (engine rear.panel s).refreshComes rear.panel = true →
    ∃ t : State, exec (.refreshStart rear.panel) s = .next t ∧
      (engine rear.panel t).timing = .blanking ∧ (engine rear.panel t).underflow = false ∧
      (engine rear.panel t).plan.fill = s.lyu.committed.background.get rear.panel ∧
      (engine rear.panel t).plan.guide = none ∧ (engine rear.panel t).plan.distance = none ∧
      ((engine rear.panel s).held = true → rear.hold t = none ∧
        (engine rear.panel t).plan = Plan.fillOnly (s.lyu.committed.background.get rear.panel)) ∧
      ((engine rear.panel s).held = false → s.flt.degraded = true → rear.hold t = none ∧
        (engine rear.panel t).plan.base = .none ∧ (engine rear.panel t).plan.menu = none ∧ (engine rear.panel t).plan.elapsed = none ∧
        (engine rear.panel t).plan.notice = noticeAnswer s.mnu.service s) ∧
      ((engine rear.panel s).held = false → s.flt.degraded = false → (engine rear.panel t).plan.notice = none ∧
        rear.hold t = (t.fsq.get (rear.channel s)).shown.map (fun i => ⟨rear.channel s, i⟩) ∧
        (∀ i : Fin 3, (t.fsq.get (rear.channel s)).shown = some i → (engine rear.panel t).plan.base =
          .film (rear.channel s) i (rowBase (filmRow (rear.channel s) s.lyu.committed.map) + 2052096 * i.val)) ∧
        ((t.fsq.get (rear.channel s)).shown = none → (engine rear.panel t).plan.base = .none) ∧
        ShowsMenu (fun _ => True) (menuPanel rear.panel s).top s.lyu.committed t.fsq (engine rear.panel t).plan) ∧
      (∀ q : Panel, q ≠ rear.panel → engine q t = engine q s) ∧
      ChangesOnly [.den, .fsq, .stw, .flt, .chu, .aop] s t

/-- A presentation step in PLAYING (R72 to R74): hold_count falls by one; when it runs out the queue's head is SHOWN for its delay, or with
an empty queue the frame is repeated for one refresh, or the film ends. In PRIMING (R75) the queue's head is SHOWN and the channel becomes
PLAYING, or an empty queue changes nothing. PAUSED, ENDED and IDLE channels keep everything (R76). REFRESH_START of a rear panel takes this
step on the channel it presents (R71), channel A at RL and channel B at RR, or none at RR while rr_source is A: the film's end raises its
cause, the eighth repeat in a run is reported FILM_STARVED, and no other channel is presented. -/
def Obligations.PresentationStepShowsTheQueue : Prop :=
  (∀ r : FilmChannel, r.safe → r.state = .playing →
    (1 < r.holdCount → r.presentationStep = ({ r with holdCount := r.holdCount - 1 }, .quietly)) ∧
    (∀ (head : Fin 3) (rest : List (Fin 3)) (f : Frame), r.holdCount ≤ 1 → r.queue = head :: rest →
      (r.slots.get head).frame = some f →
      ∃ q : FilmChannel, r.presentationStep = (q, .quietly) ∧ q.state = .playing ∧ q.queue = rest ∧ q.shown = some head ∧
        q.holdCount = f.presentDelay ∧ q.starveRun = 0 ∧ q.presented = r.presented + 1 ∧ q.repeated = r.repeated ∧
        q.elapsed = (if f.secondMark then r.elapsed.next else r.elapsed) ∧
        (∀ i : Fin 3, r.shown = some i → (q.slots.get i).state = (if (r.slots.get i).scanHolds = 0 then .free else .retired))) ∧
    (∀ f : Frame, r.holdCount ≤ 1 → r.queue = [] → r.shownFrame = some f → f.endOfFilm = true →
      r.presentationStep = ({ r with state := .ended, holdCount := 0 }, .filmEnded)) ∧
    (∀ f : Frame, r.holdCount ≤ 1 → r.queue = [] → r.shownFrame = some f → f.endOfFilm = false →
      r.presentationStep =
        ({ r with holdCount := 1, repeated := r.repeated + 1, starveRun := min 255 (r.starveRun + 1) },
          if r.starveRun = 7 then .starved f.frameSeq else .quietly))) ∧
  (∀ r : FilmChannel, r.state = .priming → r.queue = [] → r.presentationStep = (r, .quietly)) ∧
  (∀ (r : FilmChannel) (head : Fin 3) (rest : List (Fin 3)) (f : Frame), r.state = .priming → r.shown = none → r.queue = head :: rest →
    (r.slots.get head).frame = some f →
    r.presentationStep = ({ r with
      state := .playing, queue := rest, slots := r.slots.set head { r.slots.get head with state := .shown }
      holdCount := f.presentDelay, starveRun := 0, presented := r.presented + 1
      elapsed := if f.secondMark then r.elapsed.next else r.elapsed
      wrap := if f.secondMark then r.wrap || r.elapsed.last else r.wrap }, .quietly)) ∧
  (∀ r : FilmChannel, r.state = .paused ∨ r.state = .ended ∨ r.state = .idle → r.presentationStep = (r, .quietly)) ∧
  (∀ (s : State) (rear : RearPanel) (presented : Option Channel), (engine rear.panel s).refreshComes rear.panel = true →
    presented = (match rear with
      | .left => some Channel.a
      | .right => if s.lyu.committed.rrSource = .b then some .b else none) →
    ∃ t : State, exec (.refreshStart rear.panel) s = .next t ∧
      (∀ (x : Channel) (q : FilmChannel) (handed : Presented), presented = some x → (s.fsq.get x).presentationStep = (q, handed) →
        (t.fsq.get x).queue = q.queue ∧ (t.fsq.get x).shown = q.shown ∧ (t.fsq.get x).holdCount = q.holdCount ∧
        (t.fsq.get x).starveRun = q.starveRun ∧ (t.fsq.get x).presented = q.presented ∧ (t.fsq.get x).repeated = q.repeated ∧
        (t.fsq.get x).dropped = q.dropped ∧ (t.fsq.get x).elapsed = q.elapsed ∧ (t.fsq.get x).wrap = q.wrap ∧
        (handed = .quietly → (t.fsq.get x).state = q.state ∧ t.flt = s.flt) ∧
        (handed = .filmEnded → (t.fsq.get x).state = .ended ∧ t.flt = { s.flt with
          causes := causeJoin s.flt.causes (match x with | .a => .filmEndedA | .b => .filmEndedB) }) ∧
        (∀ seq : BitVec 32, handed = .starved seq →
          t.flt = (report ⟨.filmStarved, channelSource x, .starvedFrame seq, none⟩ s).flt ∧
          (t.flt.degraded = s.flt.degraded → (t.fsq.get x).state = q.state))) ∧
      (∀ y : Channel, presented ≠ some y →
        (t.fsq.get y).queue = (s.fsq.get y).queue ∧ (t.fsq.get y).shown = (s.fsq.get y).shown ∧
        (t.fsq.get y).holdCount = (s.fsq.get y).holdCount ∧ (t.fsq.get y).presented = (s.fsq.get y).presented ∧
        (t.fsq.get y).elapsed = (s.fsq.get y).elapsed) ∧
      (presented = none → t.flt = s.flt))

/-- REFRESH_START of C, when one comes (R52, R56 to R60, R134). By an engine that is not held: the current UI base becomes the pending
one, a staged guide bank becomes live with both caches empty, and the plan takes its row by the view and the camera health. Only the GOOD row
carries a camera base, the latest slot, which is then pinned, with the guide lists that GDU holds (R59, R138) and, in ENGAGED, the three glyphs
of the distance readout (R105); without a latest slot it is the AWAITING row. In every row the menu page of a VALID top cache is shown with
its elapsed readout, in the reverse view only with REVERSE_OK (R102, R104). A held engine builds a plan of the background alone, and the pin is
released (R65). That the slot released then keeps its frame_no is the model's choice (log 39). -/
def Obligations.CentreRefreshTakesItsRow : Prop :=
  (∀ s : State, (engine .c s).refreshComes .c = true → (engine .c s).held = false →
    ∃ t : State, exec (.refreshStart .c) s = .next t ∧ (engine .c t).timing = .blanking ∧ (engine .c t).underflow = false ∧
      t.den.uiCurrent = s.den.uiPending ∧ t.den.uiPending = s.den.uiPending ∧ t.den.pin = t.ccp.pinned ∧
      (∀ b : Bank, s.gdu.stagedBank = some b → t.gdu.liveBank = some b ∧ t.gdu.stagedBank = none ∧ t.wdc.liveBank = some b ∧
        t.gdu.staticCache = .absent ∧ t.gdu.bucketCache = .absent) ∧
      (s.gdu.stagedBank = none → t.gdu = s.gdu) ∧
      ShowsMenu (fun d => s.rvc.view = .normal ∨ d.reverseOk = true) (menuPanel .c s).top s.lyu.committed t.fsq (engine .c t).plan ∧
      (s.rvc.view = .normal → t.ccp.pinned = none ∧ (engine .c t).plan.fill = s.lyu.committed.background.c ∧
        (engine .c t).plan.notice = none ∧ (engine .c t).plan.guide = none ∧ (engine .c t).plan.distance = none ∧
        (s.den.uiPending = none → (engine .c t).plan.base = .none) ∧
        (∀ page : Nat, s.den.uiPending = some page → (engine .c t).plan.base = .ui (4096 * page))) ∧
      (s.rvc.view ≠ .normal → (engine .c t).plan.fill = s.lyu.committed.barColour ∧
        (s.rvc.health ≠ .good → t.ccp.pinned = none ∧ (engine .c t).plan.base = .none ∧ (engine .c t).plan.guide = none ∧
          (engine .c t).plan.distance = none ∧
          (engine .c t).plan.notice = if s.rvc.health = .lost then noticeAnswer s.mnu.cameraLost s else none) ∧
        (s.rvc.health = .good → t.ccp.pinned = s.ccp.latest ∧ (engine .c t).plan.notice = none ∧
          (∀ i : Fin 4, s.ccp.latest = some i →
            (engine .c t).plan.base = .camera i (rowBase s.lyu.committed.map.camera + 1843200 * i.val) ∧
            DrawsLists t.gdu s.lyu.committed.palette (engine .c t).plan.guide ∧
            (s.rvc.view = .hold ∨ s.lyu.source = .default ∨ s.lyu.committed.park = none → (engine .c t).plan.distance = none) ∧
            (∀ (k : ParkSettings) (glyphs : Option (List Nat)), s.rvc.view = .engaged → s.lyu.source = .host →
              s.lyu.committed.park = some k → GlyphsShown s.pdu.readout glyphs →
              (engine .c t).plan.distance = glyphs.map (fun g => ⟨g, k.readoutX, k.readoutY, rowBase s.lyu.committed.map.glyphs⟩))) ∧
          (s.ccp.latest = none →
            (engine .c t).plan.base = .none ∧ (engine .c t).plan.guide = none ∧ (engine .c t).plan.distance = none))) ∧
      ReportsBeside [.den, .ccp, .gdu, .wdc] s t) ∧
  (∀ s : State, (engine .c s).refreshComes .c = true → (engine .c s).held = true →
    ∃ t : State, exec (.refreshStart .c) s = .next t ∧ (engine .c t).timing = .blanking ∧ (engine .c t).held = true ∧
      (engine .c t).plan = Plan.fillOnly s.lyu.committed.background.c ∧ t.den.pin = none ∧ t.ccp = { s.ccp with pinned := none } ∧
      ChangesOnly [.den, .ccp, .stw] s t)

/-- LINE_DUE (R63, R64) and LINE_FETCH_GRANT_COMPLETE (R62): a fetched line is composed and output and its space freed; a poisoned or late
line repeats the one before, or the fill colour at line 0; a late line is reported once in a refresh. A grant's data joins the line being
fetched and the next request is claimed; the last request of a line puts the line into the buffer with its data and its poison. That a line
poisoned by one grant and not wholly fetched at its due is late, and so reported, is the model's choice (log 45). -/
def Obligations.LinesAreFetchedAndOutput : Prop :=
  (∀ (s : State) (p : Panel) (n : Nat), (engine p s).dueLine p = some n →
    (∀ b : BufferedLine, (engine p s).buffer.find? (fun l => l.line == n) = some b →
      ∃ t : State, exec (.lineDue p) s = .next t ∧ (engine p t).timing = .line n ∧
        (b.poison = false → (engine p t).output = (engine p s).plan.compose (panelWidth p) b.line b.data) ∧
        (b.poison = true → n ≠ 0 → (engine p t).output = (engine p s).output) ∧
        (b.poison = true → n = 0 → (engine p t).output = (engine p s).plan.fillLine (panelWidth p)) ∧
        (∃ more : List BufferedLine, (engine p t).buffer = (engine p s).buffer.filter (fun l => !(l.line == n)) ++ more) ∧
        (engine p t).underflow = (engine p s).underflow ∧ (engine p t).plan = (engine p s).plan ∧
        (∀ q : Panel, q ≠ p → engine q t = engine q s) ∧ ChangesOnly [.den] s t) ∧
    ((engine p s).buffer.find? (fun l => l.line == n) = none →
      ∃ t : State, exec (.lineDue p) s = .next t ∧ (engine p t).timing = .line n ∧ (engine p t).underflow = true ∧
        (n ≠ 0 → (engine p t).output = (engine p s).output) ∧
        (n = 0 → (engine p t).output = (engine p s).plan.fillLine (panelWidth p)) ∧
        (engine p t).plan = (engine p s).plan ∧ (∀ q : Panel, q ≠ p → engine q t = engine q s) ∧
        ((engine p s).underflow = true → ChangesOnly [.den] s t) ∧
        ((engine p s).underflow = false → ReportsBeside [.den] s t ∧
          t.flt = (report ⟨.scanUnderflow, panelSource p, .lateLine n, none⟩ s).flt))) ∧
  (∀ (s : State) (p : Panel) (beats : List ReadBeat) (f : FetchingLine) (r : Req) (rest : List Req),
    s.fmc.busy = some ⟨.lineFetch p, beats⟩ → (engine p s).claim = .granted true → (engine p s).fetching = some f → f.todo = r :: rest →
    ∃ t : State, exec .lineFetchGrantComplete s = .next t ∧ GrantEnded s t ∧
      (∀ (q : Req) (more : List Req), rest = q :: more →
        (engine p t).claim = .waiting q ∧ (engine p t).buffer = (engine p s).buffer ∧
        (engine p t).fetching = some { f with data := f.data ++ beatData beats, poison := f.poison || anyPoison beats, todo := rest }) ∧
      (rest = [] →
        (⟨f.line, f.data ++ beatData beats, f.poison || anyPoison beats⟩ : BufferedLine) ∈ (engine p t).buffer) ∧
      (engine p t).plan = (engine p s).plan ∧ (engine p t).output = (engine p s).output ∧
      (∀ q : Panel, q ≠ p → engine q t = engine q s) ∧ ChangesOnly [.fmc, .den] s t)

/-! ## Menus -/

/-- DESCRIPTOR_FETCH_COMPLETE (R90 to R93): a descriptor is valid for a panel exactly when it passes the checks of R91. For the request in
hand (R95 to R97), a valid one pushes, replaces or uncovers the page with a VALID top cache and the answer OK; an invalid one is reported
MENU_PAGE_INVALID and answered PAGE_INVALID, and only a POP still changes the stack. For an auto-pop (R101) the top page is removed, the top
cache takes the judgement and the timer restarts. For a notice (R103) the SERVICE cache, judged against a rear panel, or the CAMERA_LOST
cache, against C, is VALID or INVALID; that check 5 counts for a notice is the model's choice (log 38). A given-up fetch is not judged. Then
MNU starts its next fetch (R93), if work waits: one claim of the two beats at the MENU_STORE base plus 32 × page, for the request in hand,
else a PENDING SERVICE, else a PENDING CAMERA_LOST notice, else the first PENDING auto-pop of RL, RR and C. Only work that waited before is
started, and none that waited is lost. -/
def Obligations.DescriptorIsJudged : Prop :=
  (∀ (beats : List ReadBeat) (p : Panel) (storePages : Nat), descriptorFailure beats p storePages = none ↔
    anyPoison beats = false ∧ ValidDescriptor (beatData beats) (match p with | .rl => 1280 | .rr => 1280 | .c => 1920)
      (match p with | .rl => 800 | .rr => 800 | .c => 720) storePages) ∧
  (∀ (s : State) (beats : List ReadBeat) (page : Nat) (r : MenuRequest) (index : Count) (phase : EntryPhase),
    s.fmc.busy = some ⟨.descriptorFetch, beats⟩ → s.mnu.fetch = some ⟨.request, page, true⟩ → s.mnu.claim = .granted true →
    s.mnu.request = some r → s.rqe.entry = some ⟨index, phase⟩ →
    (descriptorFailure beats r.panel (rowPages s.lyu.committed.map.menuStore) = none →
      ∃ t : State, exec .descriptorFetchComplete s = .next t ∧ Answered .ok index s t ∧ GrantEnded s t ∧ t.mnu.request = none ∧
        (menuPanel r.panel t).top = .valid (parseDescriptor (beatData beats)) ∧
        (menuPanel r.panel t).stack = (match r.kind with
          | .push => (menuPanel r.panel s).stack ++ [r.page]
          | .replace => (menuPanel r.panel s).stack.dropLast ++ [r.page]
          | .pop => (menuPanel r.panel s).stack.dropLast) ∧
        (∀ q : Panel, q ≠ r.panel → (menuPanel q t).stack = (menuPanel q s).stack) ∧
        t.stw.dirty.has .s4 = true ∧ ChangesOnly [.fmc, .mnu, .rqe, .stw] s t) ∧
    (∀ check : Nat, descriptorFailure beats r.panel (rowPages s.lyu.committed.map.menuStore) = some check →
      ∃ t : State, exec .descriptorFetchComplete s = .next t ∧ Answered .pageInvalid index s t ∧ GrantEnded s t ∧
        t.mnu.request = none ∧
        t.flt = (report ⟨.menuPageInvalid, panelSource r.panel, .menuPage page check, none⟩ s).flt ∧
        (r.kind = .pop → (menuPanel r.panel t).stack = (menuPanel r.panel s).stack.dropLast ∧ (menuPanel r.panel t).top = .invalid) ∧
        (r.kind ≠ .pop → (menuPanel r.panel t).stack = (menuPanel r.panel s).stack ∧
          (menuPanel r.panel t).top = (menuPanel r.panel s).top) ∧
        (∀ q : Panel, q ≠ r.panel → (menuPanel q t).stack = (menuPanel q s).stack) ∧
        ReportsBeside [.fmc, .mnu, .rqe] s t)) ∧
  (∀ (s : State) (beats : List ReadBeat) (page : Nat) (p : Panel), s.fmc.busy = some ⟨.descriptorFetch, beats⟩ →
    s.mnu.fetch = some ⟨.autoPop p, page, true⟩ → s.mnu.claim = .granted true →
    ∃ t : State, exec .descriptorFetchComplete s = .next t ∧ GrantEnded s t ∧
      (menuPanel p t).stack = (menuPanel p s).stack.dropLast ∧ (menuPanel p t).autoPop = .none ∧ t.mnu.request = s.mnu.request ∧
      (∀ timeout : Nat, timeout = s.lyu.committed.idleTimeout.get p →
        (menuPanel p t).idle = (if (menuPanel p s).stack.dropLast ≠ [] ∧ 1 ≤ timeout ∧ timeout ≤ 60
          then .running (s.lyu.partTime + BitVec.ofNat 32 (1000 * timeout)) else .stopped)) ∧
      (∀ q : Panel, q ≠ p → (menuPanel q t).stack = (menuPanel q s).stack ∧ (menuPanel q t).top = (menuPanel q s).top) ∧
      (descriptorFailure beats p (rowPages s.lyu.committed.map.menuStore) = none →
        (menuPanel p t).top = .valid (parseDescriptor (beatData beats)) ∧ ChangesOnly [.fmc, .mnu, .stw] s t) ∧
      (∀ check : Nat, descriptorFailure beats p (rowPages s.lyu.committed.map.menuStore) = some check →
        (menuPanel p t).top = .invalid ∧ t.flt = (report ⟨.menuPageInvalid, panelSource p, .menuPage page check, none⟩ s).flt) ∧
      ReportsBeside [.fmc, .mnu] s t) ∧
  (∀ (s : State) (beats : List ReadBeat) (page : Nat) (purpose : MenuPurpose) (p : Panel), s.fmc.busy = some ⟨.descriptorFetch, beats⟩ →
    s.mnu.fetch = some ⟨purpose, page, true⟩ → s.mnu.claim = .granted true →
    (purpose = .service ∧ p = .rl) ∨ (purpose = .cameraLost ∧ p = .c) →
    ∃ t : State, exec .descriptorFetchComplete s = .next t ∧ GrantEnded s t ∧ t.mnu.request = s.mnu.request ∧
      (∀ q : Panel, (menuPanel q t).stack = (menuPanel q s).stack ∧ (menuPanel q t).top = (menuPanel q s).top) ∧
      (∀ verdict : NoticeCache,
        (descriptorFailure beats p (rowPages s.lyu.committed.map.menuStore) = none → verdict = .valid (parseDescriptor (beatData beats))) →
        (descriptorFailure beats p (rowPages s.lyu.committed.map.menuStore) ≠ none → verdict = .invalid) →
        (purpose = .service → t.mnu.service = verdict) ∧ (purpose = .cameraLost → t.mnu.cameraLost = verdict)) ∧
      (descriptorFailure beats p (rowPages s.lyu.committed.map.menuStore) = none → t.flt = s.flt) ∧
      (∀ check : Nat, descriptorFailure beats p (rowPages s.lyu.committed.map.menuStore) = some check →
        t.flt = (report ⟨.menuPageInvalid, panelSource p, .menuPage page check, none⟩ s).flt) ∧
      t.stw.dirty.has .s4 = true ∧ ReportsBeside [.fmc, .mnu] s t) ∧
  (∀ (s : State) (beats : List ReadBeat), s.fmc.busy = some ⟨.descriptorFetch, beats⟩ → s.mnu.held = false →
    ∃ t : State, exec .descriptorFetchComplete s = .next t ∧ GrantEnded s t ∧ MenuFetchRaised t ∧
      (MenuSafe s → (∀ f : MenuFetch, t.mnu.fetch = some f → MenuFetchWaits s f.purpose) ∧
        ∀ purpose : MenuPurpose, (∀ f : MenuFetch, s.mnu.fetch = some f → f.live = true → f.purpose ≠ purpose) → WaitsOn s t purpose) ∧
      ((∀ f : MenuFetch, s.mnu.fetch = some f → f.live = false) →
        t.flt = s.flt ∧ ∀ q : Panel, (menuPanel q t).stack = (menuPanel q s).stack ∧ (menuPanel q t).top = (menuPanel q s).top))

/-! ## Watched beats -/

/-- A WRITE to the anchor page outside the status block (R12): its bytes are stored, and each watched beat written in full is handed to its
owner, in ascending address order, after all of them; a beat written in part or masked out is not handed. A held owner discards its copy. RQE
accepts a producer at most 32 ahead of consumer, and beyond the entry in execution (R42); DEN-C accepts NONE or a plane that ends below the
anchor page (R56); AOP accepts a producer at most the ring's capacity ahead and drops the blocks that have left the ring (R157); each reports
any other value. That the owners act in the grant itself is the model's choice (log 13). -/
def Obligations.WatchedBeatsAreTaken : Prop :=
  (∀ (s : State) (p : HostRequest) (rest : List HostRequest) (b : Beat), AnchorWrite s p rest → p.elements = [⟨fullMask, b⟩] →
    ∃ u t : State, exec .arbiterGrant s = .next t ∧ ChangesOnly [.fmc] s u ∧ t.fmc = u.fmc ∧
      (∀ k : Nat, k < 16 → readByte u.fmc.cells (requestBase p + k) = (beatBytes b).getD k 0) ∧
      (∀ a : Nat, a < requestBase p ∨ requestBase p + 16 ≤ a → readByte u.fmc.cells a = readByte s.fmc.cells a) ∧
      u.fmc.busy = some ⟨.hostTake ⟨p.tag, .ok, []⟩, []⟩ ∧
      (requestBase p = 0x1FFFF200 → t = producerBeat (beatBytes b) u) ∧
      (requestBase p = 0x1FFFF210 → t = steeringBeat (beatBytes b) u) ∧
      (requestBase p = 0x1FFFF220 → t = distanceBeat (beatBytes b) u) ∧
      (requestBase p = 0x1FFFF230 → t = audioProducerBeat .a (beatBytes b) u) ∧
      (requestBase p = 0x1FFFF240 → t = audioProducerBeat .b (beatBytes b) u) ∧
      (requestBase p = 0x1FFFF250 → t = uiBaseBeat (beatBytes b) u) ∧
      (requestBase p < 0x1FFFF200 ∨ 0x1FFFF260 ≤ requestBase p → t = u)) ∧
  (∀ (s : State) (p : HostRequest) (rest : List HostRequest) (b0 b1 b2 b3 b4 b5 : Beat) (more : List DataElement),
    AnchorWrite s p rest → requestBase p = 0x1FFFF200 →
    p.elements = [⟨fullMask, b0⟩, ⟨fullMask, b1⟩, ⟨fullMask, b2⟩, ⟨fullMask, b3⟩, ⟨fullMask, b4⟩, ⟨fullMask, b5⟩] ++ more →
    (∀ e ∈ more, e.mask = fullMask) →
    ∃ u t : State, exec .arbiterGrant s = .next t ∧ ChangesOnly [.fmc] s u ∧ t.fmc = u.fmc ∧
      (∀ (j k : Nat) (e : DataElement), p.elements[j]? = some e → k < 16 →
        readByte u.fmc.cells (0x1FFFF200 + 16 * j + k) = (beatBytes e.data).getD k 0) ∧
      t = uiBaseBeat (beatBytes b5) (audioProducerBeat .b (beatBytes b4) (audioProducerBeat .a (beatBytes b3)
        (distanceBeat (beatBytes b2) (steeringBeat (beatBytes b1) (producerBeat (beatBytes b0) u)))))) ∧
  (∀ (s : State) (p : HostRequest) (rest : List HostRequest), AnchorWrite s p rest → (∀ e ∈ p.elements, e.mask ≠ fullMask) →
    CleanBeats s (requestBase p) p.elements.length →
    ∃ t : State, exec .arbiterGrant s = .next t ∧ ChangesOnly [.fmc] s t) ∧
  (∀ (s : State) (p : HostRequest) (rest : List HostRequest), AnchorWrite s p rest →
    ∃ u t : State, exec .arbiterGrant s = .next t ∧ ReportsBeside [.fmc] s u ∧ t.fmc = u.fmc ∧
      (∀ (j k : Nat) (e : DataElement), p.elements[j]? = some e → k < 16 → e.mask.getLsbD k = true →
        readByte u.fmc.cells (requestBase p + 16 * j + k) = (beatBytes e.data).getD k 0) ∧
      (∀ a : Nat, a < requestBase p ∨ requestBase p + 16 * p.elements.length ≤ a → readByte u.fmc.cells a = readByte s.fmc.cells a) ∧
      (CleanBeats s (requestBase p) p.elements.length → ChangesOnly [.fmc] s u) ∧
      t = handAll (requestBase p) p.elements u) ∧
  (∀ (bytes : List Byte) (s t : State) (value : Count) (ahead : Nat), t = producerBeat bytes s →
    value = BitVec.ofNat 16 (get16 bytes 0) → ahead = (value - s.rqe.consumer).toNat →
    (s.rqe.held = true → t = s) ∧
    (s.rqe.held = false → s.rqe.entry = none → ahead ≤ 32 →
      t.rqe.producer = value ∧ t.rqe.consumer = s.rqe.consumer ∧ ChangesOnly [.rqe] s t ∧
      (ahead = 0 ∨ s.rqe.drain ≠ .none → t.rqe.entry = none) ∧
      (1 ≤ ahead → s.rqe.drain = .none → t.rqe.entry = some ⟨s.rqe.consumer, .fetching⟩ ∧
        (s.rqe.claim = .idle → t.rqe.claim = .waiting ⟨0x1FFFF300 + 32 * (s.rqe.consumer.toNat % 32), 2⟩))) ∧
    (s.rqe.held = false → s.rqe.entry ≠ none → 1 ≤ ahead → ahead ≤ 32 →
      t.rqe.producer = value ∧ t.rqe.consumer = s.rqe.consumer ∧ t.rqe.entry = s.rqe.entry ∧ ChangesOnly [.rqe] s t) ∧
    (s.rqe.held = false → (s.rqe.entry = none ∧ 32 < ahead) ∨ (s.rqe.entry ≠ none ∧ (ahead = 0 ∨ 32 < ahead)) →
      t.rqe = s.rqe ∧ ReportsBeside [] s t ∧
      t.flt = (report ⟨.requestInvalid, .request,
        .producer (decide (s.rqe.entry = none ∨ (33 ≤ ahead ∧ ahead ≤ 65503))) value s.rqe.producer s.rqe.consumer, none⟩ s).flt)) ∧
  (∀ (bytes : List Byte) (s t : State) (page : Nat), t = uiBaseBeat bytes s → page = get32 bytes 4 →
    ((engine .c s).held = true → t = s) ∧
    ((engine .c s).held = false → get8 bytes 0 = 0 → t = { s with den := { s.den with uiPending := none } }) ∧
    ((engine .c s).held = false → get8 bytes 0 = 1 → page + 1350 ≤ 0x1FFFF →
      t = { s with den := { s.den with uiPending := some page } }) ∧
    ((engine .c s).held = false → 1 < get8 bytes 0 ∨ (get8 bytes 0 = 1 ∧ 0x1FFFF < page + 1350) →
      t = report ⟨.requestInvalid, .panelC, .uiBase (BitVec.ofNat 32 page), none⟩ s)) ∧
  (∀ (x : Channel) (bytes : List Byte) (s t : State) (value : Count) (row : Option Region), t = audioProducerBeat x bytes s →
    value = BitVec.ofNat 16 (get16 bytes 0) →
    row = (match x with | .a => s.lyu.committed.map.audioA | .b => s.lyu.committed.map.audioB) →
    (s.aop.held = true ∨ row = none → t = s) ∧
    (∀ r : Region, s.aop.held = false → row = some r →
      ((value - (s.aop.channels.get x).consumer).toNat ≤ 4 * r.pages →
        (t.aop.channels.get x).producer = value ∧ (t.aop.channels.get x).consumer = (s.aop.channels.get x).consumer ∧
        (t.aop.channels.get x).ahead = (s.aop.channels.get x).ahead.filter (fun b => decide
          ((b.index - (s.aop.channels.get x).consumer).toNat < (value - (s.aop.channels.get x).consumer).toNat)) ∧
        (∀ y : Channel, y ≠ x → (t.aop.channels.get y).producer = (s.aop.channels.get y).producer ∧
          (t.aop.channels.get y).consumer = (s.aop.channels.get y).consumer ∧
          (t.aop.channels.get y).ahead = (s.aop.channels.get y).ahead) ∧
        (value ≠ (s.aop.channels.get x).producer → t.stw.dirty.has .s6 = true) ∧ ChangesOnly [.aop, .stw] s t) ∧
      (4 * r.pages < (value - (s.aop.channels.get x).consumer).toNat →
        t = report ⟨.requestInvalid, .audio,
          .audioProducer x value (s.aop.channels.get x).producer (s.aop.channels.get x).consumer, none⟩ s)))

/-! ## The reverse view and the camera -/

/-- REV_EDGE and REV_PENDING_EXPIRY (R108, R110 to R114): an edge away from the qualified level is pending for 20 ms, an edge back cancels it;
a level that stays is qualified. REV asserted in NORMAL engages the view, starts capture and raises REVERSE_CHANGED; asserted in HOLD it
re-engages the view, with capture and health as they stand and the chime event of an engagement. Deasserted in ENGAGED without a host
request, the view enters HOLD for reverse_hold tenths of a second, or NORMAL at once when that is 0. That an expiry may be taken later than the
time it is due is the model's choice (log 2). -/
def Obligations.RevIsQualifiedAndMovesTheView : Prop :=
  (∀ (s : State) (level : Level), s.pins.rev ≠ level →
    ∃ t : State, exec (.revEdge level) s = .next t ∧ t.pins = { s.pins with rev := level } ∧ ChangesOnly [.pins, .rvc, .stw] s t ∧
      (s.rvc.acting = false → t.rvc = s.rvc) ∧
      (s.rvc.acting = true → revLevelOf level = s.rvc.revQualified → t.rvc = { s.rvc with revPending := none }) ∧
      (s.rvc.acting = true → revLevelOf level ≠ s.rvc.revQualified →
        t.rvc = { s.rvc with revPending := some ⟨revLevelOf level, s.lyu.partTime + 20⟩ })) ∧
  (∀ (s : State) (expiry : Millis), s.rvc.revPending = some ⟨.asserted, expiry⟩ → reached s.lyu.partTime expiry = true →
    s.rvc.acting = true → s.rvc.view = .normal → NotDraining s →
    ∃ t : State, exec .revPendingExpiry s = .next t ∧
      t.rvc = { s.rvc with
        revQualified := .asserted, revPending := none, view := .engaged, engageCause := .rev, health := .awaiting, recoveryCount := 0,
        lastGoodFrameNo := none, lostTimer := .stopped, firstFrameDeadline := .running (s.lyu.partTime + 250) } ∧
      t.ccp.capturing = true ∧ (s.gdu.held = false → t.gdu.working = true) ∧
      (s.pdu.held = false → s.pdu.active = false → s.lyu.source = .host → t.pdu.active = true ∧ t.pdu.distance = none) ∧
      t.flt.causes.getLsbD Cause.reverseChanged.bit = true ∧ t.lyu = s.lyu ∧ MemoryKept s t) ∧
  (∀ (s : State) (level : RevLevel) (expiry : Millis), s.rvc.revPending = some ⟨level, expiry⟩ → reached s.lyu.partTime expiry = true →
    s.rvc.acting = true → NotDraining s →
    ((level = .asserted ∧ s.rvc.view = .engaged) ∨ (level = .deasserted ∧ s.rvc.view = .engaged ∧ s.rvc.hostRequest = true) ∨
        (level = .deasserted ∧ s.rvc.view ≠ .engaged ∧ s.rvc.hostRequest = false) →
      ∃ t : State, exec .revPendingExpiry s = .next t ∧ t.rvc = { s.rvc with revQualified := level, revPending := none } ∧
        t.stw.dirty.has .s3 = true ∧ ChangesOnly [.rvc, .stw] s t) ∧
    (level = .asserted → s.rvc.view = .hold →
      ∃ t : State, exec .revPendingExpiry s = .next t ∧
        t.rvc = { s.rvc with
          revQualified := .asserted, revPending := none, view := .engaged, engageCause := .rev, holdTimer := .stopped } ∧
        (s.pdu.held = false → s.pdu.active = false → s.lyu.source = .host → t.pdu.active = true ∧ t.pdu.distance = none) ∧
        t.chu = (chimeEvent .reverseEngaged s).chu ∧ t.stw.dirty.has .s3 = true ∧ ChangesOnly [.rvc, .stw, .pdu, .chu] s t) ∧
    (level = .deasserted → s.rvc.view = .engaged → s.rvc.hostRequest = false → 1 ≤ s.lyu.committed.reverseHold →
      ∃ t : State, exec .revPendingExpiry s = .next t ∧
        t.rvc = { s.rvc with
          revQualified := .deasserted, revPending := none, view := .hold
          holdTimer := .running (s.lyu.partTime + BitVec.ofNat 32 (100 * s.lyu.committed.reverseHold)) } ∧
        (s.pdu.held = false → t.pdu.active = false) ∧
        t.chu.tone.sounding = false ∧ t.chu.voice = s.chu.voice ∧ t.chu.queue = s.chu.queue ∧
        t.stw.dirty.has .s3 = true ∧ ChangesOnly [.rvc, .stw, .pdu, .chu] s t) ∧
    (level = .deasserted → s.rvc.view = .engaged → s.rvc.hostRequest = false → s.lyu.committed.reverseHold = 0 →
      ∃ t : State, exec .revPendingExpiry s = .next t ∧
        ViewEnded { s.rvc with revQualified := .deasserted, revPending := none } s t))

/-- HOLD_TIMER_EXPIRY in HOLD (R114, R125, R30): the view is NORMAL with health AWAITING and its timers stopped, capture stops, and
REVERSE_CHANGED is raised; a staged layout is applied with LAYOUT_APPLIED, and without one the committed layout stands. That an expiry may
be taken later than the time it is due is the model's choice (log 2). -/
def Obligations.HoldExpiryReturnsToNormal : Prop :=
  ∀ (s : State) (expiry : Millis), s.rvc.view = .hold → s.rvc.holdTimer = .running expiry → reached s.lyu.partTime expiry = true →
    NotDraining s →
    ∃ t : State, exec .holdTimerExpiry s = .next t ∧
      t.rvc = { s.rvc with
        view := .normal, engageCause := .none, holdTimer := .stopped, firstFrameDeadline := .stopped, lostTimer := .stopped,
        recoveryCount := 0, health := .awaiting } ∧
      t.ccp.capturing = false ∧ t.ccp.receiving = none ∧ t.ccp.closing = none ∧ t.ccp.latest = none ∧ t.ccp.pinned = s.ccp.pinned ∧
      t.flt.causes.getLsbD Cause.reverseChanged.bit = true ∧
      (s.gdu.held = false → t.gdu.working = false) ∧
      (s.lyu.layoutState ≠ .staged → t.lyu = s.lyu ∧ t.wdc.map = s.wdc.map) ∧
      (∀ l : Layout, s.lyu.layoutState = .staged → s.lyu.staged = some l →
        t.lyu.committed = l ∧ t.lyu.source = .host ∧ t.lyu.layoutState = .configured ∧ t.lyu.staged = none ∧ t.wdc.map = l.map ∧
        t.flt.causes.getLsbD Cause.layoutApplied.bit = true) ∧
      MemoryKept s t

/-- FIRST_FRAME_DEADLINE_EXPIRY in AWAITING and LOST_TIMER_EXPIRY in GOOD (R116, R117): health is LOST, both timers are stopped, and
CAMERA_LOST is reported with its detail and the last good frame's number. That an expiry may be taken later than the time it is due is the
model's choice (log 2). -/
def Obligations.SilentCameraIsLost : Prop :=
  (∀ (s : State) (expiry : Millis), s.rvc.firstFrameDeadline = .running expiry → reached s.lyu.partTime expiry = true →
    s.rvc.health = .awaiting →
    ∃ t : State, exec .firstFrameDeadlineExpiry s = .next t ∧
      t.rvc = { s.rvc with health := .lost, lostTimer := .stopped, firstFrameDeadline := .stopped, recoveryCount := 0 } ∧
      t.flt = (report ⟨.cameraLost, .camera, .cameraLost true s.rvc.lastGoodFrameNo, none⟩ s).flt ∧
      t.stw.dirty.has .s3 = true ∧ ReportsBeside [.rvc] s t) ∧
  (∀ (s : State) (expiry : Millis), s.rvc.lostTimer = .running expiry → reached s.lyu.partTime expiry = true →
    s.rvc.health = .good →
    ∃ t : State, exec .lostTimerExpiry s = .next t ∧
      t.rvc = { s.rvc with health := .lost, lostTimer := .stopped, firstFrameDeadline := .stopped, recoveryCount := 0 } ∧
      t.flt = (report ⟨.cameraLost, .camera, .cameraLost false s.rvc.lastGoodFrameNo, none⟩ s).flt ∧
      t.stw.dirty.has .s3 = true ∧ ReportsBeside [.rvc] s t)

/-- FRAME_START and UNKNOWN_CAMERA_PACKET (R119, R120, R176): a frame starts in the lowest FREE slot, with line 0 next and its base taken
from the committed CAMERA row. Over a receiving frame it first damages that frame, whose lines leave the buffer, with CAMERA_LINE_ERROR
START_BEFORE_END (R123), and the slot freed may be the one chosen. In a drain no frame starts and reception is WAITING (R127). Packets pass a
stopped or held capture, and an unknown packet passes always. -/
def Obligations.FrameStartTakesAFreeSlot : Prop :=
  (∀ (s : State) (no : Count) (slot : Fin 4), s.ccp.capturing = true → s.ccp.held = false → s.ccp.receiving = none →
    s.ccp.drain = .none → NotDraining s → s.ccp.lowestFree = some slot →
    ∃ t : State, exec (.frameStart no) s = .next t ∧
      t.ccp.receiving = some ⟨slot, no, 0, rowBase s.lyu.committed.map.camera + 1843200 * slot.val⟩ ∧
      t.ccp.reception = .receiving ∧ t.ccp.frameNos.get slot = none ∧
      t.ccp.latest = s.ccp.latest ∧ t.ccp.pinned = s.ccp.pinned ∧ t.ccp.closing = s.ccp.closing ∧ t.ccp.buffer = s.ccp.buffer ∧
      s.ccp.latest ≠ some slot ∧ s.ccp.pinned ≠ some slot ∧ ChangesOnly [.ccp] s t) ∧
  (∀ (s : State) (no : Count) (f : ReceivingFrame), s.ccp.capturing = true → s.ccp.held = false → s.ccp.receiving = some f →
    NotLast s [s.rqe.drain, s.chu.drain] →
    ∃ t : State, exec (.frameStart no) s = .next t ∧ t.ccp.framesDamaged = s.ccp.framesDamaged + 1 ∧
      t.ccp.framesGood = s.ccp.framesGood ∧ t.ccp.buffer = s.ccp.buffer.filter (fun l => !(l.slot == f.slot)) ∧
      t.ccp.latest = s.ccp.latest ∧ t.ccp.pinned = s.ccp.pinned ∧ t.ccp.closing = s.ccp.closing ∧
      t.flt = (report ⟨.cameraLineError, .camera, .startBeforeEnd f.frameNo, none⟩ s).flt ∧ DamagedFrameNoticed s t ∧
      (∀ slot : Fin 4, s.ccp.drain = .none → Ccp.lowestFree { s.ccp with receiving := none } = some slot →
        t.ccp.receiving = some ⟨slot, no, 0, rowBase s.lyu.committed.map.camera + 1843200 * slot.val⟩ ∧ t.ccp.reception = .receiving) ∧
      (s.ccp.drain ≠ .none → t.ccp.receiving = none ∧ t.ccp.reception = .waiting ∧ (s.ccp.closing = none → t.ccp.drain = .drained)) ∧
      t.stw.dirty.has .s3 = true ∧ ReportsBeside [.ccp, .rvc] s t) ∧
  (∀ (s : State) (no : Count), s.ccp.capturing = true → s.ccp.held = false → s.ccp.receiving = none → s.ccp.drain ≠ .none →
    NotLast s [s.rqe.drain, s.chu.drain] →
    ∃ t : State, exec (.frameStart no) s = .next t ∧ t.ccp.receiving = none ∧ t.ccp.reception = .waiting ∧ ChangesOnly [.ccp] s t) ∧
  (∀ (s : State) (no : Count), s.ccp.capturing = false ∨ s.ccp.held = true → NotDraining s → exec (.frameStart no) s = .next s) ∧
  (∀ (s : State) (code : Byte), code ≠ 1 → code ≠ 2 → code ≠ 3 → exec (.unknownCameraPacket code) s = .next s)

/-- LINE (R121, R123): a line in order, with a good check and room in the buffer, joins the buffer's tail with the frame's slot; a line that
fails damages the frame, whose lines leave the buffer, with CAMERA_LINE_ERROR reported once and reception DISCARDING. -/
def Obligations.LineIsJudged : Prop :=
  ∀ (s : State) (f : ReceivingFrame) (lineNo : Count) (data : List Byte) (check : BitVec 32),
    s.ccp.capturing = true → s.ccp.held = false → s.ccp.receiving = some f → NotDraining s →
    (lineNo.toNat = f.nextLine → f.nextLine < 720 → goodCheck data check = true → s.ccp.buffer.length < 4 →
      ∃ t : State, exec (.line lineNo data check) s = .next t ∧
        t.ccp.buffer = s.ccp.buffer ++ [⟨f.slot, f.base, f.nextLine, data, 0⟩] ∧
        t.ccp.receiving = some { f with nextLine := f.nextLine + 1 } ∧
        t.ccp.latest = s.ccp.latest ∧ t.ccp.pinned = s.ccp.pinned ∧ t.ccp.closing = s.ccp.closing ∧ ChangesOnly [.ccp] s t) ∧
    (∀ detail : Detail,
      detail = (if lineNo.toNat ≠ f.nextLine then .outOfOrder f.nextLine lineNo f.frameNo
        else if goodCheck data check = false then .badCheck lineNo f.frameNo
        else .bufferOverrun lineNo f.frameNo) →
      lineNo.toNat ≠ f.nextLine ∨ (f.nextLine < 720 ∧ (goodCheck data check = false ∨ 4 ≤ s.ccp.buffer.length)) →
      ∃ t : State, exec (.line lineNo data check) s = .next t ∧
        t.ccp.receiving = none ∧ t.ccp.reception = .discarding ∧ t.ccp.framesDamaged = s.ccp.framesDamaged + 1 ∧
        t.ccp.framesGood = s.ccp.framesGood ∧ t.ccp.latest = s.ccp.latest ∧ t.ccp.pinned = s.ccp.pinned ∧
        t.ccp.buffer = s.ccp.buffer.filter (fun l => !(l.slot == f.slot)) ∧
        t.flt = (report ⟨.cameraLineError, .camera, detail, none⟩ s).flt ∧
        DamagedFrameNoticed s t ∧ t.stw.dirty.has .s3 = true ∧ ReportsBeside [.ccp, .rvc] s t)

/-- FRAME_END and CAMERA_LINE_WRITE_COMPLETE (R121, R122): a whole frame with no line left becomes latest at once with a good-frame notice;
one with lines missing is damaged; without a receiving frame, as in DISCARDING, a FRAME_END only makes reception WAITING (R119). A written line
leaves the buffer with its last request, and the last one of the closing frame makes its slot latest. A good frame makes health GOOD from
AWAITING, restarts the lost timer, and is the first or the second of a recovery in LOST; a damaged one restarts that count (R116 to R118,
R123). In a drain CCP reaches its boundary with no frame left (R127), which ends the drain only when it is the last. -/
def Obligations.WholeFrameBecomesLatest : Prop :=
  (∀ (s : State) (f : ReceivingFrame), s.ccp.capturing = true → s.ccp.held = false → s.ccp.receiving = some f →
    NotLast s [s.rqe.drain, s.chu.drain] →
    (f.nextLine < 720 →
      ∃ t : State, exec .frameEnd s = .next t ∧ t.ccp.receiving = none ∧ t.ccp.reception = .waiting ∧
        t.ccp.framesDamaged = s.ccp.framesDamaged + 1 ∧ t.ccp.latest = s.ccp.latest ∧
        t.flt = (report ⟨.cameraLineError, .camera, .missingLines (720 - f.nextLine) f.frameNo, none⟩ s).flt ∧
        DamagedFrameNoticed s t ∧ (s.ccp.drain = .draining → s.ccp.closing = none → t.ccp.drain = .drained) ∧
        ReportsBeside [.ccp, .rvc] s t) ∧
    (f.nextLine = 720 → (∀ l ∈ s.ccp.buffer, l.slot ≠ f.slot) →
      ∃ t : State, exec .frameEnd s = .next t ∧ t.ccp.receiving = none ∧ t.ccp.closing = none ∧ t.ccp.reception = .waiting ∧
        t.ccp.latest = some f.slot ∧ t.ccp.pinned = s.ccp.pinned ∧ t.ccp.framesGood = s.ccp.framesGood + 1 ∧
        GoodFrameNoticed f.frameNo s t ∧ (s.ccp.drain = .draining → t.ccp.drain = .drained) ∧
        t.stw.dirty.has .s3 = true ∧ ChangesOnly [.ccp, .rvc, .stw] s t) ∧
    (f.nextLine = 720 → (∃ l ∈ s.ccp.buffer, l.slot = f.slot) →
      ∃ t : State, exec .frameEnd s = .next t ∧ t.ccp.receiving = none ∧ t.ccp.closing = some ⟨f.slot, f.frameNo⟩ ∧
        t.ccp.reception = .waiting ∧ t.ccp.latest = s.ccp.latest ∧ t.ccp.drain = s.ccp.drain ∧ ChangesOnly [.ccp] s t)) ∧
  (∀ s : State, s.ccp.capturing = true → s.ccp.held = false → s.ccp.receiving = none → NotLast s [s.rqe.drain, s.chu.drain] →
    exec .frameEnd s = .next { s with ccp := { s.ccp with reception := .waiting } }) ∧
  (∀ s : State, s.ccp.capturing = false ∨ s.ccp.held = true → NotLast s [s.rqe.drain, s.chu.drain] → exec .frameEnd s = .next s) ∧
  (∀ (s : State) (beats : List ReadBeat) (line : CameraLine) (rest : List CameraLine),
    s.fmc.busy = some ⟨.cameraWrite, beats⟩ → s.ccp.claim = .granted true → s.ccp.buffer = line :: rest →
    NotLast s [s.rqe.drain, s.chu.drain] →
    (line.written + line.request.beats < 160 →
      ∃ t : State, exec .cameraLineWriteComplete s = .next t ∧ GrantEnded s t ∧
        t.ccp = { s.ccp with
          buffer := { line with written := line.written + line.request.beats } :: rest
          claim := .waiting { line with written := line.written + line.request.beats }.request } ∧
        ChangesOnly [.fmc, .ccp] s t) ∧
    (160 ≤ line.written + line.request.beats →
      ∃ t : State, exec .cameraLineWriteComplete s = .next t ∧ GrantEnded s t ∧ t.ccp.buffer = rest ∧
        (∀ f : ClosingFrame, s.ccp.closing = some f → (∀ l ∈ rest, l.slot ≠ f.slot) →
          t.ccp.closing = none ∧ t.ccp.latest = some f.slot ∧ t.ccp.framesGood = s.ccp.framesGood + 1 ∧
          GoodFrameNoticed f.frameNo s t ∧ (s.ccp.drain = .draining → s.ccp.receiving = none → t.ccp.drain = .drained)) ∧
        (s.ccp.closing = none → t.ccp.latest = s.ccp.latest ∧ t.rvc = s.rvc) ∧
        ChangesOnly [.fmc, .ccp, .rvc, .stw] s t))

/-! ## Guide lines and park distance -/

/-- STALE_TIMER_EXPIRY and DISTANCE_TIMER_EXPIRY (R131, R141): the steering becomes STALE, with STEER_STALE reported once in an episode while
GDU works with a live bank; 300 ms without a distance beat is a sensor fault, with zone 0 and readout FAULT, kept if already there. That an
expiry may be taken later than the time it is due is the model's choice (log 2). -/
def Obligations.SilentSensorsAreReported : Prop :=
  (∀ (s : State) (expiry : Millis), s.gdu.staleTimer = .running expiry → reached s.lyu.partTime expiry = true →
    ∃ t : State, exec .staleTimerExpiry s = .next t ∧ t.stw.dirty.has .s3 = true ∧ ReportsBeside [.gdu] s t ∧
      (s.gdu.working = true ∧ s.gdu.liveBank ≠ none ∧ s.gdu.staleReported = false →
        t.gdu = { s.gdu with staleTimer := .stopped, steeringState := .stale, staleReported := true } ∧
        t.flt = (report ⟨.steerStale, .guide, .steering (s.gdu.steering.map Steering.seq), none⟩ s).flt) ∧
      (s.gdu.working = false ∨ s.gdu.liveBank = none ∨ s.gdu.staleReported = true →
        t.gdu = { s.gdu with staleTimer := .stopped, steeringState := .stale } ∧ t.flt = s.flt)) ∧
  (∀ (s : State) (expiry : Millis) (k : ParkSettings), s.pdu.distanceTimer = .running expiry → reached s.lyu.partTime expiry = true →
    s.lyu.committed.park = some k →
    ∃ t : State, exec .distanceTimerExpiry s = .next t ∧ ReportsBeside [.pdu] s t ∧ t.pdu.distanceTimer = .stopped ∧
      t.pdu.sensorFault = true ∧
      (s.pdu.sensorFault = false → t.pdu.zone = 0 ∧ t.pdu.readout = .fault ∧ t.pdu.handed = .halt ∧
        t.flt = (report ⟨.sensorFault, .park, .noDistanceBeat (s.pdu.distance.map Distance.seq), none⟩ s).flt) ∧
      (s.pdu.sensorFault = true → t.pdu = { s.pdu with distanceTimer := .stopped } ∧ t.flt = s.flt)) ∧
  (∀ (s : State) (expiry : Millis), s.pdu.distanceTimer = .running expiry → reached s.lyu.partTime expiry = true →
    s.lyu.committed.park = none →
    exec .distanceTimerExpiry s = .next { s with pdu := { s.pdu with distanceTimer := .stopped } })

/-- The steering beat and the distance beat as GDU and PDU take them (R130, R139 to R142): the clamped angle falls in the wanted bucket and
the steering is FRESH for 300 ms; an active PDU counts the valid sensors and derives nearest, zone, readout and cadence, or with too few
meets the sensor fault. A held block discards its beat, as does an inactive PDU. -/
def Obligations.SensorBeatsAreTaken : Prop :=
  (∀ (bytes : List Byte) (s t : State), t = steeringBeat bytes s →
    (s.gdu.held = true → t = s) ∧
    (s.gdu.held = false → ∃ angle : Int, angle = max (-4800) (min 4800 (angleOf bytes)) ∧
      t.gdu.steering = some ⟨BitVec.ofNat 16 (get16 bytes 0), angle⟩ ∧ t.gdu.steeringState = .fresh ∧ t.gdu.staleReported = false ∧
      t.gdu.staleTimer = .running (s.lyu.partTime + 300) ∧ t.gdu.wantedBucket ≤ 32 ∧
      300 * (t.gdu.wantedBucket : Int) ≤ angle + 4950 ∧ angle + 4950 < 300 * (t.gdu.wantedBucket : Int) + 300 ∧
      t.gdu.liveBank = s.gdu.liveBank ∧ t.gdu.staticCache = s.gdu.staticCache ∧ t.gdu.bucketCache = s.gdu.bucketCache ∧
      t.stw.dirty.has .s3 = true ∧ ChangesOnly [.gdu, .wdc, .stw] s t)) ∧
  (∀ (bytes : List Byte) (s t : State), t = distanceBeat bytes s →
    (s.pdu.held = true ∨ s.pdu.active = false → t = s) ∧
    (∀ (k : ParkSettings) (d : Distance), s.pdu.held = false → s.pdu.active = true → s.lyu.committed.park = some k →
      d = parseDistance bytes →
      t.pdu.distance = some d ∧ t.pdu.distanceTimer = .running (s.lyu.partTime + 300) ∧ t.pdu.validCount = d.validCount ∧
      t.stw.dirty.has .s3 = true ∧ ReportsBeside [.pdu] s t ∧
      (k.minValid ≤ d.validCount → t.pdu.sensorFault = false ∧ t.pdu.nearest = d.nearest ∧ t.flt = s.flt ∧
        t.pdu.handed = .zone t.pdu.zone ∧
        (d.nearest = none → t.pdu.zone = 0 ∧ t.pdu.readout = .clear) ∧
        (∀ near : Nat, d.nearest = some near → t.pdu.readout = .distance near ∧
          t.pdu.zone = (if k.t1 ≤ near then 0 else if k.t2 ≤ near then 1 else if k.t3 ≤ near then 2 else if k.t4 ≤ near then 3 else 4))) ∧
      (d.validCount < k.minValid → s.pdu.sensorFault = false → t.pdu.sensorFault = true ∧ t.pdu.zone = 0 ∧ t.pdu.readout = .fault ∧
        t.pdu.handed = .halt ∧
        t.flt = (report ⟨.sensorFault, .park, .tooFewValid d.validCount k.minValid, none⟩ s).flt)))

/-- GUIDE_LIST_GRANT_COMPLETE at the last grant of a fetch (R136, R137): a list that passes fills its cache in list order, one that fails
makes it INVALID and is reported once, and a given-up fetch reaches no cache and raises nothing. A list passes exactly when its header and
the segments within its count are free of poison, the count is at most 16 or 12, and each segment keeps to the ranges of R137. -/
def Obligations.GuideListIsJudged : Prop :=
  (∀ (list : GuideList) (header : ReadBeat) (rest used : List ReadBeat) (l : List Segment), used = rest.take (get16 header.bytes 0) →
    (judgeGuideList list (header :: rest) = .valid l ↔
      header.poison = false ∧ anyPoison used = false ∧ get16 header.bytes 0 ≤ (match list with | .static => 16 | .bucket _ => 12) ∧
      l = used.map (fun b => ⟨get16 b.bytes 0, get16 b.bytes 2, get16 b.bytes 4, get16 b.bytes 6, get8 b.bytes 8, get8 b.bytes 9⟩) ∧
      ∀ g ∈ l, g.fits)) ∧
  ∀ (s : State) (beats : List ReadBeat) (f : GuideFetch), s.fmc.busy = some ⟨.guideList, beats⟩ → s.gdu.fetch = some f →
    (f.givenUp = true →
      ∃ t : State, exec .guideListGrantComplete s = .next t ∧ GrantEnded s t ∧ t.gdu.staticCache = s.gdu.staticCache ∧
        t.gdu.bucketCache = s.gdu.bucketCache ∧ t.flt = s.flt ∧ ChangesOnly [.fmc, .gdu, .wdc, .stw] s t) ∧
    (f.givenUp = false → s.gdu.claim = .granted true → f.list.beats ≤ (f.beats ++ beats).length →
      ∃ t : State, exec .guideListGrantComplete s = .next t ∧ GrantEnded s t ∧ t.stw.dirty.has .s3 = true ∧
        t.gdu.liveBank = s.gdu.liveBank ∧ t.gdu.stagedBank = s.gdu.stagedBank ∧ t.gdu.steering = s.gdu.steering ∧
        ReportsBeside [.fmc, .gdu, .wdc] s t ∧
        (∀ l : List Segment, judgeGuideList f.list (f.beats ++ beats) = .valid l → t.flt = s.flt ∧
          (f.list = .static → t.gdu.staticCache = .valid l ∧ t.gdu.bucketCache = s.gdu.bucketCache) ∧
          (∀ k : Nat, f.list = .bucket k → t.gdu.bucketCache = .valid k l ∧ t.gdu.staticCache = s.gdu.staticCache)) ∧
        (∀ (check : Nat) (place : Option Nat), judgeGuideList f.list (f.beats ++ beats) = .invalid check place →
          t.flt = (report ⟨.guideInvalid, .guide, .guideList f.bank f.list check place, none⟩ s).flt ∧
          (f.list = .static → t.gdu.staticCache = .invalid ∧ t.gdu.bucketCache = s.gdu.bucketCache) ∧
          (∀ k : Nat, f.list = .bucket k → t.gdu.bucketCache = .invalid k ∧ t.gdu.staticCache = s.gdu.staticCache)))

/-! ## Chimes and audio -/

/-- CLIP_DIRECTORY_FETCH_COMPLETE and CLIP_BLOCK_FETCH_COMPLETE (R151, R152): a directory entry that passes the five checks, and no other, is
valid, is kept, and block 0 is claimed; for an invalid one its chime is gone, the voice is IDLE or takes the head of the queue, and then
CLIP_INVALID is reported: that the report comes last is the model's choice (log 48). A block's second grant puts the block into the voice's buffer. AUDIO_BLOCK_FETCH_COMPLETE (R158): the fourth
grant of a fetch that still counts puts the block into the channel's ahead buffer with its poison, each grant before it leads to the claim of
the same block's next request, and a given-up fetch is discarded. That no other channel's claim comes between is the model's choice (log 47).
That each of these block commands is the completion of one grant, two or four to a block, is the model's choice (log 33), and so is the base
that block claims read (log 40). -/
def Obligations.ClipAndAudioFetchesFillTheBuffers : Prop :=
  (∀ (beats : List ReadBeat) (storePages : Nat),
    clipEntryFailure beats storePages = none ↔ anyPoison beats = false ∧ ValidClipEntry (beatData beats) storePages) ∧
  (∀ (s : State) (beats : List ReadBeat), s.fmc.busy = some ⟨.clipDirectory, beats⟩ → s.chu.claim = .granted true →
    s.chu.fetch = some ⟨.directory, false, 0, []⟩ → s.chu.voice.state = .starting → s.chu.voice.current = none →
    (clipEntryFailure beats (rowPages s.lyu.committed.map.chimeStore) = none →
      ∃ t : State, exec .clipDirectoryFetchComplete s = .next t ∧ GrantEnded s t ∧
        t.chu.voice = { s.chu.voice with entry := some (parseClipEntry (rowBase s.lyu.committed.map.chimeStore) (beatData beats)), position := 0 } ∧
        t.chu.queue = s.chu.queue ∧ t.chu.fetch = some ⟨.block 0, false, 0, []⟩ ∧
        t.chu.claim = .waiting ⟨rowBase s.lyu.committed.map.chimeStore + 512 * get32 (beatData beats) 0, 16⟩ ∧
        ChangesOnly [.fmc, .chu, .stw] s t) ∧
    (∀ (check : Nat) (r : Report), clipEntryFailure beats (rowPages s.lyu.committed.map.chimeStore) = some check →
      r = ⟨.clipInvalid, .chime, .clipEntry s.chu.voice.chime.clip check, none⟩ →
      ∃ u t : State, exec .clipDirectoryFetchComplete s = .next t ∧ t = report r u ∧ GrantEnded s t ∧ t.flt = (report r s).flt ∧
        (s.chu.queue = [] ∨ s.chu.drain ≠ .none ∨ s.chu.held = true →
          u.chu.voice.state = .idle ∧ u.chu.queue = s.chu.queue ∧ u.chu.fetch = none ∧ u.chu.claim = .idle) ∧
        (∀ (head : Chime) (rest : List Chime), s.chu.queue = head :: rest → s.chu.drain = .none → s.chu.held = false →
          u.chu.voice.state = .starting ∧ u.chu.voice.chime = head ∧ u.chu.voice.entry = none ∧ u.chu.voice.current = none ∧
          u.chu.queue = rest ∧ u.chu.fetch = some ⟨.directory, false, 0, []⟩ ∧
          u.chu.claim = .waiting ⟨rowBase s.lyu.committed.map.chimeStore + 16 * head.clip, 1⟩) ∧
        u.chu.dropped = s.chu.dropped ∧ u.chu.tone = s.chu.tone ∧ ChangesOnly [.fmc, .chu, .stw] s u ∧ ReportsBeside [.fmc] s t)) ∧
  (∀ (s : State) (beats : List ReadBeat) (f : ClipFetch) (j : Nat), s.fmc.busy = some ⟨.clipBlock, beats⟩ → s.chu.fetch = some f →
    f.target = .block j → f.givenUp = false → s.chu.claim = .granted true → s.chu.voice.state ≠ .idle →
    (f.grants = 0 →
      ∃ t : State, exec .clipBlockFetchComplete s = .next t ∧ GrantEnded s t ∧ t.chu.voice = s.chu.voice ∧
        t.chu.fetch = some { f with grants := 1, beats := f.beats ++ beats } ∧ ChangesOnly [.fmc, .chu, .stw] s t) ∧
    (f.grants = 1 →
      ∃ t : State, exec .clipBlockFetchComplete s = .next t ∧ GrantEnded s t ∧
        t.chu.voice = s.chu.voice.takeBlock ⟨j, beatData (f.beats ++ beats), anyPoison (f.beats ++ beats)⟩ ∧
        t.chu.queue = s.chu.queue ∧ ChangesOnly [.fmc, .chu, .stw] s t)) ∧
  (∀ (s : State) (beats : List ReadBeat) (x : Channel) (f : AudioFetch), s.fmc.busy = some ⟨.audioBlock, beats⟩ →
      s.aop.inFlight = some (x, f) →
      ∃ t : State, exec .audioBlockFetchComplete s = .next t ∧ GrantEnded s t ∧
        (t.aop.channels.get x).producer = (s.aop.channels.get x).producer ∧
        (t.aop.channels.get x).consumer = (s.aop.channels.get x).consumer ∧
        (f.givenUp = true → (t.aop.channels.get x).ahead = (s.aop.channels.get x).ahead) ∧
        (f.givenUp = false → s.aop.claim = .granted true → f.grants < 3 →
          (t.aop.channels.get x).ahead = (s.aop.channels.get x).ahead ∧
          (t.aop.channels.get x).fetch = some { f with grants := f.grants + 1, beats := f.beats ++ beats } ∧
          (s.aop.held = false → t.aop.claim = .waiting ⟨rowBase (audioRow x s.lyu.committed)
            + 1024 * (f.index.toNat % audioCapacity x s.lyu.committed) + 256 * (f.grants + 1), 16⟩)) ∧
        (f.givenUp = false → s.aop.claim = .granted true → f.grants = 3 →
          (t.aop.channels.get x).ahead =
            (s.aop.channels.get x).ahead ++ [⟨f.index, beatData (f.beats ++ beats), anyPoison (f.beats ++ beats)⟩]) ∧
        ChangesOnly [.fmc, .aop, .stw] s t)

/-- TONE_PERIOD_WRAP and PART_TIME_TICK (R35, R155): at the wrap the counter is 0 and beep_started yes, a pending cadence is loaded and a
pending STOP silences the voice; a tick moves part time on by one and the counter of a SOUNDING voice below its period. That a wrap is a
command of its own after its tick is the model's choice (log 16), and so is that pending becomes NONE when a STOP is obeyed (log 44). -/
def Obligations.ToneCountsAndWraps : Prop :=
  (∀ s : State, s.chu.tone.sounding = true → s.chu.tone.wrapDue = true →
    ∃ t : State, exec .tonePeriodWrap s = .next t ∧ t.chu.tone.counter = 0 ∧ t.chu.tone.beepStarted = true ∧
      t.chu.tone.pending = .none ∧ t.chu.queue = s.chu.queue ∧ t.chu.voice = s.chu.voice ∧
      (s.chu.tone.pending = .none → t.chu.tone.sounding = true ∧ t.chu.tone.cadence = s.chu.tone.cadence) ∧
      (∀ c : Cadence, s.chu.tone.pending = .cadence c → t.chu.tone.sounding = true ∧ t.chu.tone.cadence = c) ∧
      (s.chu.tone.pending = .stop → t.chu.tone.sounding = false) ∧ ChangesOnly [.chu, .stw] s t) ∧
  (∀ s : State, s.lyu.partState = .running →
    ∃ t : State, exec .partTimeTick s = .next t ∧ t.lyu = { s.lyu with partTime := s.lyu.partTime + 1 } ∧
      t.chu.queue = s.chu.queue ∧ t.chu.voice = s.chu.voice ∧
      (s.chu.tone.sounding = false → t.chu.tone = s.chu.tone) ∧
      (s.chu.tone.sounding = true → s.chu.tone.wrapDue = false → s.chu.tone.counter + 1 < s.chu.tone.cadence.period →
        t.chu.tone = { s.chu.tone with counter := s.chu.tone.counter + 1 }) ∧
      (s.chu.tone.sounding = true → s.chu.tone.wrapDue = false → s.chu.tone.cadence.period ≤ s.chu.tone.counter + 1 →
        t.chu.tone = { s.chu.tone with wrapDue := true }) ∧
      ChangesOnly [.lyu, .chu, .stw] s t) ∧
  (∀ s : State, s.lyu.partState = .init → exec .partTimeTick s = .next s)

/-- BLOCK_BOUNDARY (R146, R153, R156, R159 to R161, R163): a block is 256 frames, all 0 while AOP is held; each headphone is ducked exactly
while the clip voice plays a clip whose route includes it; a PLAYING channel plays and passes the block at consumer, and passes a late one as
silence; an empty ring holds consumer. Each run of underruns is reported once, AUDIO_UNDERRUN with LATE or EMPTY, the channel and the
consumer, which is the one before that boundary's advance: the model's choice (log 24). Every frame carries the mix of R161: the film shifted
down while ducked, the clip sample where it ducks, clip and tone in the cabin, each sum clamped; the tone is a square wave of the committed
half period while it is audible. That its phase goes on as the same number under another half period is the model's choice (log 46). That a
poisoned block counts as played and ends a run of underruns is the model's choice (log 17), and so is the order of the reports, CHU's before
channel A's before B's (log 13). -/
def Obligations.BlockBoundarySettlesTheBlock : Prop :=
  (∀ s : State, s.aop.held = true → NotLast s [s.rqe.drain, s.ccp.drain] →
    ∃ t : State, exec .blockBoundary s = .next t ∧ t.aop = { s.aop with tdm := silentBlock } ∧ ChangesOnly [.aop] s t) ∧
  (∀ s : State, s.aop.held = false → NotLast s [s.rqe.drain, s.ccp.drain] →
    ∃ t : State, exec .blockBoundary s = .next t ∧ t.aop.tdm.length = 256 ∧ MemoryKept s t ∧
      t.aop.duckHa = (s.chu.settleVoice.1.voice.state == .playing && s.chu.settleVoice.1.voice.chime.route.ha) ∧
      t.aop.duckHb = (s.chu.settleVoice.1.voice.state == .playing && s.chu.settleVoice.1.voice.chime.route.hb) ∧
      (∀ x : Channel, (s.fsq.get x).state ≠ .playing → (t.aop.channels.get x).playing = none ∧
        (t.aop.channels.get x).consumer = (s.aop.channels.get x).consumer ∧
        (t.aop.channels.get x).producer = (s.aop.channels.get x).producer) ∧
      (∀ (x : Channel) (b : AudioBlock), (s.fsq.get x).state = .playing →
        (s.aop.channels.get x).buffered (s.aop.channels.get x).consumer = some b →
        (t.aop.channels.get x).consumer = (s.aop.channels.get x).consumer + 1 ∧ (t.aop.channels.get x).underrun = false ∧
        (t.aop.channels.get x).playing = (if b.poison then none else some b.data)) ∧
      (∀ x : Channel, (s.fsq.get x).state = .playing →
        (s.aop.channels.get x).buffered (s.aop.channels.get x).consumer = none →
        (t.aop.channels.get x).playing = none ∧ (t.aop.channels.get x).underrun = true ∧
        (t.aop.channels.get x).consumer =
          (if (s.aop.channels.get x).inRing (s.aop.channels.get x).consumer then (s.aop.channels.get x).consumer + 1
            else (s.aop.channels.get x).consumer)) ∧
      (∀ tone : Int, (toneHeard s.chu.tone →
          t.chu.tone = { s.chu.tone with
            beepStarted := false, phase := (s.chu.tone.phase + 256) % (2 * s.lyu.committed.toneHalfPeriod) }) ∧
        (¬ toneHeard s.chu.tone → t.chu.tone = { s.chu.tone with beepStarted := false, phase := 0 }) ∧
        ∀ i : Nat, i < 256 →
          (toneHeard s.chu.tone → tone =
            (if (s.chu.tone.phase + i) % (2 * s.lyu.committed.toneHalfPeriod) < s.lyu.committed.toneHalfPeriod then 8192 else -8192)) →
          (¬ toneHeard s.chu.tone → tone = 0) →
          ∃ f : TdmFrame, t.aop.tdm[i]? = some f ∧ MixedFrame f s.lyu.committed t.aop (clipPart s.chu.settleVoice.1.voice i) tone i) ∧
      (∀ u ua ub : State,
        u = (match s.chu.settleVoice.2 with | none => s | some late => report ⟨.chimeUnderrun, .chime, late, none⟩ s) →
        (UnderrunDue s .a → ua = report (underrunReport s .a) u) → (¬ UnderrunDue s .a → ua = u) →
        (UnderrunDue s .b → ub = report (underrunReport s .b) ua) → (¬ UnderrunDue s .b → ub = ua) → t.flt = ub.flt) ∧
      ReportsBeside [.aop] s t)

/-- The clip voice at a block boundary. A drain ends it (R163); a head of strictly higher priority preempts it, and its chime is requeued
or dropped (R154). Else a pending stop ends it; a STARTING voice with block 0 in hand becomes PLAYING; a PLAYING one goes on to the next block,
back to block 0 for a repeat, or ends (R152, R153), and a late block is silence, reported once in a run. A voice left IDLE takes the head
(R151). BLOCK_BOUNDARY settles CHU so and raises the claim of the block that is needed next; its reports follow (log 13). That a poisoned
block in hand ends a run of late blocks is the model's choice (log 17), and so is that a repeat fetches block 0 anew, also of a clip of one
block (log 18). -/
def Obligations.ClipVoiceSettles : Prop :=
  (∀ c : Chu, c.drain = .draining → c.settleVoice.2 = none ∧ c.settleVoice.1.voice.state = .idle ∧
    c.settleVoice.1.drain = .drained ∧ c.settleVoice.1.queue = c.queue ∧ c.settleVoice.1.dropped = c.dropped) ∧
  (∀ (c d : Chu) (detail : Option Detail) (head : Chime) (rest : List Chime) (old : Chime),
    c.settleVoice = (d, detail) → c.drain = .none → c.held = false → c.queue = head :: rest → c.voice.state ≠ .idle →
    c.voice.pendingStop = false → c.voice.chime.priority < head.priority →
    old = { c.voice.chime with route := c.voice.chime.route.join c.voice.nextRoute } → (∀ q ∈ c.queue, q.clip ≠ old.clip) →
    detail = none ∧ d.voice.state = .starting ∧ d.voice.chime = head ∧ d.voice.entry = none ∧ d.voice.current = none ∧
    d.voice.next = none ∧ d.voice.pendingStop = false ∧ d.voice.nextRoute = ⟨false, false⟩ ∧
    (old.requeue = false → d.queue = rest ∧ d.dropped = c.dropped + 1) ∧
    (old.requeue = true → c.queue.length < 8 → d.dropped = c.dropped ∧ d.queue.length = rest.length + 1 ∧
      ∀ q : Chime, q ∈ d.queue ↔ q = old ∨ q ∈ rest) ∧
    (∀ (kept : List Chime) (last : Chime), old.requeue = true → c.queue.length = 8 → rest = kept ++ [last] →
      d.dropped = c.dropped + 1 ∧
      (last.priority < old.priority → d.queue.length = 7 ∧ ∀ q : Chime, q ∈ d.queue ↔ q = old ∨ q ∈ kept) ∧
      (old.priority ≤ last.priority → d.queue = rest))) ∧
  (∀ (c d : Chu) (detail : Option Detail), c.settleVoice = (d, detail) → c.drain ≠ .draining →
    (∀ (head : Chime) (rest : List Chime), c.queue = head :: rest →
      head.priority ≤ c.voice.chime.priority ∨ c.voice.pendingStop = true) →
    d.dropped = c.dropped ∧
    (c.voice.state = .idle → d = c ∧ detail = none) ∧
    ((c.voice.state ≠ .idle ∧ c.voice.pendingStop = true) ∨
        (∃ e : ClipEntry, c.voice.state = .playing ∧ c.voice.entry = some e ∧ e.length ≤ c.voice.position + 1 ∧ c.voice.chime.plays = 1) →
      detail = none ∧
      (c.queue = [] ∨ c.drain ≠ .none ∨ c.held = true → d.voice.state = .idle ∧ d.queue = c.queue) ∧
      (∀ (head : Chime) (rest : List Chime), c.queue = head :: rest → c.drain = .none → c.held = false →
        d.voice.state = .starting ∧ d.voice.chime = head ∧ d.voice.entry = none ∧ d.queue = rest)) ∧
    (c.voice.state = .starting → c.voice.pendingStop = false → c.voice.current = none → d = c ∧ detail = none) ∧
    (∀ b : ClipBlock, c.voice.state = .starting → c.voice.pendingStop = false → c.voice.current = some b →
      detail = none ∧ d.queue = c.queue ∧ d.voice.state = .playing ∧ d.voice.position = 0 ∧ d.voice.current = some b ∧
      d.voice.next = c.voice.next ∧ d.voice.underrun = false ∧ d.voice.nextRoute = ⟨false, false⟩ ∧
      d.voice.chime = { c.voice.chime with route := c.voice.chime.route.join c.voice.nextRoute }) ∧
    (∀ (e : ClipEntry) (position : Nat), c.voice.state = .playing → c.voice.pendingStop = false → c.voice.entry = some e →
      c.voice.position + 1 < e.length ∨ c.voice.chime.plays ≠ 1 →
      position = (if c.voice.position + 1 < e.length then c.voice.position + 1 else 0) →
      d.queue = c.queue ∧ d.voice.state = .playing ∧ d.voice.position = position ∧ d.voice.entry = some e ∧ d.voice.next = none ∧
      d.voice.nextRoute = ⟨false, false⟩ ∧
      d.voice.chime = { c.voice.chime with
        route := c.voice.chime.route.join c.voice.nextRoute
        plays := if c.voice.position + 1 < e.length then c.voice.chime.plays else c.voice.chime.plays - 1 } ∧
      (∀ b : ClipBlock, c.voice.next = some b → b.position = position →
        d.voice.current = some b ∧ d.voice.underrun = false ∧ detail = none) ∧
      ((∀ b : ClipBlock, c.voice.next = some b → b.position ≠ position) →
        d.voice.current = none ∧ d.voice.underrun = true ∧
        detail = (if c.voice.underrun then none else some (.lateClip c.voice.chime.clip position))))) ∧
  (∀ (v : Voice) (e : ClipEntry), v.state = .playing → v.entry = some e → v.next = none →
    (v.position + 1 < e.length → v.need = some (.block (v.position + 1))) ∧
    (e.length ≤ v.position + 1 → v.chime.plays ≠ 1 → v.need = some (.block 0)) ∧
    (e.length ≤ v.position + 1 → v.chime.plays = 1 → v.need = none)) ∧
  (∀ (s : State) (d : Chu) (detail : Option Detail), s.aop.held = false → NotLast s [s.rqe.drain, s.ccp.drain] → s.chu.settleVoice = (d, detail) →
    ∃ t : State, exec .blockBoundary s = .next t ∧ ReportsBeside [.aop] s t ∧
      (s.lyu.committed.chimeMap.faultCritical = none ∨ s.flt.degraded = true →
        t.chu.voice = d.voiceTake.voice ∧ t.chu.queue = d.voiceTake.queue ∧ t.chu.dropped = d.voiceTake.dropped ∧
        (d.voiceTake.fetch = none → d.voiceTake.claim = .idle →
          t.chu.fetch = d.voiceTake.voice.need.map (fun target => ⟨target, false, 0, []⟩))) ∧
      ((∀ x : Channel, (s.fsq.get x).state ≠ .playing) →
        t.flt = (match detail with
          | none => s.flt
          | some late => (report ⟨.chimeUnderrun, .chime, late, none⟩ s).flt)))
end

