-- ==== Sys2Proof/Laws/State.lean ====
section
/-! SUPPORT. What each update of the state leaves alone and what it writes: one lemma per field per update. -/

namespace Sys2Proof.Machine

variable (s : State)

/-! ### A block marks a section dirty -/

@[simp] theorem markDirty_fmc (k : StatusSection) : (markDirty k s).fmc = s.fmc := rfl
@[simp] theorem markDirty_hlp (k : StatusSection) : (markDirty k s).hlp = s.hlp := rfl
@[simp] theorem markDirty_wdc (k : StatusSection) : (markDirty k s).wdc = s.wdc := rfl
@[simp] theorem markDirty_lyu (k : StatusSection) : (markDirty k s).lyu = s.lyu := rfl
@[simp] theorem markDirty_rqe (k : StatusSection) : (markDirty k s).rqe = s.rqe := rfl
@[simp] theorem markDirty_den (k : StatusSection) : (markDirty k s).den = s.den := rfl
@[simp] theorem markDirty_fsq (k : StatusSection) : (markDirty k s).fsq = s.fsq := rfl
@[simp] theorem markDirty_mnu (k : StatusSection) : (markDirty k s).mnu = s.mnu := rfl
@[simp] theorem markDirty_rvc (k : StatusSection) : (markDirty k s).rvc = s.rvc := rfl
@[simp] theorem markDirty_ccp (k : StatusSection) : (markDirty k s).ccp = s.ccp := rfl
@[simp] theorem markDirty_gdu (k : StatusSection) : (markDirty k s).gdu = s.gdu := rfl
@[simp] theorem markDirty_pdu (k : StatusSection) : (markDirty k s).pdu = s.pdu := rfl
@[simp] theorem markDirty_chu (k : StatusSection) : (markDirty k s).chu = s.chu := rfl
@[simp] theorem markDirty_aop (k : StatusSection) : (markDirty k s).aop = s.aop := rfl
@[simp] theorem markDirty_flt (k : StatusSection) : (markDirty k s).flt = s.flt := rfl
@[simp] theorem markDirty_pins (k : StatusSection) : (markDirty k s).pins = s.pins := rfl
@[simp] theorem markDirty_freeCount (k : StatusSection) : (markDirty k s).freeCount = s.freeCount := rfl
@[simp] theorem markDirty_pending (k : StatusSection) : (markDirty k s).pending = s.pending := rfl

/-! ### The grant in progress ends -/

@[simp] theorem freeFmc_hlp : (freeFmc s).hlp = s.hlp := rfl
@[simp] theorem freeFmc_wdc : (freeFmc s).wdc = s.wdc := rfl
@[simp] theorem freeFmc_lyu : (freeFmc s).lyu = s.lyu := rfl
@[simp] theorem freeFmc_stw : (freeFmc s).stw = s.stw := rfl
@[simp] theorem freeFmc_rqe : (freeFmc s).rqe = s.rqe := rfl
@[simp] theorem freeFmc_den : (freeFmc s).den = s.den := rfl
@[simp] theorem freeFmc_fsq : (freeFmc s).fsq = s.fsq := rfl
@[simp] theorem freeFmc_mnu : (freeFmc s).mnu = s.mnu := rfl
@[simp] theorem freeFmc_rvc : (freeFmc s).rvc = s.rvc := rfl
@[simp] theorem freeFmc_ccp : (freeFmc s).ccp = s.ccp := rfl
@[simp] theorem freeFmc_gdu : (freeFmc s).gdu = s.gdu := rfl
@[simp] theorem freeFmc_pdu : (freeFmc s).pdu = s.pdu := rfl
@[simp] theorem freeFmc_chu : (freeFmc s).chu = s.chu := rfl
@[simp] theorem freeFmc_aop : (freeFmc s).aop = s.aop := rfl
@[simp] theorem freeFmc_flt : (freeFmc s).flt = s.flt := rfl
@[simp] theorem freeFmc_pins : (freeFmc s).pins = s.pins := rfl
@[simp] theorem freeFmc_freeCount : (freeFmc s).freeCount = s.freeCount := rfl
@[simp] theorem freeFmc_pending : (freeFmc s).pending = s.pending := rfl

/-! ### MNU -/

@[simp] theorem setMnu_fmc (m : Mnu) : (setMnu m s).fmc = s.fmc := rfl
@[simp] theorem setMnu_hlp (m : Mnu) : (setMnu m s).hlp = s.hlp := rfl
@[simp] theorem setMnu_wdc (m : Mnu) : (setMnu m s).wdc = s.wdc := rfl
@[simp] theorem setMnu_lyu (m : Mnu) : (setMnu m s).lyu = s.lyu := rfl
@[simp] theorem setMnu_stw (m : Mnu) : (setMnu m s).stw = s.stw := rfl
@[simp] theorem setMnu_rqe (m : Mnu) : (setMnu m s).rqe = s.rqe := rfl
@[simp] theorem setMnu_den (m : Mnu) : (setMnu m s).den = s.den := rfl
@[simp] theorem setMnu_fsq (m : Mnu) : (setMnu m s).fsq = s.fsq := rfl
@[simp] theorem setMnu_rvc (m : Mnu) : (setMnu m s).rvc = s.rvc := rfl
@[simp] theorem setMnu_ccp (m : Mnu) : (setMnu m s).ccp = s.ccp := rfl
@[simp] theorem setMnu_gdu (m : Mnu) : (setMnu m s).gdu = s.gdu := rfl
@[simp] theorem setMnu_pdu (m : Mnu) : (setMnu m s).pdu = s.pdu := rfl
@[simp] theorem setMnu_chu (m : Mnu) : (setMnu m s).chu = s.chu := rfl
@[simp] theorem setMnu_aop (m : Mnu) : (setMnu m s).aop = s.aop := rfl
@[simp] theorem setMnu_flt (m : Mnu) : (setMnu m s).flt = s.flt := rfl
@[simp] theorem setMnu_pins (m : Mnu) : (setMnu m s).pins = s.pins := rfl
@[simp] theorem setMnu_freeCount (m : Mnu) : (setMnu m s).freeCount = s.freeCount := rfl
@[simp] theorem setMnu_pending (m : Mnu) : (setMnu m s).pending = s.pending := rfl

/-! ### A panel's menu state -/

@[simp] theorem setMenuPanel_fmc (p : Panel) (m : MenuPanel) : (setMenuPanel p m s).fmc = s.fmc := rfl
@[simp] theorem setMenuPanel_hlp (p : Panel) (m : MenuPanel) : (setMenuPanel p m s).hlp = s.hlp := rfl
@[simp] theorem setMenuPanel_wdc (p : Panel) (m : MenuPanel) : (setMenuPanel p m s).wdc = s.wdc := rfl
@[simp] theorem setMenuPanel_lyu (p : Panel) (m : MenuPanel) : (setMenuPanel p m s).lyu = s.lyu := rfl
@[simp] theorem setMenuPanel_stw (p : Panel) (m : MenuPanel) : (setMenuPanel p m s).stw = s.stw := rfl
@[simp] theorem setMenuPanel_rqe (p : Panel) (m : MenuPanel) : (setMenuPanel p m s).rqe = s.rqe := rfl
@[simp] theorem setMenuPanel_den (p : Panel) (m : MenuPanel) : (setMenuPanel p m s).den = s.den := rfl
@[simp] theorem setMenuPanel_fsq (p : Panel) (m : MenuPanel) : (setMenuPanel p m s).fsq = s.fsq := rfl
@[simp] theorem setMenuPanel_rvc (p : Panel) (m : MenuPanel) : (setMenuPanel p m s).rvc = s.rvc := rfl
@[simp] theorem setMenuPanel_ccp (p : Panel) (m : MenuPanel) : (setMenuPanel p m s).ccp = s.ccp := rfl
@[simp] theorem setMenuPanel_gdu (p : Panel) (m : MenuPanel) : (setMenuPanel p m s).gdu = s.gdu := rfl
@[simp] theorem setMenuPanel_pdu (p : Panel) (m : MenuPanel) : (setMenuPanel p m s).pdu = s.pdu := rfl
@[simp] theorem setMenuPanel_chu (p : Panel) (m : MenuPanel) : (setMenuPanel p m s).chu = s.chu := rfl
@[simp] theorem setMenuPanel_aop (p : Panel) (m : MenuPanel) : (setMenuPanel p m s).aop = s.aop := rfl
@[simp] theorem setMenuPanel_flt (p : Panel) (m : MenuPanel) : (setMenuPanel p m s).flt = s.flt := rfl
@[simp] theorem setMenuPanel_pins (p : Panel) (m : MenuPanel) : (setMenuPanel p m s).pins = s.pins := rfl
@[simp] theorem setMenuPanel_freeCount (p : Panel) (m : MenuPanel) : (setMenuPanel p m s).freeCount = s.freeCount := rfl
@[simp] theorem setMenuPanel_pending (p : Panel) (m : MenuPanel) : (setMenuPanel p m s).pending = s.pending := rfl

/-! ### LYU -/

@[simp] theorem setLyu_fmc (l : Lyu) : (setLyu l s).fmc = s.fmc := rfl
@[simp] theorem setLyu_hlp (l : Lyu) : (setLyu l s).hlp = s.hlp := rfl
@[simp] theorem setLyu_wdc (l : Lyu) : (setLyu l s).wdc = s.wdc := rfl
@[simp] theorem setLyu_stw (l : Lyu) : (setLyu l s).stw = s.stw := rfl
@[simp] theorem setLyu_rqe (l : Lyu) : (setLyu l s).rqe = s.rqe := rfl
@[simp] theorem setLyu_den (l : Lyu) : (setLyu l s).den = s.den := rfl
@[simp] theorem setLyu_fsq (l : Lyu) : (setLyu l s).fsq = s.fsq := rfl
@[simp] theorem setLyu_mnu (l : Lyu) : (setLyu l s).mnu = s.mnu := rfl
@[simp] theorem setLyu_rvc (l : Lyu) : (setLyu l s).rvc = s.rvc := rfl
@[simp] theorem setLyu_ccp (l : Lyu) : (setLyu l s).ccp = s.ccp := rfl
@[simp] theorem setLyu_gdu (l : Lyu) : (setLyu l s).gdu = s.gdu := rfl
@[simp] theorem setLyu_pdu (l : Lyu) : (setLyu l s).pdu = s.pdu := rfl
@[simp] theorem setLyu_chu (l : Lyu) : (setLyu l s).chu = s.chu := rfl
@[simp] theorem setLyu_aop (l : Lyu) : (setLyu l s).aop = s.aop := rfl
@[simp] theorem setLyu_flt (l : Lyu) : (setLyu l s).flt = s.flt := rfl
@[simp] theorem setLyu_pins (l : Lyu) : (setLyu l s).pins = s.pins := rfl
@[simp] theorem setLyu_freeCount (l : Lyu) : (setLyu l s).freeCount = s.freeCount := rfl
@[simp] theorem setLyu_pending (l : Lyu) : (setLyu l s).pending = s.pending := rfl

/-! ### CCP -/

@[simp] theorem setCcp_fmc (c : Ccp) : (setCcp c s).fmc = s.fmc := rfl
@[simp] theorem setCcp_hlp (c : Ccp) : (setCcp c s).hlp = s.hlp := rfl
@[simp] theorem setCcp_wdc (c : Ccp) : (setCcp c s).wdc = s.wdc := rfl
@[simp] theorem setCcp_lyu (c : Ccp) : (setCcp c s).lyu = s.lyu := rfl
@[simp] theorem setCcp_stw (c : Ccp) : (setCcp c s).stw = s.stw := rfl
@[simp] theorem setCcp_rqe (c : Ccp) : (setCcp c s).rqe = s.rqe := rfl
@[simp] theorem setCcp_den (c : Ccp) : (setCcp c s).den = s.den := rfl
@[simp] theorem setCcp_fsq (c : Ccp) : (setCcp c s).fsq = s.fsq := rfl
@[simp] theorem setCcp_mnu (c : Ccp) : (setCcp c s).mnu = s.mnu := rfl
@[simp] theorem setCcp_rvc (c : Ccp) : (setCcp c s).rvc = s.rvc := rfl
@[simp] theorem setCcp_gdu (c : Ccp) : (setCcp c s).gdu = s.gdu := rfl
@[simp] theorem setCcp_pdu (c : Ccp) : (setCcp c s).pdu = s.pdu := rfl
@[simp] theorem setCcp_chu (c : Ccp) : (setCcp c s).chu = s.chu := rfl
@[simp] theorem setCcp_aop (c : Ccp) : (setCcp c s).aop = s.aop := rfl
@[simp] theorem setCcp_flt (c : Ccp) : (setCcp c s).flt = s.flt := rfl
@[simp] theorem setCcp_pins (c : Ccp) : (setCcp c s).pins = s.pins := rfl
@[simp] theorem setCcp_freeCount (c : Ccp) : (setCcp c s).freeCount = s.freeCount := rfl
@[simp] theorem setCcp_pending (c : Ccp) : (setCcp c s).pending = s.pending := rfl

/-! ### RQE -/

@[simp] theorem setRqe_fmc (r : Rqe) : (setRqe r s).fmc = s.fmc := rfl
@[simp] theorem setRqe_hlp (r : Rqe) : (setRqe r s).hlp = s.hlp := rfl
@[simp] theorem setRqe_wdc (r : Rqe) : (setRqe r s).wdc = s.wdc := rfl
@[simp] theorem setRqe_lyu (r : Rqe) : (setRqe r s).lyu = s.lyu := rfl
@[simp] theorem setRqe_stw (r : Rqe) : (setRqe r s).stw = s.stw := rfl
@[simp] theorem setRqe_den (r : Rqe) : (setRqe r s).den = s.den := rfl
@[simp] theorem setRqe_fsq (r : Rqe) : (setRqe r s).fsq = s.fsq := rfl
@[simp] theorem setRqe_mnu (r : Rqe) : (setRqe r s).mnu = s.mnu := rfl
@[simp] theorem setRqe_rvc (r : Rqe) : (setRqe r s).rvc = s.rvc := rfl
@[simp] theorem setRqe_ccp (r : Rqe) : (setRqe r s).ccp = s.ccp := rfl
@[simp] theorem setRqe_gdu (r : Rqe) : (setRqe r s).gdu = s.gdu := rfl
@[simp] theorem setRqe_pdu (r : Rqe) : (setRqe r s).pdu = s.pdu := rfl
@[simp] theorem setRqe_chu (r : Rqe) : (setRqe r s).chu = s.chu := rfl
@[simp] theorem setRqe_aop (r : Rqe) : (setRqe r s).aop = s.aop := rfl
@[simp] theorem setRqe_flt (r : Rqe) : (setRqe r s).flt = s.flt := rfl
@[simp] theorem setRqe_pins (r : Rqe) : (setRqe r s).pins = s.pins := rfl
@[simp] theorem setRqe_freeCount (r : Rqe) : (setRqe r s).freeCount = s.freeCount := rfl
@[simp] theorem setRqe_pending (r : Rqe) : (setRqe r s).pending = s.pending := rfl

/-! ### A display engine -/

@[simp] theorem setEngine_fmc (p : Panel) (d : Den) : (setEngine p d s).fmc = s.fmc := rfl
@[simp] theorem setEngine_hlp (p : Panel) (d : Den) : (setEngine p d s).hlp = s.hlp := rfl
@[simp] theorem setEngine_wdc (p : Panel) (d : Den) : (setEngine p d s).wdc = s.wdc := rfl
@[simp] theorem setEngine_lyu (p : Panel) (d : Den) : (setEngine p d s).lyu = s.lyu := rfl
@[simp] theorem setEngine_stw (p : Panel) (d : Den) : (setEngine p d s).stw = s.stw := rfl
@[simp] theorem setEngine_rqe (p : Panel) (d : Den) : (setEngine p d s).rqe = s.rqe := rfl
@[simp] theorem setEngine_fsq (p : Panel) (d : Den) : (setEngine p d s).fsq = s.fsq := rfl
@[simp] theorem setEngine_mnu (p : Panel) (d : Den) : (setEngine p d s).mnu = s.mnu := rfl
@[simp] theorem setEngine_rvc (p : Panel) (d : Den) : (setEngine p d s).rvc = s.rvc := rfl
@[simp] theorem setEngine_ccp (p : Panel) (d : Den) : (setEngine p d s).ccp = s.ccp := rfl
@[simp] theorem setEngine_gdu (p : Panel) (d : Den) : (setEngine p d s).gdu = s.gdu := rfl
@[simp] theorem setEngine_pdu (p : Panel) (d : Den) : (setEngine p d s).pdu = s.pdu := rfl
@[simp] theorem setEngine_chu (p : Panel) (d : Den) : (setEngine p d s).chu = s.chu := rfl
@[simp] theorem setEngine_aop (p : Panel) (d : Den) : (setEngine p d s).aop = s.aop := rfl
@[simp] theorem setEngine_flt (p : Panel) (d : Den) : (setEngine p d s).flt = s.flt := rfl
@[simp] theorem setEngine_pins (p : Panel) (d : Den) : (setEngine p d s).pins = s.pins := rfl
@[simp] theorem setEngine_freeCount (p : Panel) (d : Den) : (setEngine p d s).freeCount = s.freeCount := rfl
@[simp] theorem setEngine_pending (p : Panel) (d : Den) : (setEngine p d s).pending = s.pending := rfl

/-! ### RVC -/

@[simp] theorem setRvc_fmc (r : Rvc) : (setRvc r s).fmc = s.fmc := by unfold setRvc; split <;> rfl
@[simp] theorem setRvc_hlp (r : Rvc) : (setRvc r s).hlp = s.hlp := by unfold setRvc; split <;> rfl
@[simp] theorem setRvc_wdc (r : Rvc) : (setRvc r s).wdc = s.wdc := by unfold setRvc; split <;> rfl
@[simp] theorem setRvc_lyu (r : Rvc) : (setRvc r s).lyu = s.lyu := by unfold setRvc; split <;> rfl
@[simp] theorem setRvc_rqe (r : Rvc) : (setRvc r s).rqe = s.rqe := by unfold setRvc; split <;> rfl
@[simp] theorem setRvc_den (r : Rvc) : (setRvc r s).den = s.den := by unfold setRvc; split <;> rfl
@[simp] theorem setRvc_fsq (r : Rvc) : (setRvc r s).fsq = s.fsq := by unfold setRvc; split <;> rfl
@[simp] theorem setRvc_mnu (r : Rvc) : (setRvc r s).mnu = s.mnu := by unfold setRvc; split <;> rfl
@[simp] theorem setRvc_ccp (r : Rvc) : (setRvc r s).ccp = s.ccp := by unfold setRvc; split <;> rfl
@[simp] theorem setRvc_gdu (r : Rvc) : (setRvc r s).gdu = s.gdu := by unfold setRvc; split <;> rfl
@[simp] theorem setRvc_pdu (r : Rvc) : (setRvc r s).pdu = s.pdu := by unfold setRvc; split <;> rfl
@[simp] theorem setRvc_chu (r : Rvc) : (setRvc r s).chu = s.chu := by unfold setRvc; split <;> rfl
@[simp] theorem setRvc_aop (r : Rvc) : (setRvc r s).aop = s.aop := by unfold setRvc; split <;> rfl
@[simp] theorem setRvc_flt (r : Rvc) : (setRvc r s).flt = s.flt := by unfold setRvc; split <;> rfl
@[simp] theorem setRvc_pins (r : Rvc) : (setRvc r s).pins = s.pins := by unfold setRvc; split <;> rfl
@[simp] theorem setRvc_freeCount (r : Rvc) : (setRvc r s).freeCount = s.freeCount := by unfold setRvc; split <;> rfl
@[simp] theorem setRvc_pending (r : Rvc) : (setRvc r s).pending = s.pending := by unfold setRvc; split <;> rfl

@[simp] theorem freeFmc_fmc_cells : (freeFmc s).fmc.cells = s.fmc.cells := rfl
@[simp] theorem freeFmc_fmc_marks : (freeFmc s).fmc.marks = s.fmc.marks := rfl
@[simp] theorem freeFmc_fmc_busy : (freeFmc s).fmc.busy = none := rfl
@[simp] theorem setMnu_mnu (m : Mnu) : (setMnu m s).mnu = m := rfl
@[simp] theorem setLyu_lyu (l : Lyu) : (setLyu l s).lyu = l := rfl
@[simp] theorem setCcp_ccp (c : Ccp) : (setCcp c s).ccp = c := rfl
@[simp] theorem setRqe_rqe (r : Rqe) : (setRqe r s).rqe = r := rfl
@[simp] theorem setRvc_rvc (r : Rvc) : (setRvc r s).rvc = r := by unfold setRvc; split <;> rfl
@[simp] theorem setMenuPanel_request (p : Panel) (m : MenuPanel) : (setMenuPanel p m s).mnu.request = s.mnu.request := rfl
@[simp] theorem setMenuPanel_fetch (p : Panel) (m : MenuPanel) : (setMenuPanel p m s).mnu.fetch = s.mnu.fetch := rfl
@[simp] theorem setMenuPanel_claim (p : Panel) (m : MenuPanel) : (setMenuPanel p m s).mnu.claim = s.mnu.claim := rfl

/-! ### The attention cause set -/

@[simp] theorem setCauses_fmc (set : BitVec 6) : (setCauses set s).fmc = s.fmc := by unfold setCauses; split <;> rfl
@[simp] theorem setCauses_hlp (set : BitVec 6) : (setCauses set s).hlp = s.hlp := by unfold setCauses; split <;> rfl
@[simp] theorem setCauses_wdc (set : BitVec 6) : (setCauses set s).wdc = s.wdc := by unfold setCauses; split <;> rfl
@[simp] theorem setCauses_lyu (set : BitVec 6) : (setCauses set s).lyu = s.lyu := by unfold setCauses; split <;> rfl
@[simp] theorem setCauses_rqe (set : BitVec 6) : (setCauses set s).rqe = s.rqe := by unfold setCauses; split <;> rfl
@[simp] theorem setCauses_den (set : BitVec 6) : (setCauses set s).den = s.den := by unfold setCauses; split <;> rfl
@[simp] theorem setCauses_fsq (set : BitVec 6) : (setCauses set s).fsq = s.fsq := by unfold setCauses; split <;> rfl
@[simp] theorem setCauses_mnu (set : BitVec 6) : (setCauses set s).mnu = s.mnu := by unfold setCauses; split <;> rfl
@[simp] theorem setCauses_rvc (set : BitVec 6) : (setCauses set s).rvc = s.rvc := by unfold setCauses; split <;> rfl
@[simp] theorem setCauses_ccp (set : BitVec 6) : (setCauses set s).ccp = s.ccp := by unfold setCauses; split <;> rfl
@[simp] theorem setCauses_gdu (set : BitVec 6) : (setCauses set s).gdu = s.gdu := by unfold setCauses; split <;> rfl
@[simp] theorem setCauses_pdu (set : BitVec 6) : (setCauses set s).pdu = s.pdu := by unfold setCauses; split <;> rfl
@[simp] theorem setCauses_chu (set : BitVec 6) : (setCauses set s).chu = s.chu := by unfold setCauses; split <;> rfl
@[simp] theorem setCauses_aop (set : BitVec 6) : (setCauses set s).aop = s.aop := by unfold setCauses; split <;> rfl
@[simp] theorem setCauses_pins (set : BitVec 6) : (setCauses set s).pins = s.pins := by unfold setCauses; split <;> rfl
@[simp] theorem setCauses_freeCount (set : BitVec 6) : (setCauses set s).freeCount = s.freeCount := by unfold setCauses; split <;> rfl
@[simp] theorem setCauses_pending (set : BitVec 6) : (setCauses set s).pending = s.pending := by unfold setCauses; split <;> rfl

/-! ### A cause is raised -/

@[simp] theorem raiseCause_fmc (c : Cause) : (raiseCause c s).fmc = s.fmc := by simp [raiseCause]
@[simp] theorem raiseCause_hlp (c : Cause) : (raiseCause c s).hlp = s.hlp := by simp [raiseCause]
@[simp] theorem raiseCause_wdc (c : Cause) : (raiseCause c s).wdc = s.wdc := by simp [raiseCause]
@[simp] theorem raiseCause_lyu (c : Cause) : (raiseCause c s).lyu = s.lyu := by simp [raiseCause]
@[simp] theorem raiseCause_rqe (c : Cause) : (raiseCause c s).rqe = s.rqe := by simp [raiseCause]
@[simp] theorem raiseCause_den (c : Cause) : (raiseCause c s).den = s.den := by simp [raiseCause]
@[simp] theorem raiseCause_fsq (c : Cause) : (raiseCause c s).fsq = s.fsq := by simp [raiseCause]
@[simp] theorem raiseCause_mnu (c : Cause) : (raiseCause c s).mnu = s.mnu := by simp [raiseCause]
@[simp] theorem raiseCause_rvc (c : Cause) : (raiseCause c s).rvc = s.rvc := by simp [raiseCause]
@[simp] theorem raiseCause_ccp (c : Cause) : (raiseCause c s).ccp = s.ccp := by simp [raiseCause]
@[simp] theorem raiseCause_gdu (c : Cause) : (raiseCause c s).gdu = s.gdu := by simp [raiseCause]
@[simp] theorem raiseCause_pdu (c : Cause) : (raiseCause c s).pdu = s.pdu := by simp [raiseCause]
@[simp] theorem raiseCause_chu (c : Cause) : (raiseCause c s).chu = s.chu := by simp [raiseCause]
@[simp] theorem raiseCause_aop (c : Cause) : (raiseCause c s).aop = s.aop := by simp [raiseCause]
@[simp] theorem raiseCause_pins (c : Cause) : (raiseCause c s).pins = s.pins := by simp [raiseCause]
@[simp] theorem raiseCause_freeCount (c : Cause) : (raiseCause c s).freeCount = s.freeCount := by simp [raiseCause]
@[simp] theorem raiseCause_pending (c : Cause) : (raiseCause c s).pending = s.pending := by simp [raiseCause]

/-! ### CHU -/

@[simp] theorem setChu_fmc (c : Chu) : (setChu c s).fmc = s.fmc := by unfold setChu; split <;> rfl
@[simp] theorem setChu_hlp (c : Chu) : (setChu c s).hlp = s.hlp := by unfold setChu; split <;> rfl
@[simp] theorem setChu_wdc (c : Chu) : (setChu c s).wdc = s.wdc := by unfold setChu; split <;> rfl
@[simp] theorem setChu_lyu (c : Chu) : (setChu c s).lyu = s.lyu := by unfold setChu; split <;> rfl
@[simp] theorem setChu_rqe (c : Chu) : (setChu c s).rqe = s.rqe := by unfold setChu; split <;> rfl
@[simp] theorem setChu_den (c : Chu) : (setChu c s).den = s.den := by unfold setChu; split <;> rfl
@[simp] theorem setChu_fsq (c : Chu) : (setChu c s).fsq = s.fsq := by unfold setChu; split <;> rfl
@[simp] theorem setChu_mnu (c : Chu) : (setChu c s).mnu = s.mnu := by unfold setChu; split <;> rfl
@[simp] theorem setChu_rvc (c : Chu) : (setChu c s).rvc = s.rvc := by unfold setChu; split <;> rfl
@[simp] theorem setChu_ccp (c : Chu) : (setChu c s).ccp = s.ccp := by unfold setChu; split <;> rfl
@[simp] theorem setChu_gdu (c : Chu) : (setChu c s).gdu = s.gdu := by unfold setChu; split <;> rfl
@[simp] theorem setChu_pdu (c : Chu) : (setChu c s).pdu = s.pdu := by unfold setChu; split <;> rfl
@[simp] theorem setChu_aop (c : Chu) : (setChu c s).aop = s.aop := by unfold setChu; split <;> rfl
@[simp] theorem setChu_flt (c : Chu) : (setChu c s).flt = s.flt := by unfold setChu; split <;> rfl
@[simp] theorem setChu_pins (c : Chu) : (setChu c s).pins = s.pins := by unfold setChu; split <;> rfl
@[simp] theorem setChu_freeCount (c : Chu) : (setChu c s).freeCount = s.freeCount := by unfold setChu; split <;> rfl
@[simp] theorem setChu_pending (c : Chu) : (setChu c s).pending = s.pending := by unfold setChu; split <;> rfl

/-! ### CHU settles -/

@[simp] theorem settleChu_fmc (c : Chu) : (settleChu c s).fmc = s.fmc := by simp [settleChu]
@[simp] theorem settleChu_hlp (c : Chu) : (settleChu c s).hlp = s.hlp := by simp [settleChu]
@[simp] theorem settleChu_wdc (c : Chu) : (settleChu c s).wdc = s.wdc := by simp [settleChu]
@[simp] theorem settleChu_lyu (c : Chu) : (settleChu c s).lyu = s.lyu := by simp [settleChu]
@[simp] theorem settleChu_rqe (c : Chu) : (settleChu c s).rqe = s.rqe := by simp [settleChu]
@[simp] theorem settleChu_den (c : Chu) : (settleChu c s).den = s.den := by simp [settleChu]
@[simp] theorem settleChu_fsq (c : Chu) : (settleChu c s).fsq = s.fsq := by simp [settleChu]
@[simp] theorem settleChu_mnu (c : Chu) : (settleChu c s).mnu = s.mnu := by simp [settleChu]
@[simp] theorem settleChu_rvc (c : Chu) : (settleChu c s).rvc = s.rvc := by simp [settleChu]
@[simp] theorem settleChu_ccp (c : Chu) : (settleChu c s).ccp = s.ccp := by simp [settleChu]
@[simp] theorem settleChu_gdu (c : Chu) : (settleChu c s).gdu = s.gdu := by simp [settleChu]
@[simp] theorem settleChu_pdu (c : Chu) : (settleChu c s).pdu = s.pdu := by simp [settleChu]
@[simp] theorem settleChu_aop (c : Chu) : (settleChu c s).aop = s.aop := by simp [settleChu]
@[simp] theorem settleChu_flt (c : Chu) : (settleChu c s).flt = s.flt := by simp [settleChu]
@[simp] theorem settleChu_pins (c : Chu) : (settleChu c s).pins = s.pins := by simp [settleChu]
@[simp] theorem settleChu_freeCount (c : Chu) : (settleChu c s).freeCount = s.freeCount := by simp [settleChu]
@[simp] theorem settleChu_pending (c : Chu) : (settleChu c s).pending = s.pending := by simp [settleChu]

/-! ### A channel record -/

@[simp] theorem setChannel_fmc (x : Channel) (r : FilmChannel) : (setChannel x r s).fmc = s.fmc := by unfold setChannel; split <;> rfl
@[simp] theorem setChannel_hlp (x : Channel) (r : FilmChannel) : (setChannel x r s).hlp = s.hlp := by unfold setChannel; split <;> rfl
@[simp] theorem setChannel_wdc (x : Channel) (r : FilmChannel) : (setChannel x r s).wdc = s.wdc := by unfold setChannel; split <;> rfl
@[simp] theorem setChannel_lyu (x : Channel) (r : FilmChannel) : (setChannel x r s).lyu = s.lyu := by unfold setChannel; split <;> rfl
@[simp] theorem setChannel_rqe (x : Channel) (r : FilmChannel) : (setChannel x r s).rqe = s.rqe := by unfold setChannel; split <;> rfl
@[simp] theorem setChannel_den (x : Channel) (r : FilmChannel) : (setChannel x r s).den = s.den := by unfold setChannel; split <;> rfl
@[simp] theorem setChannel_mnu (x : Channel) (r : FilmChannel) : (setChannel x r s).mnu = s.mnu := by unfold setChannel; split <;> rfl
@[simp] theorem setChannel_rvc (x : Channel) (r : FilmChannel) : (setChannel x r s).rvc = s.rvc := by unfold setChannel; split <;> rfl
@[simp] theorem setChannel_ccp (x : Channel) (r : FilmChannel) : (setChannel x r s).ccp = s.ccp := by unfold setChannel; split <;> rfl
@[simp] theorem setChannel_gdu (x : Channel) (r : FilmChannel) : (setChannel x r s).gdu = s.gdu := by unfold setChannel; split <;> rfl
@[simp] theorem setChannel_pdu (x : Channel) (r : FilmChannel) : (setChannel x r s).pdu = s.pdu := by unfold setChannel; split <;> rfl
@[simp] theorem setChannel_chu (x : Channel) (r : FilmChannel) : (setChannel x r s).chu = s.chu := by unfold setChannel; split <;> rfl
@[simp] theorem setChannel_aop (x : Channel) (r : FilmChannel) : (setChannel x r s).aop = s.aop := by unfold setChannel; split <;> rfl
@[simp] theorem setChannel_flt (x : Channel) (r : FilmChannel) : (setChannel x r s).flt = s.flt := by unfold setChannel; split <;> rfl
@[simp] theorem setChannel_pins (x : Channel) (r : FilmChannel) : (setChannel x r s).pins = s.pins := by unfold setChannel; split <;> rfl
@[simp] theorem setChannel_freeCount (x : Channel) (r : FilmChannel) : (setChannel x r s).freeCount = s.freeCount := by unfold setChannel; split <;> rfl
@[simp] theorem setChannel_pending (x : Channel) (r : FilmChannel) : (setChannel x r s).pending = s.pending := by unfold setChannel; split <;> rfl

/-! ### GDU and its bank notice -/

@[simp] theorem setGdu_fmc (g : Gdu) : (setGdu g s).fmc = s.fmc := by unfold setGdu; split <;> rfl
@[simp] theorem setGdu_hlp (g : Gdu) : (setGdu g s).hlp = s.hlp := by unfold setGdu; split <;> rfl
@[simp] theorem setGdu_lyu (g : Gdu) : (setGdu g s).lyu = s.lyu := by unfold setGdu; split <;> rfl
@[simp] theorem setGdu_rqe (g : Gdu) : (setGdu g s).rqe = s.rqe := by unfold setGdu; split <;> rfl
@[simp] theorem setGdu_den (g : Gdu) : (setGdu g s).den = s.den := by unfold setGdu; split <;> rfl
@[simp] theorem setGdu_fsq (g : Gdu) : (setGdu g s).fsq = s.fsq := by unfold setGdu; split <;> rfl
@[simp] theorem setGdu_mnu (g : Gdu) : (setGdu g s).mnu = s.mnu := by unfold setGdu; split <;> rfl
@[simp] theorem setGdu_rvc (g : Gdu) : (setGdu g s).rvc = s.rvc := by unfold setGdu; split <;> rfl
@[simp] theorem setGdu_ccp (g : Gdu) : (setGdu g s).ccp = s.ccp := by unfold setGdu; split <;> rfl
@[simp] theorem setGdu_pdu (g : Gdu) : (setGdu g s).pdu = s.pdu := by unfold setGdu; split <;> rfl
@[simp] theorem setGdu_chu (g : Gdu) : (setGdu g s).chu = s.chu := by unfold setGdu; split <;> rfl
@[simp] theorem setGdu_aop (g : Gdu) : (setGdu g s).aop = s.aop := by unfold setGdu; split <;> rfl
@[simp] theorem setGdu_flt (g : Gdu) : (setGdu g s).flt = s.flt := by unfold setGdu; split <;> rfl
@[simp] theorem setGdu_pins (g : Gdu) : (setGdu g s).pins = s.pins := by unfold setGdu; split <;> rfl
@[simp] theorem setGdu_freeCount (g : Gdu) : (setGdu g s).freeCount = s.freeCount := by unfold setGdu; split <;> rfl
@[simp] theorem setGdu_pending (g : Gdu) : (setGdu g s).pending = s.pending := by unfold setGdu; split <;> rfl

/-! ### AOP -/

@[simp] theorem setAop_fmc (o : Aop) : (setAop o s).fmc = s.fmc := by unfold setAop; split <;> rfl
@[simp] theorem setAop_hlp (o : Aop) : (setAop o s).hlp = s.hlp := by unfold setAop; split <;> rfl
@[simp] theorem setAop_wdc (o : Aop) : (setAop o s).wdc = s.wdc := by unfold setAop; split <;> rfl
@[simp] theorem setAop_lyu (o : Aop) : (setAop o s).lyu = s.lyu := by unfold setAop; split <;> rfl
@[simp] theorem setAop_rqe (o : Aop) : (setAop o s).rqe = s.rqe := by unfold setAop; split <;> rfl
@[simp] theorem setAop_den (o : Aop) : (setAop o s).den = s.den := by unfold setAop; split <;> rfl
@[simp] theorem setAop_fsq (o : Aop) : (setAop o s).fsq = s.fsq := by unfold setAop; split <;> rfl
@[simp] theorem setAop_mnu (o : Aop) : (setAop o s).mnu = s.mnu := by unfold setAop; split <;> rfl
@[simp] theorem setAop_rvc (o : Aop) : (setAop o s).rvc = s.rvc := by unfold setAop; split <;> rfl
@[simp] theorem setAop_ccp (o : Aop) : (setAop o s).ccp = s.ccp := by unfold setAop; split <;> rfl
@[simp] theorem setAop_gdu (o : Aop) : (setAop o s).gdu = s.gdu := by unfold setAop; split <;> rfl
@[simp] theorem setAop_pdu (o : Aop) : (setAop o s).pdu = s.pdu := by unfold setAop; split <;> rfl
@[simp] theorem setAop_chu (o : Aop) : (setAop o s).chu = s.chu := by unfold setAop; split <;> rfl
@[simp] theorem setAop_flt (o : Aop) : (setAop o s).flt = s.flt := by unfold setAop; split <;> rfl
@[simp] theorem setAop_pins (o : Aop) : (setAop o s).pins = s.pins := by unfold setAop; split <;> rfl
@[simp] theorem setAop_freeCount (o : Aop) : (setAop o s).freeCount = s.freeCount := by unfold setAop; split <;> rfl
@[simp] theorem setAop_pending (o : Aop) : (setAop o s).pending = s.pending := by unfold setAop; split <;> rfl

/-! ### A result is given -/

@[simp] theorem giveResult_fmc (code : ResultCode) : (giveResult code s).fmc = s.fmc := by unfold giveResult; split <;> rfl
@[simp] theorem giveResult_hlp (code : ResultCode) : (giveResult code s).hlp = s.hlp := by unfold giveResult; split <;> rfl
@[simp] theorem giveResult_wdc (code : ResultCode) : (giveResult code s).wdc = s.wdc := by unfold giveResult; split <;> rfl
@[simp] theorem giveResult_lyu (code : ResultCode) : (giveResult code s).lyu = s.lyu := by unfold giveResult; split <;> rfl
@[simp] theorem giveResult_den (code : ResultCode) : (giveResult code s).den = s.den := by unfold giveResult; split <;> rfl
@[simp] theorem giveResult_fsq (code : ResultCode) : (giveResult code s).fsq = s.fsq := by unfold giveResult; split <;> rfl
@[simp] theorem giveResult_mnu (code : ResultCode) : (giveResult code s).mnu = s.mnu := by unfold giveResult; split <;> rfl
@[simp] theorem giveResult_rvc (code : ResultCode) : (giveResult code s).rvc = s.rvc := by unfold giveResult; split <;> rfl
@[simp] theorem giveResult_ccp (code : ResultCode) : (giveResult code s).ccp = s.ccp := by unfold giveResult; split <;> rfl
@[simp] theorem giveResult_gdu (code : ResultCode) : (giveResult code s).gdu = s.gdu := by unfold giveResult; split <;> rfl
@[simp] theorem giveResult_pdu (code : ResultCode) : (giveResult code s).pdu = s.pdu := by unfold giveResult; split <;> rfl
@[simp] theorem giveResult_chu (code : ResultCode) : (giveResult code s).chu = s.chu := by unfold giveResult; split <;> rfl
@[simp] theorem giveResult_aop (code : ResultCode) : (giveResult code s).aop = s.aop := by unfold giveResult; split <;> rfl
@[simp] theorem giveResult_flt (code : ResultCode) : (giveResult code s).flt = s.flt := by unfold giveResult; split <;> rfl
@[simp] theorem giveResult_pins (code : ResultCode) : (giveResult code s).pins = s.pins := by unfold giveResult; split <;> rfl
@[simp] theorem giveResult_freeCount (code : ResultCode) : (giveResult code s).freeCount = s.freeCount := by unfold giveResult; split <;> rfl
@[simp] theorem giveResult_pending (code : ResultCode) : (giveResult code s).pending = s.pending := by unfold giveResult; split <;> rfl

@[simp] theorem setChu_chu (c : Chu) : (setChu c s).chu = c := by unfold setChu; split <;> rfl
@[simp] theorem settleChu_chu (c : Chu) : (settleChu c s).chu = c.voiceTake.kick (chimeStore s) := by simp [settleChu]
@[simp] theorem setGdu_gdu (g : Gdu) : (setGdu g s).gdu = g := by unfold setGdu; split <;> rfl
@[simp] theorem setGdu_wdc (g : Gdu) : (setGdu g s).wdc = { s.wdc with liveBank := g.liveBank, stagedBank := g.stagedBank } := by
  unfold setGdu; split <;> rfl
@[simp] theorem setAop_aop (o : Aop) : (setAop o s).aop = o := by unfold setAop; split <;> rfl
@[simp] theorem setCauses_flt (set : BitVec 6) : (setCauses set s).flt = { s.flt with causes := set } := by
  unfold setCauses
  split
  · next h => rw [← h]
  · rfl
@[simp] theorem raiseCause_flt (c : Cause) : (raiseCause c s).flt = { s.flt with causes := causeJoin s.flt.causes c } := by
  simp [raiseCause]

/-! ### A chime event -/

@[simp] theorem chimeEvent_fmc (e : ChimeEvent) : (chimeEvent e s).fmc = s.fmc := by
  unfold chimeEvent; repeat' split
  all_goals simp
@[simp] theorem chimeEvent_hlp (e : ChimeEvent) : (chimeEvent e s).hlp = s.hlp := by
  unfold chimeEvent; repeat' split
  all_goals simp
@[simp] theorem chimeEvent_wdc (e : ChimeEvent) : (chimeEvent e s).wdc = s.wdc := by
  unfold chimeEvent; repeat' split
  all_goals simp
@[simp] theorem chimeEvent_lyu (e : ChimeEvent) : (chimeEvent e s).lyu = s.lyu := by
  unfold chimeEvent; repeat' split
  all_goals simp
@[simp] theorem chimeEvent_rqe (e : ChimeEvent) : (chimeEvent e s).rqe = s.rqe := by
  unfold chimeEvent; repeat' split
  all_goals simp
@[simp] theorem chimeEvent_den (e : ChimeEvent) : (chimeEvent e s).den = s.den := by
  unfold chimeEvent; repeat' split
  all_goals simp
@[simp] theorem chimeEvent_fsq (e : ChimeEvent) : (chimeEvent e s).fsq = s.fsq := by
  unfold chimeEvent; repeat' split
  all_goals simp
@[simp] theorem chimeEvent_mnu (e : ChimeEvent) : (chimeEvent e s).mnu = s.mnu := by
  unfold chimeEvent; repeat' split
  all_goals simp
@[simp] theorem chimeEvent_rvc (e : ChimeEvent) : (chimeEvent e s).rvc = s.rvc := by
  unfold chimeEvent; repeat' split
  all_goals simp
@[simp] theorem chimeEvent_ccp (e : ChimeEvent) : (chimeEvent e s).ccp = s.ccp := by
  unfold chimeEvent; repeat' split
  all_goals simp
@[simp] theorem chimeEvent_gdu (e : ChimeEvent) : (chimeEvent e s).gdu = s.gdu := by
  unfold chimeEvent; repeat' split
  all_goals simp
@[simp] theorem chimeEvent_pdu (e : ChimeEvent) : (chimeEvent e s).pdu = s.pdu := by
  unfold chimeEvent; repeat' split
  all_goals simp
@[simp] theorem chimeEvent_aop (e : ChimeEvent) : (chimeEvent e s).aop = s.aop := by
  unfold chimeEvent; repeat' split
  all_goals simp
@[simp] theorem chimeEvent_flt (e : ChimeEvent) : (chimeEvent e s).flt = s.flt := by
  unfold chimeEvent; repeat' split
  all_goals simp
@[simp] theorem chimeEvent_pins (e : ChimeEvent) : (chimeEvent e s).pins = s.pins := by
  unfold chimeEvent; repeat' split
  all_goals simp
@[simp] theorem chimeEvent_freeCount (e : ChimeEvent) : (chimeEvent e s).freeCount = s.freeCount := by
  unfold chimeEvent; repeat' split
  all_goals simp
@[simp] theorem chimeEvent_pending (e : ChimeEvent) : (chimeEvent e s).pending = s.pending := by
  unfold chimeEvent; repeat' split
  all_goals simp

/-! ### A cadence notice -/

@[simp] theorem cadenceNotice_fmc (n : CadenceNotice) : (cadenceNotice n s).fmc = s.fmc := by unfold cadenceNotice; split <;> simp
@[simp] theorem cadenceNotice_hlp (n : CadenceNotice) : (cadenceNotice n s).hlp = s.hlp := by unfold cadenceNotice; split <;> simp
@[simp] theorem cadenceNotice_wdc (n : CadenceNotice) : (cadenceNotice n s).wdc = s.wdc := by unfold cadenceNotice; split <;> simp
@[simp] theorem cadenceNotice_lyu (n : CadenceNotice) : (cadenceNotice n s).lyu = s.lyu := by unfold cadenceNotice; split <;> simp
@[simp] theorem cadenceNotice_rqe (n : CadenceNotice) : (cadenceNotice n s).rqe = s.rqe := by unfold cadenceNotice; split <;> simp
@[simp] theorem cadenceNotice_den (n : CadenceNotice) : (cadenceNotice n s).den = s.den := by unfold cadenceNotice; split <;> simp
@[simp] theorem cadenceNotice_fsq (n : CadenceNotice) : (cadenceNotice n s).fsq = s.fsq := by unfold cadenceNotice; split <;> simp
@[simp] theorem cadenceNotice_mnu (n : CadenceNotice) : (cadenceNotice n s).mnu = s.mnu := by unfold cadenceNotice; split <;> simp
@[simp] theorem cadenceNotice_rvc (n : CadenceNotice) : (cadenceNotice n s).rvc = s.rvc := by unfold cadenceNotice; split <;> simp
@[simp] theorem cadenceNotice_ccp (n : CadenceNotice) : (cadenceNotice n s).ccp = s.ccp := by unfold cadenceNotice; split <;> simp
@[simp] theorem cadenceNotice_gdu (n : CadenceNotice) : (cadenceNotice n s).gdu = s.gdu := by unfold cadenceNotice; split <;> simp
@[simp] theorem cadenceNotice_pdu (n : CadenceNotice) : (cadenceNotice n s).pdu = s.pdu := by unfold cadenceNotice; split <;> simp
@[simp] theorem cadenceNotice_aop (n : CadenceNotice) : (cadenceNotice n s).aop = s.aop := by unfold cadenceNotice; split <;> simp
@[simp] theorem cadenceNotice_flt (n : CadenceNotice) : (cadenceNotice n s).flt = s.flt := by unfold cadenceNotice; split <;> simp
@[simp] theorem cadenceNotice_pins (n : CadenceNotice) : (cadenceNotice n s).pins = s.pins := by unfold cadenceNotice; split <;> simp
@[simp] theorem cadenceNotice_freeCount (n : CadenceNotice) : (cadenceNotice n s).freeCount = s.freeCount := by unfold cadenceNotice; split <;> simp
@[simp] theorem cadenceNotice_pending (n : CadenceNotice) : (cadenceNotice n s).pending = s.pending := by unfold cadenceNotice; split <;> simp

/-! ### A DEGRADED notice -/

@[simp] theorem degradedNotice_fmc : (degradedNotice s).fmc = s.fmc := by simp [degradedNotice]
@[simp] theorem degradedNotice_hlp : (degradedNotice s).hlp = s.hlp := by simp [degradedNotice]
@[simp] theorem degradedNotice_wdc : (degradedNotice s).wdc = s.wdc := by simp [degradedNotice]
@[simp] theorem degradedNotice_lyu : (degradedNotice s).lyu = s.lyu := by simp [degradedNotice]
@[simp] theorem degradedNotice_rqe : (degradedNotice s).rqe = s.rqe := by simp [degradedNotice]
@[simp] theorem degradedNotice_den : (degradedNotice s).den = s.den := by simp [degradedNotice]
@[simp] theorem degradedNotice_mnu : (degradedNotice s).mnu = s.mnu := by simp [degradedNotice]
@[simp] theorem degradedNotice_rvc : (degradedNotice s).rvc = s.rvc := by simp [degradedNotice]
@[simp] theorem degradedNotice_ccp : (degradedNotice s).ccp = s.ccp := by simp [degradedNotice]
@[simp] theorem degradedNotice_gdu : (degradedNotice s).gdu = s.gdu := by simp [degradedNotice]
@[simp] theorem degradedNotice_pdu : (degradedNotice s).pdu = s.pdu := by simp [degradedNotice]
@[simp] theorem degradedNotice_chu : (degradedNotice s).chu = s.chu := by simp [degradedNotice]
@[simp] theorem degradedNotice_aop : (degradedNotice s).aop = s.aop := by simp [degradedNotice]
@[simp] theorem degradedNotice_flt : (degradedNotice s).flt = s.flt := by simp [degradedNotice]
@[simp] theorem degradedNotice_pins : (degradedNotice s).pins = s.pins := by simp [degradedNotice]
@[simp] theorem degradedNotice_freeCount : (degradedNotice s).freeCount = s.freeCount := by simp [degradedNotice]
@[simp] theorem degradedNotice_pending : (degradedNotice s).pending = s.pending := by simp [degradedNotice]

/-! ### A class's action -/

@[simp] theorem takeAction_fmc (a : FaultAction) : (takeAction a s).fmc = s.fmc := by
  cases a <;> simp [takeAction]
  split <;> simp
@[simp] theorem takeAction_hlp (a : FaultAction) : (takeAction a s).hlp = s.hlp := by
  cases a <;> simp [takeAction]
  split <;> simp
@[simp] theorem takeAction_wdc (a : FaultAction) : (takeAction a s).wdc = s.wdc := by
  cases a <;> simp [takeAction]
  split <;> simp
@[simp] theorem takeAction_lyu (a : FaultAction) : (takeAction a s).lyu = s.lyu := by
  cases a <;> simp [takeAction]
  split <;> simp
@[simp] theorem takeAction_rqe (a : FaultAction) : (takeAction a s).rqe = s.rqe := by
  cases a <;> simp [takeAction]
  split <;> simp
@[simp] theorem takeAction_den (a : FaultAction) : (takeAction a s).den = s.den := by
  cases a <;> simp [takeAction]
  split <;> simp
@[simp] theorem takeAction_mnu (a : FaultAction) : (takeAction a s).mnu = s.mnu := by
  cases a <;> simp [takeAction]
  split <;> simp
@[simp] theorem takeAction_rvc (a : FaultAction) : (takeAction a s).rvc = s.rvc := by
  cases a <;> simp [takeAction]
  split <;> simp
@[simp] theorem takeAction_ccp (a : FaultAction) : (takeAction a s).ccp = s.ccp := by
  cases a <;> simp [takeAction]
  split <;> simp
@[simp] theorem takeAction_gdu (a : FaultAction) : (takeAction a s).gdu = s.gdu := by
  cases a <;> simp [takeAction]
  split <;> simp
@[simp] theorem takeAction_pdu (a : FaultAction) : (takeAction a s).pdu = s.pdu := by
  cases a <;> simp [takeAction]
  split <;> simp
@[simp] theorem takeAction_aop (a : FaultAction) : (takeAction a s).aop = s.aop := by
  cases a <;> simp [takeAction]
  split <;> simp
@[simp] theorem takeAction_pins (a : FaultAction) : (takeAction a s).pins = s.pins := by
  cases a <;> simp [takeAction]
  split <;> simp
@[simp] theorem takeAction_freeCount (a : FaultAction) : (takeAction a s).freeCount = s.freeCount := by
  cases a <;> simp [takeAction]
  split <;> simp
@[simp] theorem takeAction_pending (a : FaultAction) : (takeAction a s).pending = s.pending := by
  cases a <;> simp [takeAction]
  split <;> simp

/-! ### A report -/

@[simp] theorem report_fmc (r : Report) : (report r s).fmc = s.fmc := by
  unfold report; dsimp only; repeat' split
  all_goals simp
@[simp] theorem report_hlp (r : Report) : (report r s).hlp = s.hlp := by
  unfold report; dsimp only; repeat' split
  all_goals simp
@[simp] theorem report_wdc (r : Report) : (report r s).wdc = s.wdc := by
  unfold report; dsimp only; repeat' split
  all_goals simp
@[simp] theorem report_lyu (r : Report) : (report r s).lyu = s.lyu := by
  unfold report; dsimp only; repeat' split
  all_goals simp
@[simp] theorem report_rqe (r : Report) : (report r s).rqe = s.rqe := by
  unfold report; dsimp only; repeat' split
  all_goals simp
@[simp] theorem report_den (r : Report) : (report r s).den = s.den := by
  unfold report; dsimp only; repeat' split
  all_goals simp
@[simp] theorem report_mnu (r : Report) : (report r s).mnu = s.mnu := by
  unfold report; dsimp only; repeat' split
  all_goals simp
@[simp] theorem report_rvc (r : Report) : (report r s).rvc = s.rvc := by
  unfold report; dsimp only; repeat' split
  all_goals simp
@[simp] theorem report_ccp (r : Report) : (report r s).ccp = s.ccp := by
  unfold report; dsimp only; repeat' split
  all_goals simp
@[simp] theorem report_gdu (r : Report) : (report r s).gdu = s.gdu := by
  unfold report; dsimp only; repeat' split
  all_goals simp
@[simp] theorem report_pdu (r : Report) : (report r s).pdu = s.pdu := by
  unfold report; dsimp only; repeat' split
  all_goals simp
@[simp] theorem report_aop (r : Report) : (report r s).aop = s.aop := by
  unfold report; dsimp only; repeat' split
  all_goals simp
@[simp] theorem report_pins (r : Report) : (report r s).pins = s.pins := by
  unfold report; dsimp only; repeat' split
  all_goals simp
@[simp] theorem report_freeCount (r : Report) : (report r s).freeCount = s.freeCount := by
  unfold report; dsimp only; repeat' split
  all_goals simp
@[simp] theorem report_pending (r : Report) : (report r s).pending = s.pending := by
  unfold report; dsimp only; repeat' split
  all_goals simp

/-! ### A report without a transaction -/

@[simp] theorem reportPlain_fmc (kind : FaultKind) (source : FaultSource) (detail : Detail) : (reportPlain kind source detail s).fmc = s.fmc := by simp [reportPlain]
@[simp] theorem reportPlain_hlp (kind : FaultKind) (source : FaultSource) (detail : Detail) : (reportPlain kind source detail s).hlp = s.hlp := by simp [reportPlain]
@[simp] theorem reportPlain_wdc (kind : FaultKind) (source : FaultSource) (detail : Detail) : (reportPlain kind source detail s).wdc = s.wdc := by simp [reportPlain]
@[simp] theorem reportPlain_lyu (kind : FaultKind) (source : FaultSource) (detail : Detail) : (reportPlain kind source detail s).lyu = s.lyu := by simp [reportPlain]
@[simp] theorem reportPlain_rqe (kind : FaultKind) (source : FaultSource) (detail : Detail) : (reportPlain kind source detail s).rqe = s.rqe := by simp [reportPlain]
@[simp] theorem reportPlain_den (kind : FaultKind) (source : FaultSource) (detail : Detail) : (reportPlain kind source detail s).den = s.den := by simp [reportPlain]
@[simp] theorem reportPlain_mnu (kind : FaultKind) (source : FaultSource) (detail : Detail) : (reportPlain kind source detail s).mnu = s.mnu := by simp [reportPlain]
@[simp] theorem reportPlain_rvc (kind : FaultKind) (source : FaultSource) (detail : Detail) : (reportPlain kind source detail s).rvc = s.rvc := by simp [reportPlain]
@[simp] theorem reportPlain_ccp (kind : FaultKind) (source : FaultSource) (detail : Detail) : (reportPlain kind source detail s).ccp = s.ccp := by simp [reportPlain]
@[simp] theorem reportPlain_gdu (kind : FaultKind) (source : FaultSource) (detail : Detail) : (reportPlain kind source detail s).gdu = s.gdu := by simp [reportPlain]
@[simp] theorem reportPlain_pdu (kind : FaultKind) (source : FaultSource) (detail : Detail) : (reportPlain kind source detail s).pdu = s.pdu := by simp [reportPlain]
@[simp] theorem reportPlain_aop (kind : FaultKind) (source : FaultSource) (detail : Detail) : (reportPlain kind source detail s).aop = s.aop := by simp [reportPlain]
@[simp] theorem reportPlain_pins (kind : FaultKind) (source : FaultSource) (detail : Detail) : (reportPlain kind source detail s).pins = s.pins := by simp [reportPlain]
@[simp] theorem reportPlain_freeCount (kind : FaultKind) (source : FaultSource) (detail : Detail) : (reportPlain kind source detail s).freeCount = s.freeCount := by simp [reportPlain]
@[simp] theorem reportPlain_pending (kind : FaultKind) (source : FaultSource) (detail : Detail) : (reportPlain kind source detail s).pending = s.pending := by simp [reportPlain]

/-! ### A report of a host request -/

@[simp] theorem reportHost_fmc (kind : FaultKind) (source : FaultSource) (detail : Detail) (p : HostRequest) : (reportHost kind source detail p s).fmc = s.fmc := by simp [reportHost]
@[simp] theorem reportHost_hlp (kind : FaultKind) (source : FaultSource) (detail : Detail) (p : HostRequest) : (reportHost kind source detail p s).hlp = s.hlp := by simp [reportHost]
@[simp] theorem reportHost_wdc (kind : FaultKind) (source : FaultSource) (detail : Detail) (p : HostRequest) : (reportHost kind source detail p s).wdc = s.wdc := by simp [reportHost]
@[simp] theorem reportHost_lyu (kind : FaultKind) (source : FaultSource) (detail : Detail) (p : HostRequest) : (reportHost kind source detail p s).lyu = s.lyu := by simp [reportHost]
@[simp] theorem reportHost_rqe (kind : FaultKind) (source : FaultSource) (detail : Detail) (p : HostRequest) : (reportHost kind source detail p s).rqe = s.rqe := by simp [reportHost]
@[simp] theorem reportHost_den (kind : FaultKind) (source : FaultSource) (detail : Detail) (p : HostRequest) : (reportHost kind source detail p s).den = s.den := by simp [reportHost]
@[simp] theorem reportHost_mnu (kind : FaultKind) (source : FaultSource) (detail : Detail) (p : HostRequest) : (reportHost kind source detail p s).mnu = s.mnu := by simp [reportHost]
@[simp] theorem reportHost_rvc (kind : FaultKind) (source : FaultSource) (detail : Detail) (p : HostRequest) : (reportHost kind source detail p s).rvc = s.rvc := by simp [reportHost]
@[simp] theorem reportHost_ccp (kind : FaultKind) (source : FaultSource) (detail : Detail) (p : HostRequest) : (reportHost kind source detail p s).ccp = s.ccp := by simp [reportHost]
@[simp] theorem reportHost_gdu (kind : FaultKind) (source : FaultSource) (detail : Detail) (p : HostRequest) : (reportHost kind source detail p s).gdu = s.gdu := by simp [reportHost]
@[simp] theorem reportHost_pdu (kind : FaultKind) (source : FaultSource) (detail : Detail) (p : HostRequest) : (reportHost kind source detail p s).pdu = s.pdu := by simp [reportHost]
@[simp] theorem reportHost_aop (kind : FaultKind) (source : FaultSource) (detail : Detail) (p : HostRequest) : (reportHost kind source detail p s).aop = s.aop := by simp [reportHost]
@[simp] theorem reportHost_pins (kind : FaultKind) (source : FaultSource) (detail : Detail) (p : HostRequest) : (reportHost kind source detail p s).pins = s.pins := by simp [reportHost]
@[simp] theorem reportHost_freeCount (kind : FaultKind) (source : FaultSource) (detail : Detail) (p : HostRequest) : (reportHost kind source detail p s).freeCount = s.freeCount := by simp [reportHost]
@[simp] theorem reportHost_pending (kind : FaultKind) (source : FaultSource) (detail : Detail) (p : HostRequest) : (reportHost kind source detail p s).pending = s.pending := by simp [reportHost]


/-- Outside a drain no boundary can apply the reset. -/
theorem checkDrain_of_notDraining (h : NotDraining s) : checkDrain s = s := by
  have hp : s.lyu.phase ≠ .draining := h
  simp [checkDrain, drainOver, hp]

end Sys2Proof.Machine
end

