-- ==== Sys2Proof/Laws/Memory.lean ====
section
/-! SUPPORT. The canonical tables: every operation over frame memory and the check states keeps the canonical form, and a read after a write
gives what was written there and what stood elsewhere before. -/

namespace Sys2Proof.Machine

section Tables

variable {α : Type} [DecidableEq α] {d v : α} {limit lo a b : Nat} {t : List (Nat × α)}

/-- A canonical table stays canonical from a lower bound. -/
theorem canonicalFrom_mono {lo' : Nat} (h : canonicalFrom d limit lo t = true) (hle : lo' ≤ lo) :
    canonicalFrom d limit lo' t = true := by
  cases t with
  | nil => rfl
  | cons e t =>
    simp only [canonicalFrom, Bool.and_eq_true, decide_eq_true_eq] at h ⊢
    exact ⟨⟨⟨by omega, h.1.1.2⟩, h.1.2⟩, h.2⟩

/-- Below its lower bound a canonical table holds the default. -/
theorem lookupD_below (h : canonicalFrom d limit lo t = true) (ha : a < lo) : lookupD d t a = d := by
  induction t generalizing lo with
  | nil => rfl
  | cons e t ih =>
    simp only [canonicalFrom, Bool.and_eq_true, decide_eq_true_eq] at h
    have hne : e.1 ≠ a := by omega
    simp only [lookupD, if_neg hne]
    exact ih h.2 (by omega)

/-- A store keeps the canonical form. -/
theorem storeD_canonical (h : canonicalFrom d limit lo t = true) (hlo : lo ≤ a) (hlim : a < limit) :
    canonicalFrom d limit lo (storeD d t a v) = true := by
  induction t generalizing lo with
  | nil =>
    unfold storeD
    split
    · rfl
    · next hv => simp [canonicalFrom, hlo, hlim, hv]
  | cons e t ih =>
    obtain ⟨k, w⟩ := e
    simp only [canonicalFrom, Bool.and_eq_true, decide_eq_true_eq] at h
    obtain ⟨⟨⟨hk, hkl⟩, hw⟩, ht⟩ := h
    unfold storeD
    split
    · next hak =>
      split
      · simp [canonicalFrom, hk, hkl, hw, ht]
      · next hv =>
        have : a + 1 ≤ k := hak
        simp [canonicalFrom, hlo, hlim, hv, this, hkl, hw, ht]
    · split
      · next hak =>
        subst hak
        split
        · exact canonicalFrom_mono ht (by omega)
        · next hv => simp [canonicalFrom, hk, hkl, hv, ht]
      · simp only [canonicalFrom, Bool.and_eq_true, decide_eq_true_eq]
        exact ⟨⟨⟨hk, hkl⟩, hw⟩, ih ht (by omega)⟩

/-- A read where a store went gives the value stored. -/
theorem lookupD_storeD_same (h : canonicalFrom d limit lo t = true) : lookupD d (storeD d t a v) a = v := by
  induction t generalizing lo with
  | nil =>
    unfold storeD
    split
    · next hv => simp [lookupD, hv]
    · simp [lookupD]
  | cons e t ih =>
    obtain ⟨k, w⟩ := e
    simp only [canonicalFrom, Bool.and_eq_true, decide_eq_true_eq] at h
    obtain ⟨-, ht⟩ := h
    unfold storeD
    split
    · next hak =>
      split
      · next hv =>
        have hne : k ≠ a := by omega
        simp only [lookupD, if_neg hne]
        rw [lookupD_below ht (by omega), hv]
      · simp [lookupD]
    · split
      · next hak =>
        subst hak
        split
        · next hv => rw [lookupD_below ht (by omega), hv]
        · simp [lookupD]
      · next hne => simp only [lookupD, if_neg (Ne.symm hne)]; exact ih ht

/-- A read elsewhere gives what it gave before the store. -/
theorem lookupD_storeD_other (h : canonicalFrom d limit lo t = true) (hab : b ≠ a) :
    lookupD d (storeD d t a v) b = lookupD d t b := by
  induction t generalizing lo with
  | nil =>
    unfold storeD
    split
    · rfl
    · simp [lookupD, Ne.symm hab]
  | cons e t ih =>
    obtain ⟨k, w⟩ := e
    simp only [canonicalFrom, Bool.and_eq_true, decide_eq_true_eq] at h
    obtain ⟨-, ht⟩ := h
    unfold storeD
    split
    · split
      · rfl
      · simp [lookupD, Ne.symm hab]
    · split
      · next hak =>
        subst hak
        simp only [lookupD, if_neg (Ne.symm hab)]
        split
        · rfl
        · simp [lookupD, Ne.symm hab]
      · simp only [lookupD]
        split
        · rfl
        · exact ih ht

end Tables

/-! ## Bytes -/

/-- The write of a byte inside frame memory keeps its canonical form. -/
theorem writeByte_wf {m : List Host.Cell} {a : Nat} {b : Byte} (h : Memory.wf m = true) (ha : a < Config.memoryEnd) :
    Memory.wf (writeByte m a b) = true := storeD_canonical h (Nat.zero_le a) ha

/-- A read where a byte was written gives that byte. -/
theorem readByte_writeByte_same {m : List Host.Cell} {a : Nat} {b : Byte} (h : Memory.wf m = true) :
    readByte (writeByte m a b) a = b := lookupD_storeD_same h

/-- A read elsewhere gives what it gave before. -/
theorem readByte_writeByte_other {m : List Host.Cell} {a a' : Nat} {b : Byte} (h : Memory.wf m = true) (ha : a' ≠ a) :
    readByte (writeByte m a b) a' = readByte m a' := lookupD_storeD_other h ha

/-- The write of bytes inside frame memory keeps its canonical form. -/
theorem writeBytes_wf {m : List Host.Cell} {a : Nat} {bytes : List Byte} (h : Memory.wf m = true)
    (ha : a + bytes.length ≤ Config.memoryEnd) : Memory.wf (writeBytes m a bytes) = true := by
  induction bytes generalizing m a with
  | nil => exact h
  | cons b bytes ih =>
    simp only [List.length_cons] at ha
    exact ih (writeByte_wf h (by omega)) (by omega)

/-- A read outside the bytes written gives what it gave before. -/
theorem readByte_writeBytes_other {m : List Host.Cell} {a a' : Nat} {bytes : List Byte} (h : Memory.wf m = true)
    (ha : a + bytes.length ≤ Config.memoryEnd) (hout : a' < a ∨ a + bytes.length ≤ a') :
    readByte (writeBytes m a bytes) a' = readByte m a' := by
  induction bytes generalizing m a with
  | nil => rfl
  | cons b bytes ih =>
    simp only [List.length_cons] at ha hout
    have hwf : Memory.wf (writeByte m a b) = true := writeByte_wf h (by omega)
    rw [writeBytes, ih hwf (by omega) (by omega), readByte_writeByte_other h (by omega)]

/-- A read inside the bytes written gives the byte written there. -/
theorem readByte_writeBytes_same {m : List Host.Cell} {a i : Nat} {bytes : List Byte} (h : Memory.wf m = true)
    (ha : a + bytes.length ≤ Config.memoryEnd) (hi : i < bytes.length) :
    readByte (writeBytes m a bytes) (a + i) = bytes.getD i 0 := by
  induction bytes generalizing m a i with
  | nil => simp at hi
  | cons b bytes ih =>
    simp only [List.length_cons] at ha hi
    have hwf : Memory.wf (writeByte m a b) = true := writeByte_wf h (by omega)
    cases i with
    | zero =>
      rw [writeBytes, readByte_writeBytes_other hwf (by omega) (by omega), Nat.add_zero, readByte_writeByte_same h]
      rfl
    | succ i =>
      have hsucc : a + (i + 1) = a + 1 + i := by omega
      rw [writeBytes, hsucc, ih hwf (by omega) (by omega)]
      simp

@[simp] theorem readBytes_length (m : List Host.Cell) (a n : Nat) : (readBytes m a n).length = n := by simp [readBytes]

@[simp] theorem beatBytes_length (b : Beat) : (beatBytes b).length = 16 := by simp [beatBytes]

@[simp] theorem flipBit_length (bytes : List Byte) (bit : Nat) : (flipBit bytes bit).length = bytes.length := by simp [flipBit]

@[simp] theorem flipBits_length (bytes : List Byte) (flips : Beat) : (flipBits bytes flips).length = min bytes.length 16 := by
  simp [flipBits]

@[simp] theorem mergeBytes_length (mask : BitVec 16) (old new : List Byte) : (mergeBytes mask old new).length = 16 := by
  simp [mergeBytes]

/-! ## Check states and beats -/

/-- The mark of a beat inside frame memory keeps the canonical form of the check states. -/
theorem setMark_wf {f : Fmc} {a : Nat} {c : CheckState} (h : f.wf = true) (ha : a < Config.memoryEnd) : (f.setMark a c).wf = true := by
  simp only [Fmc.wf, Bool.and_eq_true] at h ⊢
  refine ⟨h.1, storeD_canonical h.2 (Nat.zero_le _) ?_⟩
  simp only [Config.memoryEnd] at ha ⊢
  omega

/-- Bytes written inside frame memory keep FMC's canonical forms. -/
theorem writeCells_wf {f : Fmc} {a : Nat} {bytes : List Byte} (h : f.wf = true) (ha : a + bytes.length ≤ Config.memoryEnd) :
    ({ f with cells := writeBytes f.cells a bytes } : Fmc).wf = true := by
  simp only [Fmc.wf, Bool.and_eq_true] at h ⊢
  exact ⟨writeBytes_wf h.1 ha, h.2⟩

/-- The read of a beat inside frame memory keeps the canonical forms. -/
theorem readBeat_wf {f : Fmc} {a : Nat} (h : f.wf = true) (ha : a + 16 ≤ Config.memoryEnd) : (f.readBeat a).fmc.wf = true := by
  unfold Fmc.readBeat
  dsimp only
  split
  · exact h
  · exact setMark_wf (writeCells_wf h (by simpa using ha)) (by omega)
  · exact h

/-- The read of beats inside frame memory keeps the canonical forms. -/
theorem readBeats_wf {f : Fmc} {a n : Nat} (h : f.wf = true) (ha : a + 16 * n ≤ Config.memoryEnd) : (f.readBeats a n).fmc.wf = true := by
  induction n generalizing f a with
  | zero => exact h
  | succ n ih => exact ih (readBeat_wf h (by omega)) (by omega)

/-- The write of a beat inside frame memory keeps the canonical forms. -/
theorem writeBeat_wf {f : Fmc} {a : Nat} {mask : BitVec 16} {bytes : List Byte} (h : f.wf = true) (ha : a + 16 ≤ Config.memoryEnd) :
    (f.writeBeat a mask bytes).fmc.wf = true := by
  unfold Fmc.writeBeat
  dsimp only
  split
  · exact h
  · split
    · refine setMark_wf (writeCells_wf h ?_) (by omega)
      have := List.length_take_le 16 bytes
      omega
    · exact writeCells_wf (readBeat_wf h ha) (by simpa using ha)

/-- The write of beats inside frame memory keeps the canonical forms. -/
theorem writeBeats_wf {f : Fmc} {a : Nat} {beats : List (BitVec 16 × List Byte)} (h : f.wf = true)
    (ha : a + 16 * beats.length ≤ Config.memoryEnd) : (f.writeBeats a beats).fmc.wf = true := by
  induction beats generalizing f a with
  | nil => exact h
  | cons e beats ih =>
    simp only [List.length_cons] at ha
    exact ih (writeBeat_wf h (by omega)) (by omega)

/-- A disturbance of a beat inside frame memory keeps the canonical forms. -/
theorem disturb_wf {f : Fmc} {a : Nat} {flips : Beat} (h : f.wf = true) (ha : a + 16 ≤ Config.memoryEnd) :
    (f.disturb a flips).wf = true := by
  have hc : ({ f with cells := writeBytes f.cells a (flipBits (readBytes f.cells a 16) flips) } : Fmc).wf = true :=
    writeCells_wf h (by simpa using ha)
  unfold Fmc.disturb
  dsimp only
  split
  · split
    · exact h
    · split <;> exact setMark_wf hc (by omega)
  · split
    · exact setMark_wf hc (by omega)
    · exact h
  · exact hc

end Sys2Proof.Machine
end

