-- ==== Sys2Proof/Laws/Operations.lean ====
section
/-! SUPPORT. One lemma per shared operation that says once what it does: the tables with one value per name, the dirty set and the status
writer's claim, results, attention causes, records of channels, claims, timers, moved beats, the clip voice, film audio
fetches, menu fetches and the host link. -/

namespace Sys2Proof.Machine

/-! ## One value per name -/

/-- A panel's value after one panel's value is replaced. -/
theorem PerPanel.get_set {α : Type} (t : PerPanel α) (p q : Panel) (v : α) : (t.set p v).get q = if q = p then v else t.get q := by
  cases p <;> cases q <;> rfl

/-- A panel's value after it is replaced. -/
@[simp] theorem PerPanel.get_set_same {α : Type} (t : PerPanel α) (p : Panel) (v : α) : (t.set p v).get p = v := by cases p <;> rfl

/-- Another panel's value is as it was. -/
theorem PerPanel.get_set_other {α : Type} (t : PerPanel α) {p q : Panel} (v : α) (h : q ≠ p) : (t.set p v).get q = t.get q := by
  rw [PerPanel.get_set, if_neg h]

/-- A channel's value after one channel's value is replaced. -/
theorem PerChannel.get_set {α : Type} (t : PerChannel α) (x y : Channel) (v : α) : (t.set x v).get y = if y = x then v else t.get y := by
  cases x <;> cases y <;> rfl

/-- A channel's value after it is replaced. -/
@[simp] theorem PerChannel.get_set_same {α : Type} (t : PerChannel α) (x : Channel) (v : α) : (t.set x v).get x = v := by
  cases x <;> rfl

/-- Another channel's value is as it was. -/
theorem PerChannel.get_set_other {α : Type} (t : PerChannel α) {x y : Channel} (v : α) (h : y ≠ x) : (t.set x v).get y = t.get y := by
  rw [PerChannel.get_set, if_neg h]

/-- A replaced value that is the same leaves the table. -/
@[simp] theorem PerChannel.set_get {α : Type} (t : PerChannel α) (x : Channel) : t.set x (t.get x) = t := by cases x <;> rfl

/-- A film slot's value after one slot's value is replaced. -/
theorem PerSlot.get_set {α : Type} (t : PerSlot α) (i j : Fin 3) (v : α) : (t.set i v).get j = if j = i then v else t.get j := by
  fin_cases i <;> fin_cases j <;> rfl

/-- Every film slot's value after a change of all. -/
@[simp] theorem PerSlot.get_map {α : Type} (t : PerSlot α) (f : α → α) (i : Fin 3) : (t.map f).get i = f (t.get i) := by
  fin_cases i <;> rfl

/-- The lowest slot that passes a test passes it. -/
theorem PerSlot.lowest_passes {α : Type} {t : PerSlot α} {ok : α → Bool} {i : Fin 3} (h : t.lowest ok = some i) : ok (t.get i) = true := by
  unfold PerSlot.lowest at h
  split at h
  · next h0 => cases h; exact h0
  · split at h
    · next h1 => cases h; exact h1
    · split at h
      · next h2 => cases h; exact h2
      · cases h

/-- When no slot is lowest, none passes the test. -/
theorem PerSlot.lowest_none {α : Type} {t : PerSlot α} {ok : α → Bool} (h : t.lowest ok = none) (i : Fin 3) : ok (t.get i) = false := by
  unfold PerSlot.lowest at h
  split at h
  · cases h
  · split at h
    · cases h
    · split at h
      · cases h
      · next h0 h1 h2 =>
        fin_cases i
        · exact Bool.eq_false_iff.mpr h0
        · exact Bool.eq_false_iff.mpr h1
        · exact Bool.eq_false_iff.mpr h2

/-- A camera slot's value after one slot's value is replaced. -/
theorem PerCameraSlot.get_set {α : Type} (t : PerCameraSlot α) (i j : Fin 4) (v : α) :
    (t.set i v).get j = if j = i then v else t.get j := by
  fin_cases i <;> fin_cases j <;> rfl

/-- A class's value after one class's value is replaced. -/
theorem PerClass.get_set {α : Type} (t : PerClass α) (k j : FaultClass) (v : α) : (t.set k v).get j = if j = k then v else t.get j := by
  cases k <;> cases j <;> rfl

/-! ## The status writer -/

/-- The dirty set with a section marked (R36). -/
@[simp] theorem DirtySet.has_mark (d : DirtySet) (k j : StatusSection) : (d.mark k).has j = (d.has j || decide (j = k)) := by
  cases k <;> cases j <;> simp [DirtySet.mark, DirtySet.has]

/-- The dirty set with a section cleared (R36). -/
@[simp] theorem DirtySet.has_clear (d : DirtySet) (k j : StatusSection) : (d.clear k).has j = (d.has j && decide (j ≠ k)) := by
  cases k <;> cases j <;> simp [DirtySet.clear, DirtySet.has]

/-- Raising the claim keeps the dirty set. -/
@[simp] theorem Stw.raise_dirty (w : Stw) : w.raise.dirty = w.dirty := by
  unfold Stw.raise; repeat' split
  all_goals rfl

/-- Raising the claim keeps the result in hand. -/
@[simp] theorem Stw.raise_result (w : Stw) : w.raise.result = w.result := by
  unfold Stw.raise; repeat' split
  all_goals rfl

/-- A claim already raised stands. -/
theorem Stw.raise_claim_busy {w : Stw} (h : w.claim ≠ .idle) : w.raise.claim = w.claim := by
  unfold Stw.raise
  split
  · next hc => exact absurd hc h
  · rfl

/-- From no claim, a result in hand goes first, then the lowest dirty section (R36, R37). -/
theorem Stw.raise_claim_idle {w : Stw} (h : w.claim = .idle) :
    w.raise.claim = if w.result.isSome then .resultWaiting else match w.dirty.lowest with
      | some k => .sectionWaiting k
      | none => .idle := by
  cases hr : w.result <;> cases hl : w.dirty.lowest <;> simp [Stw.raise, h, hr, hl]

/-- A result taken stands in hand, and the dirty set is as it was (R37). -/
@[simp] theorem Stw.take_result (w : Stw) (r : ResultWrite) : (w.take r).result = some r := by
  unfold Stw.take; split <;> rfl

/-- Taking a result keeps the dirty set. -/
@[simp] theorem Stw.take_dirty (w : Stw) (r : ResultWrite) : (w.take r).dirty = w.dirty := by
  unfold Stw.take; split <;> rfl

/-- Marking a section dirty keeps the result in hand. -/
@[simp] theorem markDirty_result (k : StatusSection) (s : State) : (markDirty k s).stw.result = s.stw.result := by simp [markDirty]

/-- What marking a section dirty does to the dirty set (R36). -/
@[simp] theorem markDirty_has (k j : StatusSection) (s : State) :
    (markDirty k s).stw.dirty.has j = (s.stw.dirty.has j || decide (j = k)) := by simp [markDirty]

/-- Marking a section dirty changes STW alone. -/
theorem markDirty_changesOnly (k : StatusSection) (s : State) : ChangesOnly [.stw] s (markDirty k s) := by
  intro b hb
  cases b <;> first | rfl | exact absurd (List.mem_singleton.mpr rfl) hb

/-- What giving a result does (R46, R37): the entry writes its result, which stands at STW. -/
theorem giveResult_answered {code : ResultCode} {index : Count} {phase : EntryPhase} {s : State}
    (h : s.rqe.entry = some ⟨index, phase⟩) : Answered code index s (giveResult code s) := by
  simp [giveResult, h, Answered]

/-- Giving a result changes RQE and STW alone. -/
theorem giveResult_changesOnly (code : ResultCode) (s : State) : ChangesOnly [.rqe, .stw] s (giveResult code s) := by
  intro b hb
  cases b <;> first | (exfalso; revert hb; decide) | simp [Block.kept]

/-- Giving a result keeps the dirty set. -/
@[simp] theorem giveResult_dirty (code : ResultCode) (s : State) : (giveResult code s).stw.dirty = s.stw.dirty := by
  unfold giveResult; split <;> simp

/-- Replacing RVC's state marks S3 exactly when a field that S3 shows changes (R109, R126). -/
@[simp] theorem setRvc_has (r : Rvc) (j : StatusSection) (s : State) :
    (setRvc r s).stw.dirty.has j = (s.stw.dirty.has j || (decide (j = .s3) && decide (r.shown ≠ s.rvc.shown))) := by
  unfold setRvc; split <;> simp_all

/-- Replacing RVC's state by one that S3 shows alike leaves STW as it was. -/
theorem setRvc_stw_same {r : Rvc} {s : State} (h : r.shown = s.rvc.shown) : (setRvc r s).stw = s.stw := by
  unfold setRvc; rw [if_pos h]

/-- Replacing the notice caches marks S4 exactly when one of them changes (R92). -/
@[simp] theorem setNotices_has (service cameraLost : NoticeCache) (j : StatusSection) (s : State) :
    (setNotices service cameraLost s).stw.dirty.has j = (s.stw.dirty.has j ||
      (decide (j = .s4) && decide (¬(service = s.mnu.service ∧ cameraLost = s.mnu.cameraLost)))) := by
  unfold setNotices; split <;> rename_i h <;> simp [h]

/-! ## Attention -/

/-- A cause just joined is in the set. -/
@[simp] theorem causeJoin_has (set : BitVec 6) (c : Cause) : (causeJoin set c).getLsbD c.bit = true := by
  cases c <;> simp [causeJoin, Cause.bit]

/-- Joining a cause keeps the causes in the set. -/
theorem causeJoin_keeps {set : BitVec 6} {i : Nat} (c : Cause) (h : set.getLsbD i = true) : (causeJoin set c).getLsbD i = true := by
  simp [causeJoin, h]

/-- A kind just joined is in the kind set. -/
@[simp] theorem kindJoin_has (set : BitVec 19) (k : FaultKind) : kindIn (kindJoin set k) k = true := by
  cases k <;> simp [kindIn, kindJoin, FaultKind.code]

/-- Joining a kind keeps the kinds in the set. -/
theorem kindJoin_keeps {set : BitVec 19} {j : FaultKind} (k : FaultKind) (h : kindIn set j = true) : kindIn (kindJoin set k) j = true := by
  simp only [kindIn] at h
  simp [kindIn, kindJoin, h]

/-! ## Records of the channels -/

/-- A channel's record after it is replaced (R87). -/
@[simp] theorem setChannel_fsq (x : Channel) (r : FilmChannel) (s : State) : (setChannel x r s).fsq = s.fsq.set x r := by
  unfold setChannel
  split
  · next h => rw [← h, PerChannel.set_get]
  · simp

/-- Replacing a channel's record changes FSQ and STW alone. -/
theorem setChannel_changesOnly (x : Channel) (r : FilmChannel) (s : State) : ChangesOnly [.fsq, .stw] s (setChannel x r s) := by
  intro b hb
  cases b <;> first | (exfalso; revert hb; decide) | simp [Block.kept]

/-- The standing choice keeps the channel's state, queue and counters (R67). -/
theorem FilmChannel.standing_keeps (r : FilmChannel) :
    r.standing.state = r.state ∧ r.standing.queue = r.queue ∧ r.standing.holdCount = r.holdCount ∧ r.standing.starveRun = r.starveRun ∧
      r.standing.elapsed = r.elapsed ∧ r.standing.wrap = r.wrap ∧ r.standing.presented = r.presented ∧
      r.standing.repeated = r.repeated ∧ r.standing.dropped = r.dropped := by
  unfold FilmChannel.standing
  split
  · split <;> simp [FilmChannel.fillWith]
  · simp

/-! ## Claims, grants and timers -/

/-- A claim given up waits no more, and is not live (R17, R20). -/
@[simp] theorem Claim.giveUp_req (c : Claim) : c.giveUp.req = none := by cases c <;> rfl

@[simp] theorem Claim.giveUp_live (c : Claim) : c.giveUp.live = false := by cases c <;> rfl

/-- Giving a claim up keeps whether it is granted (R20). -/
@[simp] theorem Claim.giveUp_isGranted (c : Claim) : c.giveUp.isGranted = c.isGranted := by cases c <;> rfl

/-- A grant that FMC reads: it is busy with the beats moved, and only the fault unit hears of errors (R15, R19). -/
theorem beginGrant_fmc (port : Port) (kind : GrantKind) (m : Moved) (s : State) :
    (beginGrant port kind m s).fmc = { m.fmc with busy := some ⟨kind, m.beats⟩ } := by
  simp only [beginGrant, reportMemoryFor, reportMemory]
  repeat' split
  all_goals simp

/-- A timer just started is due when its time has passed, not before, for any time below half of part time's range. -/
theorem reached_after (t : Millis) {ms k : Nat} (hm : ms ≤ k) (hk : k - ms < 2 ^ 31) :
    reached (t + BitVec.ofNat 32 k) (t + BitVec.ofNat 32 ms) = true := by
  have h : t + BitVec.ofNat 32 k - (t + BitVec.ofNat 32 ms) = BitVec.ofNat 32 (k - ms) := by
    have hs : BitVec.ofNat 32 k = BitVec.ofNat 32 (k - ms) + BitVec.ofNat 32 ms := by
      rw [← BitVec.ofNat_add, Nat.sub_add_cancel hm]
    rw [hs]
    generalize BitVec.ofNat 32 (k - ms) = a
    generalize BitVec.ofNat 32 ms = b
    rw [← BitVec.add_assoc, BitVec.add_comm t a, BitVec.add_assoc]
    exact BitVec.add_sub_cancel a (t + b)
  unfold reached
  rw [h, BitVec.toNat_ofNat]
  have : (k - ms) % 2 ^ 32 = k - ms := Nat.mod_eq_of_lt (by omega)
  rw [this]
  exact decide_eq_true hk

/-! ## Moved beats -/

/-- A read of CLEAN beats delivers them as stored and leaves FMC (R15). -/
theorem readBeats_clean {f : Fmc} {a n : Nat} (h : ∀ i, i < n → f.mark (a + 16 * i) = .clean) :
    f.readBeats a n = ⟨f, (List.range n).map (fun i => ⟨readBytes f.cells (a + 16 * i) 16, false⟩), [], []⟩ := by
  induction n generalizing a with
  | zero => rfl
  | succ n ih =>
    have h0 : f.mark a = .clean := by simpa using h 0 (by omega)
    have h1 : ∀ i, i < n → f.mark (a + 16 + 16 * i) = .clean := by
      intro i hi
      have := h (i + 1) (by omega)
      rw [show a + 16 * (i + 1) = a + 16 + 16 * i by omega] at this
      exact this
    have hb : f.readBeat a = ⟨f, [⟨readBytes f.cells a 16, false⟩], [], []⟩ := by simp [Fmc.readBeat, h0]
    simp only [Fmc.readBeats, hb, ih h1, List.range_succ_eq_map, List.map_cons, List.map_map]
    refine congrArg (fun l => Moved.mk f l [] []) ?_
    simp only [Nat.mul_zero, Nat.add_zero, List.singleton_append]
    congr 1
    apply List.map_congr_left
    intro i _
    simp [show a + 16 * (i + 1) = a + 16 + 16 * i by omega]

/-! ## The clip voice -/

/-- Giving up a fetch leaves all of CHU but the fetch and its claim. -/
theorem Chu.giveUpFetch_keeps (c : Chu) :
    c.giveUpFetch.queue = c.queue ∧ c.giveUpFetch.voice = c.voice ∧ c.giveUpFetch.tone = c.tone ∧ c.giveUpFetch.dropped = c.dropped ∧
    c.giveUpFetch.arrivals = c.arrivals ∧ c.giveUpFetch.drain = c.drain ∧ c.giveUpFetch.held = c.held := by
  unfold Chu.giveUpFetch
  split <;> exact ⟨rfl, rfl, rfl, rfl, rfl, rfl, rfl⟩

/-- A silenced voice is IDLE, and nothing but the voice, its fetch and its claim changes. -/
theorem Chu.silenceVoice_spec (c : Chu) :
    c.silenceVoice.voice = Voice.blank c.voice.underrun ∧ c.silenceVoice.queue = c.queue ∧ c.silenceVoice.tone = c.tone ∧
    c.silenceVoice.dropped = c.dropped ∧ c.silenceVoice.arrivals = c.arrivals ∧ c.silenceVoice.drain = c.drain ∧
    c.silenceVoice.held = c.held := by
  obtain ⟨queue, voice, tone, dropped, arrivals, drain, held⟩ := c.giveUpFetch_keeps
  exact ⟨rfl, queue, tone, dropped, arrivals, drain, held⟩

/-- The voice take changes nothing, or takes the head of the queue into the IDLE voice. -/
theorem Chu.voiceTake_cases (c : Chu) :
    c.voiceTake = c ∨
    ∃ (head : Chime) (rest : List Chime), c.voice.state = .idle ∧ c.drain = .none ∧ c.held = false ∧ c.queue = head :: rest ∧
      c.voiceTake = { c with queue := rest, voice := { Voice.blank c.voice.underrun with state := .starting, chime := head } } := by
  unfold Chu.voiceTake
  split
  · next idle drain held queue => exact .inr ⟨_, _, idle, drain, held, queue, rfl⟩
  · exact .inl rfl

/-- Raising the next claim leaves all of CHU but the fetch and its claim (R151, R152). -/
theorem Chu.kick_keeps (store : Option Region) (c : Chu) :
    (c.kick store).queue = c.queue ∧ (c.kick store).voice = c.voice ∧ (c.kick store).tone = c.tone ∧ (c.kick store).dropped = c.dropped ∧
    (c.kick store).arrivals = c.arrivals ∧ (c.kick store).drain = c.drain ∧ (c.kick store).held = c.held := by
  unfold Chu.kick
  split
  · simp
  · split <;> simp
  · simp

/-- A settled CHU (R147, R151) keeps its tone voice and its count of dropped chimes. -/
theorem settleChu_keeps (c : Chu) (s : State) : (settleChu c s).chu.tone = c.tone ∧ (settleChu c s).chu.dropped = c.dropped := by
  obtain ⟨-, -, tone, dropped, -⟩ := Chu.kick_keeps (chimeStore s) c.voiceTake
  rw [settleChu_chu, tone, dropped]
  rcases c.voiceTake_cases with same | ⟨_, _, _, _, _, _, taken⟩
  · rw [same]; exact ⟨rfl, rfl⟩
  · rw [taken]; exact ⟨rfl, rfl⟩

/-- Settling CHU changes CHU and STW alone. -/
theorem settleChu_changesOnly (c : Chu) (s : State) : ChangesOnly [.chu, .stw] s (settleChu c s) := by
  intro b hb
  cases b <;> first | (exfalso; revert hb; decide) | simp [Block.kept]

/-! ## Film audio fetches -/

/-- AOP's next claim changes AOP alone (R158). -/
theorem aopKick_changesOnly (s : State) : ChangesOnly [.aop] s (aopKick s) := by
  intro b hb
  unfold aopKick
  split
  · cases b <;> first | (exfalso; revert hb; decide) | simp [Block.kept]
  · split <;> cases b <;> first | (exfalso; revert hb; decide) | simp [Block.kept]
  · cases b <;> first | (exfalso; revert hb; decide) | simp [Block.kept]

/-- With a fetch in flight and the port free, AOP claims that block's next request and nothing else changes (R158, log 47). -/
theorem aopKick_inFlight {s : State} {x : Channel} {f : AudioFetch} (held : s.aop.held = false) (idle : s.aop.claim = .idle)
    (flight : s.aop.inFlight = some (x, f)) :
    aopKick s = { s with aop := { s.aop with claim := .waiting (audioRequest x s.lyu.committed f) } } := by
  unfold aopKick
  rw [held, idle, flight]

/-- With no fetch in flight and no block wanted, AOP claims nothing (R158). -/
theorem aopKick_resting {s : State} (flight : s.aop.inFlight = none) (rest : aopChoice s = none) : aopKick s = s := by
  unfold aopKick
  rw [flight, rest]
  split <;> simp_all

/-! ## Menu fetches -/

/-- A page lies below the top exactly when the stack holds two. -/
theorem MenuPanel.below_isSome (m : MenuPanel) : m.below.isSome = decide (2 ≤ m.stack.length) := by
  obtain ⟨stack, top, idle, autoPop⟩ := m
  rcases stack with _ | ⟨a, _ | ⟨b, l⟩⟩ <;> simp [MenuPanel.below]

/-- Work waits for the port exactly when it has a page that it needs (R93). -/
theorem waitingPage_isSome (s : State) (purpose : MenuPurpose) : (waitingPage s purpose).isSome = true ↔ MenuFetchWaits s purpose := by
  rcases purpose with _ | _ | _ | p <;> simp only [waitingPage, MenuFetchWaits]
  · simp [← Option.isSome_iff_ne_none]
  · split <;> simp_all [← Option.isSome_iff_ne_none]
  · split <;> simp_all [← Option.isSome_iff_ne_none]
  · split <;> simp_all [MenuPanel.below_isSome]

/-- Starting a fetch keeps every other work that waits, and makes no work wait (R93). -/
theorem beginMenuFetch_waits {s : State} {purpose q : MenuPurpose} (h : q ≠ purpose) :
    MenuFetchWaits (beginMenuFetch purpose s) q ↔ MenuFetchWaits s q := by
  rcases purpose with _ | _ | _ | p <;> rcases q with _ | _ | _ | q <;>
    simp_all [beginMenuFetch, MenuFetchWaits, menuPanel, setMenuPanel, PerPanel.get_set]

/-- The work whose fetch starts has its notice cache or auto-pop IN_FLIGHT, on the page it needs (R93). -/
theorem beginMenuFetch_reads {s : State} {purpose : MenuPurpose} {page : Nat} (h : waitingPage s purpose = some page) :
    MenuFetchReads (beginMenuFetch purpose s) page purpose := by
  rcases purpose with _ | _ | _ | p <;> simp only [waitingPage] at h
  · obtain ⟨r, hr, rfl⟩ := Option.map_eq_some_iff.mp h
    exact ⟨r, hr, rfl⟩
  all_goals split at h <;> simp_all [beginMenuFetch, MenuFetchReads, menuPanel, setMenuPanel, MenuPanel.below]

/-- The next fetch is for the work that comes first; there is none when no work waits (R93). -/
theorem nextMenuFetch_first (s : State) :
    match nextMenuFetch s with
    | none => ∀ purpose : MenuPurpose, ¬ MenuFetchWaits s purpose
    | some (purpose, page) => waitingPage s purpose = some page ∧ ComesFirst s purpose := by
  have quiet : ∀ q : MenuPurpose, waitingPage s q = none → ¬ MenuFetchWaits s q := by simp +contextual [← waitingPage_isSome]
  have before : ∀ q : MenuPurpose, (∀ p : MenuPurpose, p.place < q.place → waitingPage s p = none) → ComesFirst s q :=
    fun _ h p hp => quiet p (h p hp)
  simp only [nextMenuFetch, List.findSome?_cons, List.findSome?_nil]
  cases h0 : waitingPage s .request with
  | some page => exact ⟨h0, before _ (by rintro (_ | _ | _ | _ | _ | _) <;> simp_all [MenuPurpose.place])⟩
  | none =>
  cases h1 : waitingPage s .service with
  | some page => exact ⟨h1, before _ (by rintro (_ | _ | _ | _ | _ | _) <;> simp_all [MenuPurpose.place])⟩
  | none =>
  cases h2 : waitingPage s .cameraLost with
  | some page => exact ⟨h2, before _ (by rintro (_ | _ | _ | _ | _ | _) <;> simp_all [MenuPurpose.place])⟩
  | none =>
  cases h3 : waitingPage s (.autoPop .rl) with
  | some page => exact ⟨h3, before _ (by rintro (_ | _ | _ | _ | _ | _) <;> simp_all [MenuPurpose.place])⟩
  | none =>
  cases h4 : waitingPage s (.autoPop .rr) with
  | some page => exact ⟨h4, before _ (by rintro (_ | _ | _ | _ | _ | _) <;> simp_all [MenuPurpose.place])⟩
  | none =>
  cases h5 : waitingPage s (.autoPop .c) with
  | some page => exact ⟨h5, before _ (by rintro (_ | _ | _ | _ | _ | _) <;> simp_all [MenuPurpose.place])⟩
  | none => exact fun q => quiet q (by rcases q with _ | _ | _ | _ | _ | _ <;> assumption)

/-- With the port free, MNU is idle with no work waiting, or claims for the work that comes first (R90, R93). -/
theorem menuKick_raised {s : State} (hh : s.mnu.held = false) (hf : s.mnu.fetch = none) (hc : s.mnu.claim = .idle) :
    MenuFetchRaised (menuKick s) := by
  have first := nextMenuFetch_first s
  unfold menuKick
  simp only [hh, hf, hc]
  split
  · next hn => exact .inl ⟨hf, hc, by simpa [hn] using first⟩
  · next purpose page hn =>
    simp only [hn] at first
    refine .inr ⟨purpose, page, ⟨rfl, ?_, ?_⟩, fun q hq => ?_⟩
    · cases purpose <;> rfl
    · have := beginMenuFetch_reads first.1
      cases purpose <;> exact this
    · have := (beginMenuFetch_waits (s := s) (purpose := purpose) (q := q) (by rintro rfl; omega)).not.mpr (first.2 q hq)
      cases q <;> exact this

/-- No work that waits is lost when a fetch starts (R93). -/
theorem menuKick_waitsOn (s : State) (purpose : MenuPurpose) : WaitsOn s (menuKick s) purpose := by
  intro waits
  unfold menuKick
  split
  · split
    · exact .inl waits
    · next started page hn =>
      by_cases same : purpose = started
      · subst same; exact .inr ⟨page, rfl⟩
      · have := (beginMenuFetch_waits (s := s) same).mpr waits
        cases purpose <;> exact .inl this
  · exact .inl waits

/-! ## Status fields -/

/-- Free one-byte fields are as many as their code counts. -/
@[simp] theorem freeFields_length (s : State) (off : Nat) (codes : List Nat) : (freeFields s off codes).length = codes.length := by
  induction codes generalizing off with
  | nil => rfl
  | cons n rest ih => simp [freeFields, put8, ih]

/-- One-byte fields keep their place in the section, meaningful or not. -/
@[simp] theorem orFreeFields_length (s : State) (off : Nat) (codes : List Nat) (bytes : Option (List Byte)) :
    (orFreeFields s off codes bytes).length = codes.length := by
  cases bytes <;> simp [orFreeFields, padTo, zeros]

/-- A free one-byte field holds one of its codes (R176). -/
theorem freeFields_head (s : State) (off codes : Nat) (rest : List Nat) (h : 0 < codes) (hb : codes ≤ 256) :
    ∃ n : Nat, n < codes ∧ (freeFields s off (codes :: rest)).head? = some (BitVec.ofNat 8 n) ∧ (BitVec.ofNat 8 n).toNat = n := by
  refine ⟨(Config.freeByte (s.freeCount + off)).toNat % codes, Nat.mod_lt _ h, by simp [freeFields, put8], ?_⟩
  have := Nat.mod_lt (Config.freeByte (s.freeCount + off)).toNat h
  simp only [BitVec.toNat_ofNat]
  omega

/-! ## The host link -/

/-- A response that is sent stands on the link as the bytes of 11.1. -/
@[simp] theorem sendResponse_linkBytes (r : Response) (s : State) : (sendResponse r s).linkBytes = r.bytes := rfl

end Sys2Proof.Machine
end

