-- ==== Sys2Proof/Tests/Slice0.lean ====
section
/-! SUPPORT. The model's own tests: the refusals of WellFormed, for each statement a state that meets its hypotheses clause by clause, and
small tests of single commands whose expected values are worked out from the spec's rules. -/

namespace Sys2Proof.Tests

open Sys2Proof Sys2Proof.Machine

set_option Elab.async false

/-! ## States to test on -/

/-- The part in RUNNING at part time 1000, with every credit and nothing dirty. -/
def running : State :=
  { State.reset with
    lyu := { Lyu.reset with partState := .running, partTime := 1000 }
    hlp := ⟨[], 32, none⟩
    stw := ⟨⟨false, false, false, false, false, false, false, false⟩, none, .idle⟩
    rvc := { Rvc.reset with acting := true } }

/-- Park settings within check 10 and 11 of R26. -/
def parkSettings : ParkSettings :=
  { readoutX := 10, readoutY := 20, minValid := 3, t1 := 150, t2 := 100, t3 := 60, t4 := 30,
    zone1 := ⟨600, 100⟩, zone2 := ⟨400, 100⟩, zone3 := ⟨200, 100⟩, zone4 := ⟨200, 200⟩ }

/-- A layout with every region. -/
def hostLayout : Layout :=
  { Layout.default with
    map := { fillA := some ⟨0x8000, 501⟩, fillB := some ⟨0x8200, 501⟩, filmSlotsA := some ⟨0x9000, 1503⟩,
             filmSlotsB := some ⟨0x9600, 1503⟩, camera := some ⟨0x10000, 1800⟩, menuStore := some ⟨0xB000, 1000⟩,
             glyphs := some ⟨0xC000, 20⟩, guide0 := some ⟨0xA000, 2⟩, guide1 := some ⟨0xA002, 2⟩,
             chimeStore := some ⟨0xD000, 100⟩, audioA := some ⟨0xE000, 4⟩, audioB := some ⟨0xE010, 4⟩ }
    park := some parkSettings, reverseHold := 20, idleTimeout := ⟨0, 0, 10⟩ }

/-- The part with that layout committed from the host. -/
def configured : State :=
  { running with
    lyu := { running.lyu with source := .host, layoutState := .configured, committed := hostLayout }
    wdc := ⟨hostLayout.map, none, none⟩ }

/-- A state with a grant in progress. -/
def busyWith (kind : GrantKind) (beats : List ReadBeat) (s : State) : State := { s with fmc := { s.fmc with busy := some ⟨kind, beats⟩ } }

/-- A ring entry of a kind with argument bytes (11.5). -/
def entryOf (kind : Nat) (args : List Byte) : List Byte := (put16 kind ++ [0, 0] ++ args ++ List.replicate 32 0).take 32

/-- The state in which the fetch of an entry is about to complete with these bytes. -/
def fetching (index : Count) (e : List Byte) (s : State) : State :=
  busyWith .entryFetch [⟨e, false⟩] { s with
    rqe := { s.rqe with producer := index + 1, consumer := index, entry := some ⟨index, .fetching⟩, claim := .granted true } }

/-- That state meets EntryFetched. -/
theorem fetching_meets {s : State} (index : Count) (e : List Byte) (h : NotDraining s) : EntryFetched (fetching index e s) index e :=
  ⟨⟨[⟨e, false⟩], rfl, rfl, by simp [beatData]⟩, rfl, rfl, h⟩

/-- A state with its RVC and CCP in the view named, with this health. -/
def viewing (view : View) (health : Health) (s : State) : State :=
  { s with
    rvc := { s.rvc with
      view := view, engageCause := .rev, revQualified := .asserted, health := health
      holdTimer := if view = .hold then .running 1500 else .stopped
      firstFrameDeadline := if health = .awaiting then .running 1200 else .stopped
      lostTimer := if health = .good then .running 1100 else .stopped }
    ccp := { s.ccp with capturing := true } }

/-- A state with one host request, at the arbiter. -/
def asking (p : HostRequest) (s : State) : State := { s with hlp := ⟨[p], 31, none⟩ }

/-- A WRITE packet of full beats of one byte value. -/
def writeOf (a n : Nat) (b : Beat) : HostRequest := ⟨1, 7, BitVec.ofNat 32 a, BitVec.ofNat 8 n, List.replicate n ⟨fullMask, b⟩⟩

/-- A READ packet. -/
def readOf (a n : Nat) : HostRequest := ⟨0, 9, BitVec.ofNat 32 a, BitVec.ofNat 8 n, []⟩

/-- A value of the next state, if the command has one. -/
def afterwards {α : Type} (c : Instr) (s : State) (f : State → α) : Option α :=
  match exec c s with
  | .next t => some (f t)
  | .fault _ => none
  | .refused _ => none

/-- The result code given to the entry in execution by a command. -/
def answerOf (c : Instr) (s : State) : Option (Option Nat) := afterwards c s fun t => t.stw.result.map fun r => r.code.code

/-! ## WellFormed refuses what is no packet -/

/-- A READ packet carries no data elements (11.1). -/
theorem test_wellFormed_refuses_read_with_data : (Instr.hostRequestPacket ⟨0, 0, 0, 1, [⟨0, 0⟩]⟩).wellFormed = false := by decide

/-- A WRITE packet carries beat_count data elements (11.1). -/
theorem test_wellFormed_refuses_write_with_other_count : (Instr.hostRequestPacket ⟨1, 0, 0, 2, [⟨0, 0⟩]⟩).wellFormed = false := by decide

/-- The type codes of 11.3 are not unknown (R176). -/
theorem test_wellFormed_refuses_known_type_codes :
    (Instr.unknownCameraPacket 1).wellFormed = false ∧ (Instr.unknownCameraPacket 2).wellFormed = false ∧
      (Instr.unknownCameraPacket 3).wellFormed = false := by decide

/-- The model refuses such a term by name. -/
theorem test_exec_refuses_no_packet :
    (match exec (.hostRequestPacket ⟨0, 0, 0, 1, [⟨0, 0⟩]⟩) running with | .refused r => some r | _ => none)
      = some (.notThatPacket "HOST_REQUEST_PACKET") := by decide

/-- No word of the table spells a command, and State.withFetchWord leaves the state (log 27). -/
theorem test_decodeTableWord_reads_none : decodeTableWord 32 0xFFFFFFFF = none ∧ State.reset.withFetchWord 32 1 = State.reset := ⟨rfl, rfl⟩

/-- An expiry time is reached at that very time. -/
theorem reached_now (t : Millis) : reached t t = true := by simp [reached]

/-! ## Witnesses: the step, the invariants -/

/-- A step with a command in front, and one with none. -/
theorem wit_StepRunsTheFrontCommand :
    ({ running with pending := [.partTimeTick] } : State).pending = .partTimeTick :: [] ∧ running.pending = [] := ⟨rfl, rfl⟩

/-- INIT with WRST low, and with WRST high and nothing in hand. -/
theorem wit_InitEndStartsRunning :
    (State.reset.lyu.partState = .init ∧ State.reset.pins.wrst = .low) ∧
    (∃ s : State, s.lyu.partState = .init ∧ s.pins.wrst = .high ∧ NothingInHand s) :=
  ⟨⟨rfl, rfl⟩, { State.reset with pins := ⟨.low, .high⟩ }, rfl, rfl, rfl, rfl, rfl, rfl⟩

/-- The part with a tick in front of its queue. -/
def ticking (s : State) : State := { s with pending := [.partTimeTick] }

/-- A tick in RUNNING answers a next state. -/
theorem ticking_steps {s : State} (h : s.lyu.partState = .running) : ∃ t : State, step (ticking s) = .next t := by
  refine ⟨setChu { s.chu with tone := s.chu.tone.tick }
    { ticking s with pending := [], lyu := { s.lyu with partTime := s.lyu.partTime + 1 } }, ?_⟩
  simp [step, ticking, exec, execPartTimeTick, h]

/-- A state with a byte at the last address and a mark at the last beat. -/
theorem wit_MemoryKeepsItsForm :
    ∃ s t : State, MemorySafe s ∧ step s = .next t ∧ readByte s.fmc.cells 0x1FFFFFFF = 1 := by
  let s : State := { running with fmc := { running.fmc with cells := [(0x1FFFFFFF, 1)], marks := [(0x1FFFFFF, .uncorrectable)] } }
  obtain ⟨t, h⟩ := ticking_steps (s := s) rfl
  exact ⟨ticking s, t, by simp only [MemorySafe]; decide, h, by decide⟩

/-- A full queue and no credit left. -/
theorem wit_CreditsAndGrantsAgree_credits : ∃ s t : State, CreditsSafe s ∧ step s = .next t ∧ s.hlp.credits = 0 := by
  let s : State := { running with hlp := ⟨List.replicate 32 (readOf 0 1), 0, none⟩ }
  obtain ⟨t, h⟩ := ticking_steps (s := s) rfl
  refine ⟨ticking s, t, ⟨?_, ?_, ?_⟩, h, rfl⟩
  · intro hi; cases hi
  · intro _; rfl
  · intro hp; cases hp

/-- A grant in progress. -/
theorem wit_CreditsAndGrantsAgree_grants : ∃ s t : State, GrantsSafe s ∧ step s = .next t ∧ grantedAt s .rqe = true := by
  obtain ⟨t, h⟩ := ticking_steps (s := fetching 0 (entryOf 10 []) running) rfl
  refine ⟨ticking (fetching 0 (entryOf 10 []) running), t, ?_, h, rfl⟩
  intro p hp hne
  cases p <;> first | exact absurd rfl hne | (constructor <;> intro hh <;> first | rfl | exact absurd hh (by decide))

/-- A class with a record, and a full tally that has overflowed. -/
theorem wit_FaultRecordsAgree : ∃ s t : State, FaultsSafe s ∧ step s = .next t ∧ s.flt.overflow = true ∧ s.flt.first.critical ≠ none := by
  let r : FaultRecord := ⟨⟨.memUncorrectable, .memory, .misaligned, none⟩, .critical, 5⟩
  let s : State := { running with flt := { running.flt with
    seen := ⟨0, 0, kindJoin 0 .memUncorrectable⟩, first := ⟨none, none, some r⟩, tally := 255, overflow := true } }
  obtain ⟨t, h⟩ := ticking_steps (s := s) rfl
  have none_safe : ∀ k : FaultClass, ClassSafe 0 k none none := by
    intro k; exact ⟨by simp, by simp, by simp⟩
  refine ⟨ticking s, t, ⟨none_safe .advisory, none_safe .serious, ⟨by decide, by decide, ?_⟩, fun _ => rfl⟩, h, rfl, by decide⟩
  intro q hq
  rcases hq with hq | hq
  · cases hq; exact ⟨rfl, by decide⟩
  · cases hq

/-- A DEGRADED part with a PAUSED channel. -/
theorem wit_FaultRecordsAgree_degraded : ∃ s t : State, DegradedSafe s ∧ step s = .next t ∧ s.flt.degraded = true := by
  let s : State := { configured with flt := { configured.flt with degraded := true }, fsq := ⟨{ FilmChannel.reset with state := .paused }, FilmChannel.reset⟩ }
  obtain ⟨t, h⟩ := ticking_steps (s := s) rfl
  exact ⟨ticking s, t, fun _ => ⟨by decide, by decide, by decide, by decide⟩, h, rfl⟩

/-- A staged layout in the reverse view. -/
theorem wit_LayoutStatesAgree : ∃ s t : State, LayoutSafe s ∧ step s = .next t ∧ s.lyu.layoutState = .staged := by
  let v := viewing .hold .good configured
  let s : State := { v with lyu := { v.lyu with staged := some hostLayout, layoutState := .staged } }
  obtain ⟨t, h⟩ := ticking_steps (s := s) rfl
  refine ⟨ticking s, t, ⟨⟨fun _ => rfl, fun _ => rfl⟩, fun _ => by decide, ?_, ?_, rfl⟩, h, rfl⟩ <;> intro hh <;> cases hh

/-- Producer 32 ahead of consumer, across the wrap of the count. -/
theorem wit_RingIndicesHold : ∃ s t : State, RingSafe s ∧ step s = .next t ∧ (s.rqe.producer - s.rqe.consumer).toNat = 32 := by
  let s : State := { running with rqe := { running.rqe with producer := 16, consumer := 65520, entry := some ⟨65520, .withOwner⟩, drain := .draining } }
  obtain ⟨t, h⟩ := ticking_steps (s := s) rfl
  refine ⟨ticking s, t, ⟨by decide, ?_, fun _ => rfl, ?_⟩, h, by decide⟩
  · intro e he; cases he; exact ⟨rfl, by decide⟩
  · intro hh; cases hh

/-- A menu request in hand, its entry with its owner. -/
theorem wit_EntryHasOneOwner : ∃ s t : State, EntrySafe s ∧ step s = .next t ∧ s.mnu.request.isSome = true := by
  let s : State := { configured with
    rqe := { configured.rqe with producer := 1, entry := some ⟨0, .withOwner⟩ }
    mnu := { configured.mnu with request := some ⟨.push, .c, 3⟩ } }
  obtain ⟨t, h⟩ := ticking_steps (s := s) rfl
  refine ⟨ticking s, t, ⟨?_, fun _ => ⟨rfl, rfl⟩, fun _ => rfl, by decide⟩, h, rfl⟩
  rintro (hh | hh) <;> cases hh

/-- A frame, for tests. -/
def frameOf (seq : BitVec 32) (delay : Nat) : Frame := ⟨seq, delay, false, false⟩

/-- A PLAYING channel with a SHOWN slot that one engine scans, a READY slot and a FILLING slot. -/
def playing : FilmChannel :=
  { FilmChannel.reset with
    state := .playing, slots := ⟨⟨.shown, 1, some (frameOf 1 2)⟩, ⟨.ready, 0, some (frameOf 2 3)⟩, ⟨.filling, 0, none⟩⟩
    queue := [1], fill := some 2, holdCount := 1, presented := 1 }

/-- That record is safe. -/
theorem playing_safe : playing.safe := by
  refine ⟨by decide, by decide, by decide, by decide, by decide, by decide, by decide, ?_, by decide, by decide, ⟨by decide, by decide, by decide⟩,
    by decide⟩
  intro h; cases h

/-- The configured part with channel A as above, scanned by the left engine. -/
def screening : State :=
  { configured with fsq := ⟨playing, FilmChannel.reset⟩, den := { configured.den with holdRl := some ⟨.a, 0⟩ } }

/-- The reset record is safe. -/
theorem reset_record_safe : FilmChannel.reset.safe := by
  refine ⟨by decide, by decide, by decide, by decide, by decide, by decide, by decide, fun _ => by decide, by decide, by decide,
    ⟨by decide, by decide, by decide⟩, by decide⟩

/-- Slots in four of the five states, and a scan hold. -/
theorem wit_FilmSlotsAgree : ∃ s t : State, FilmSafe s ∧ HoldsSafe s ∧ step s = .next t ∧ s.fsq.a.state = .playing := by
  obtain ⟨t, h⟩ := ticking_steps (s := screening) rfl
  exact ⟨ticking screening, t, ⟨playing_safe, reset_record_safe⟩, ⟨by decide, by decide⟩, h, rfl⟩

/-- A stack of eight pages with page 63 on top and an auto-pop in flight. -/
def stacked : MenuPanel := { stack := [0, 1, 2, 3, 4, 5, 6, 63], top := .invalid, idle := .stopped, autoPop := .inFlight }

/-- A full stack, an auto-pop in flight and its fetch. -/
theorem wit_MenuStacksHold : ∃ s t : State, (MenuSafe s ∧ EntrySafe s) ∧ step s = .next t ∧ s.mnu.panels.c.stack.length = 8 := by
  let s : State := { configured with mnu := { configured.mnu with
    panels := ⟨MenuPanel.reset, MenuPanel.reset, stacked⟩, fetch := some ⟨.autoPop .c, 6, true⟩, claim := .granted true } }
  obtain ⟨t, h⟩ := ticking_steps (s := s) rfl
  have empty_safe : MenuPanel.reset.safe := by
    refine ⟨by decide, by decide, by decide, fun _ => rfl, ?_⟩
    intro hh; exact absurd rfl hh
  refine ⟨ticking s, t, ⟨⟨empty_safe, empty_safe, ⟨by decide, by decide, by decide, by decide, fun _ => ⟨rfl, by decide⟩⟩, ?_, ?_⟩,
    ⟨?_, ?_, ?_, by decide⟩⟩, h, rfl⟩
  · intro r hr; cases hr
  · intro f hf _ p hp; cases hf; cases hp; rfl
  · rintro (hh | hh) <;> cases hh
  · intro hh; cases hh
  · intro hh; exact absurd rfl hh

/-- A frame in reception and one closing, beside a pinned and a latest slot, with two lines in the buffer. -/
def capturing : State :=
  let v := viewing .engaged .good configured
  { v with
    ccp := { v.ccp with
      reception := .receiving, receiving := some ⟨3, 8, 720, 0x10546000⟩, closing := some ⟨2, 7⟩, latest := some 1, pinned := some 0
      buffer := [⟨2, 0x10384000, 719, [], 144⟩, ⟨3, 0x10546000, 0, [], 0⟩], claim := .waiting ⟨0x10384000 + 2560 * 719 + 2304, 16⟩ }
    den := { v.den with pin := some 0 } }

/-- That state meets both invariants of the reverse view. -/
theorem capturing_safe : ReverseSafe capturing ∧ CaptureSafe capturing := by
  refine ⟨⟨?_, fun _ => ⟨by decide, rfl⟩, by decide, by decide, fun _ => by decide, ⟨by decide, ?_⟩, ?_⟩, ⟨?_, ?_, by decide, by decide, rfl⟩⟩
  · intro h; cases h
  · intro h; cases h
  · intro h; cases h
  · intro f hf; cases hf; exact ⟨by decide, by decide, by decide, by decide⟩
  · intro f hf; cases hf; exact ⟨by decide, by decide⟩

/-- Four slots in four roles. -/
theorem wit_CaptureSparesShownSlots : ∃ s t : State, ReverseSafe s ∧ CaptureSafe s ∧ step s = .next t ∧ s.ccp.receiving.isSome = true := by
  obtain ⟨t, h⟩ := ticking_steps (s := capturing) rfl
  exact ⟨ticking capturing, t, capturing_safe.1, capturing_safe.2, h, rfl⟩

/-- A working GDU with its static list, fetching the bucket wanted. -/
theorem wit_GuideListsAreLive : ∃ s t : State, GuideSafe s ∧ step s = .next t ∧ s.gdu.fetch.isSome = true := by
  let s : State := { configured with
    gdu := { configured.gdu with
      working := true, liveBank := some .bank1, staticCache := .valid (List.replicate 16 ⟨0, 0, 1279, 719, 8, 3⟩), wantedBucket := 32
      fetch := some ⟨.bucket 32, .bank1, false, 0, []⟩, claim := .granted true }
    wdc := { configured.wdc with liveBank := some .bank1 } }
  obtain ⟨t, h⟩ := ticking_steps (s := s) rfl
  refine ⟨ticking s, t, ⟨rfl, rfl, ?_, ?_, ?_, ?_⟩, h, rfl⟩
  · intro hh; cases hh
  · intro f hf _ _; cases hf; exact ⟨rfl, rfl, fun k hk => by cases hk; rfl⟩
  · intro l hl; cases hl; decide
  · intro k l hl; cases hl

/-- A chime, for tests. -/
def chimeOf (clip priority arrival : Nat) : Chime := ⟨clip, priority, 1, ⟨true, false⟩, false, .requested, arrival⟩

/-- A full chime queue behind a PLAYING voice. -/
def chiming : State :=
  { configured with chu := { configured.chu with
    queue := [chimeOf 1 7 0, chimeOf 2 7 1, chimeOf 3 6 3, chimeOf 4 5 2, chimeOf 5 5 4, chimeOf 6 4 5, chimeOf 7 1 6, chimeOf 31 1 8]
    voice := { Voice.blank false with state := .playing, chime := chimeOf 0 7 7, entry := some ⟨0x0D000000, 1, 4, 0⟩, position := 1 }
    arrivals := 9 } }

/-- That queue is safe. -/
theorem chiming_safe : ChimesSafe chiming := by
  refine ⟨by decide, by decide, by decide, by decide, by decide, by decide, by decide⟩

/-- A full queue. -/
theorem wit_ChimeQueueIsOrdered : ∃ s t : State, ChimesSafe s ∧ step s = .next t ∧ s.chu.queue.length = 8 := by
  obtain ⟨t, h⟩ := ticking_steps (s := chiming) rfl
  exact ⟨ticking chiming, t, chiming_safe, h, rfl⟩

/-- A full ring across the wrap, one block ahead and the next being fetched. -/
theorem wit_AudioRingsHold : ∃ s t : State, AudioSafe s ∧ step s = .next t ∧ (s.aop.channels.a.producer - s.aop.channels.a.consumer).toNat = 16 := by
  let c : AudioChannel := ⟨8, 65528, [⟨65528, [], false⟩], none, some ⟨65529, false, 3, []⟩, false⟩
  let s : State := { configured with aop := { configured.aop with channels := ⟨c, AudioChannel.reset⟩, claim := .granted true } }
  obtain ⟨t, h⟩ := ticking_steps (s := s) rfl
  refine ⟨ticking s, t, ⟨⟨by decide, ?_, by decide, by decide, ?_⟩, ⟨by decide, ?_, by decide, by decide, ?_⟩, Or.inr rfl⟩, h, by decide⟩
  · intro b hb; rw [List.mem_singleton.mp hb]; exact ⟨by decide, by decide⟩
  · intro f hf _; cases hf; exact ⟨⟨by decide, by decide⟩, by decide⟩
  · intro b hb; cases hb
  · intro f hf; cases hf

/-- A command in the reverse view that leaves it reversed. -/
theorem wit_LayoutStandsInReverseView :
    ∃ (c : Instr) (s t : State), exec c s = .next t ∧ s.rvc.view ≠ .normal ∧ t.rvc.view ≠ .normal :=
  ⟨.unknownCameraPacket 9, capturing, capturing, rfl, by decide, by decide⟩

/-- A command outside each exception. -/
theorem wit_MemoryChangesOnlyByGrants :
    ∃ (c : Instr) (s t : State), exec c s = .next t ∧ c ≠ .arbiterGrant ∧ c ≠ .initEnd ∧ (∀ beat flips, c ≠ .memoryCellDisturbance beat flips) ∧
      c ≠ .hostGrantComplete ∧ c ≠ .powerOnReset ∧ (∀ p, c ≠ .hostRequestPacket p) :=
  by
    refine ⟨.unknownCameraPacket 0, running, running, rfl, by decide, by decide, ?_, by decide, by decide, ?_⟩
    · intro _ _ h; cases h
    · intro _ h; cases h

/-- A report, for tests. -/
def someReport (kind : FaultKind) : Report := ⟨kind, .memory, .misaligned, none⟩

/-- FLT's clauses: a masked kind; a first and a later record; the tally below 255 and at it; INIT, QUIET, SIGNAL and SAFE. -/
theorem wit_ReportIsHandled :
    (∃ s : State, kindIn s.lyu.committed.mask .memCorrected = true) ∧
    (kindIn running.lyu.committed.mask .memCorrected = false ∧ running.flt.first.get (classOf running.lyu.committed .memCorrected) = none ∧
      kindIn running.lyu.committed.tallySelection .memCorrected = true ∧ running.flt.tally ≠ 255 ∧
      running.lyu.committed.action.get (classOf running.lyu.committed .memCorrected) = .quiet) ∧
    (kindIn running.lyu.committed.tallySelection .hostRequestInvalid = false ∧ running.lyu.partState = .running ∧
      running.lyu.committed.action.get (classOf running.lyu.committed .hostRequestInvalid) = .signal) ∧
    (∃ s : State, s.flt.tally = 255 ∧ s.flt.first.get .advisory ≠ none) ∧ State.reset.lyu.partState = .init ∧
    (∃ s : State, s.lyu.partState = .running ∧ s.lyu.committed.action.get (classOf s.lyu.committed .layoutInvalid) = .safe ∧
      s.flt.degraded = false) := by
  refine ⟨⟨{ running with lyu := { running.lyu with committed := { Layout.default with mask := 64 } } }, by decide⟩, by decide, by decide,
    ⟨{ running with flt := { running.flt with tally := 255, first := ⟨some ⟨someReport .memCorrected, .advisory, 0⟩, none, none⟩ } },
      rfl, by decide⟩, rfl,
    ⟨{ running with lyu := { running.lyu with committed := { Layout.default with severity := List.replicate 19 .critical } } },
      rfl, by decide, rfl⟩⟩

/-! ## Witnesses: the memory path -/

/-- With a credit; without one; a first byte of each direction; a host grant that completes. -/
theorem wit_HostLinkTakesAndAnswers :
    ((readOf 0 1).wellFormed = true ∧ 0 < running.hlp.credits) ∧ ((readOf 0 1).wellFormed = true ∧ State.reset.hlp.credits = 0) ∧
    ((readOf 0 1).first.getLsbD 0 = false ∧ (writeOf 0 1 0).first.getLsbD 0 = true) ∧
    (busyWith (.hostTake ⟨9, .ok, []⟩) [] running).fmc.busy = some ⟨.hostTake ⟨9, .ok, []⟩, []⟩ := by
  refine ⟨by decide, by decide, by decide, rfl⟩

/-- A term that is a command other than ARBITER_GRANT, and terms that are none. -/
theorem wit_CommandsComplete :
    ((Instr.unknownCameraPacket 4).wellFormed = true ∧ Instr.unknownCameraPacket 4 ≠ .arbiterGrant) ∧
    (Instr.unknownCameraPacket 3).wellFormed = false ∧ (Instr.hostRequestPacket ⟨1, 0, 0, 1, []⟩).wellFormed = false := by decide

/-- The part with one beat's check state set. -/
def marked (beat : Nat) (c : CheckState) (s : State) : State := { s with fmc := { s.fmc with marks := [(beat, c)] } }

/-- The last beat of memory, CLEAN, CORRECTABLE and UNCORRECTABLE, and flips of one and of two bits. -/
theorem wit_DisturbanceMarksOneBeat :
    (MemorySafe running ∧ running.fmc.mark (16 * (0x1FFFFFF#25).toNat) = .clean) ∧
    bitCount (1#128 <<< 127) = 1 ∧ bitCount 3 = 2 ∧
    (MemorySafe (marked 0x1FFFFFF (.correctable 0) running) ∧
      (marked 0x1FFFFFF (.correctable 0) running).fmc.mark (16 * (0x1FFFFFF#25).toNat) = .correctable 0 ∧
      bitCount (2#128 ^^^ (1#128 <<< 0)) = 2) ∧
    (MemorySafe (marked 0x1FFFFFF .uncorrectable running) ∧
      (marked 0x1FFFFFF .uncorrectable running).fmc.mark (16 * (0x1FFFFFF#25).toNat) = .uncorrectable) ∧
    (running.fmc.wf = true ∧ 0x1FFFFFF0 % 16 = 0 ∧ 0x1FFFFFF0 + 16 ≤ Config.memoryEnd ∧ running.fmc.mark 0x1FFFFFF0 = .clean) := by
  simp only [MemorySafe]
  refine ⟨by decide, by decide +kernel, by decide +kernel, ⟨by decide, by decide, by decide +kernel⟩, by decide, by decide⟩

/-- A waiting claim, and none. -/
theorem wit_ArbiterChoosesByTierAndRotation :
    choosePort (asking (readOf 0 1) running) = some (3, .host) ∧ waiting (asking (readOf 0 1) running) .host = true ∧
      choosePort running = none := by decide

/-- The part with RQE's claim waiting for two beats at an address. -/
def claiming (a : Nat) : State := { running with rqe := { running.rqe with claim := .waiting ⟨a, 2⟩ } }

/-- A claim whose last beat is the last of memory, and one that ends outside. -/
theorem wit_ReadGrantMovesItsBeats :
    (Chosen (claiming 0x1FFFFFE0) 4 .rqe ∧ readClaim (claiming 0x1FFFFFE0) .rqe = some ⟨0x1FFFFFE0, 2⟩ ∧
      0x1FFFFFE0 + 16 * 2 ≤ Config.memoryEnd ∧ CleanBeats (claiming 0x1FFFFFE0) 0x1FFFFFE0 2) ∧
    (Chosen (claiming 0x1FFFFFF0) 4 .rqe ∧ readClaim (claiming 0x1FFFFFF0) .rqe = some ⟨0x1FFFFFF0, 2⟩ ∧
      Config.memoryEnd < 0x1FFFFFF0 + 16 * 2) := by
  refine ⟨⟨⟨rfl, rfl, by decide⟩, rfl, by decide, ?_⟩, ⟨rfl, rfl, by decide⟩, rfl, by decide⟩
  simp only [CleanBeats]; decide

/-- A host request at the head of the configured part's queue is taken next when it is valid. -/
theorem asking_takes {p : HostRequest} {s : State} (h : Chosen (asking p s) 3 .host) (hw : p.wellFormed = true) (hf : requestFailure p = none) :
    HostTakes (asking p s) p [] := ⟨h, rfl, hw, hf⟩

/-- A WRITE of one byte, next below the anchor page. -/
def byteWrite : HostRequest := ⟨1, 7, 0x1FFFEFF0, 1, [⟨0x8000, 0⟩]⟩

/-- A partial WRITE outside the windows and the protected regions: byte 15 enabled, byte 14 not. -/
theorem wit_PlainWriteStoresItsBytes :
    HostTakes (asking byteWrite configured) byteWrite [] ∧ byteWrite.direction = .write ∧ MemorySafe (asking byteWrite configured) ∧
    requestBase byteWrite < Config.anchorBase ∧ aliasChannel configured.wdc.map (requestBase byteWrite) = none ∧
    protectedAt configured.wdc (requestBase byteWrite) = none ∧ byteWrite.elements[0]? = some ⟨0x8000, 0⟩ ∧
    (0x8000#16).getLsbD 15 = true ∧ (0x8000#16).getLsbD 14 = false ∧ CleanBeats (asking byteWrite configured) (requestBase byteWrite) 1 ∧
    (∀ bit : Nat, (asking byteWrite configured).fmc.mark (requestBase byteWrite + 16 * 0) ≠ .correctable bit) := by
  refine ⟨asking_takes ⟨rfl, rfl, by decide⟩ (by decide) (by decide), rfl, ?_, by decide, by decide, by decide, rfl, by decide, by decide, ?_, ?_⟩
  · simp only [MemorySafe]; decide
  · simp only [CleanBeats]; decide
  · intro bit h; have : CheckState.clean = .correctable bit := h; cases this

/-- A WRITE of a byte in each of the two beats next below the anchor page. -/
def twoBytes : HostRequest := ⟨1, 7, 0x1FFFEFE0, 2, [⟨1, 5⟩, ⟨0x8000, 0⟩]⟩

/-- The configured part with those two beats UNCORRECTABLE and CORRECTABLE. -/
def spoiled : State :=
  { configured with fmc := { configured.fmc with marks := [(0x1FFFEFE, .uncorrectable), (0x1FFFEFF, .correctable 127)] } }

/-- A partial WRITE over an UNCORRECTABLE and a CORRECTABLE beat. -/
theorem wit_PlainWriteStoresItsBytes_marked :
    HostTakes (asking twoBytes spoiled) twoBytes [] ∧ twoBytes.direction = .write ∧ MemorySafe (asking twoBytes spoiled) ∧
    requestBase twoBytes < Config.anchorBase ∧ aliasChannel spoiled.wdc.map (requestBase twoBytes) = none ∧
    protectedAt spoiled.wdc (requestBase twoBytes) = none ∧
    beatsFound (asking twoBytes spoiled) (requestBase twoBytes) 2 (partialAt twoBytes) CheckState.isCorrectable = [1] ∧
    beatsFound (asking twoBytes spoiled) (requestBase twoBytes) 2 (partialAt twoBytes) (fun c => decide (c = .uncorrectable)) = [0] := by
  refine ⟨asking_takes ⟨rfl, rfl, by decide⟩ (by decide) (by decide), rfl, ?_, by decide, by decide, by decide, by decide +kernel,
    by decide +kernel⟩
  simp only [MemorySafe]; decide

/-- READs of CLEAN beats: of a protected region, and of the last beats of the anchor page. -/
theorem wit_ReadReturnsStoredBeats :
    (HostTakes (asking (readOf 0x10000000 16) configured) (readOf 0x10000000 16) [] ∧
      aliasChannel configured.wdc.map (requestBase (readOf 0x10000000 16)) = none ∧
      CleanBeats (asking (readOf 0x10000000 16) configured) (requestBase (readOf 0x10000000 16)) 16) ∧
    (HostTakes (asking (readOf 0x1FFFFFF0 1) configured) (readOf 0x1FFFFFF0 1) [] ∧
      Config.anchorBase ≤ requestBase (readOf 0x1FFFFFF0 1) ∧
      CleanBeats (asking (readOf 0x1FFFFFF0 1) configured) (requestBase (readOf 0x1FFFFFF0 1)) 1) := by
  simp only [CleanBeats]
  exact ⟨⟨asking_takes ⟨rfl, rfl, by decide⟩ (by decide) (by decide), by decide, by decide⟩,
    asking_takes ⟨rfl, rfl, by decide⟩ (by decide) (by decide), by decide, by decide⟩

/-- READs of marked beats at their own address, and behind the window of channel A: the first beats and the last ones of its row, while the
fill slot is slot 2. -/
theorem wit_ReadReturnsStoredBeats_marked :
    (HostTakes (asking (readOf 0x1FFFEFE0 2) spoiled) (readOf 0x1FFFEFE0 2) [] ∧
      PerformedAt (asking (readOf 0x1FFFEFE0 2) spoiled) (readOf 0x1FFFEFE0 2) 0x1FFFEFE0 ∧ MemorySafe (asking (readOf 0x1FFFEFE0 2) spoiled) ∧
      beatsFound (asking (readOf 0x1FFFEFE0 2) spoiled) 0x1FFFEFE0 2 (fun _ => true) CheckState.isCorrectable = [1]) ∧
    (∀ p ∈ [readOf 0x08000000 16, readOf 0x081F4F00 16], HostTakes (asking p screening) p [] ∧ p.direction = .read ∧
      PerformedAt (asking p screening) p (0x093EA000 + (requestBase p - 0x08000000)) ∧ MemorySafe (asking p screening) ∧
      CleanBeats (asking p screening) (0x093EA000 + (requestBase p - 0x08000000)) 16) := by
  refine ⟨⟨asking_takes ⟨rfl, rfl, by decide⟩ (by decide) (by decide), Or.inl ⟨Or.inr (by decide), by decide⟩, ?_, by decide +kernel⟩,
    fun p hp => ⟨asking_takes ⟨rfl, rfl, ?_⟩ ?_ ?_, ?_, Or.inr ⟨.a, 2, ?_, ?_, rfl, ?_, ?_⟩, ?_, fun _ _ => rfl⟩⟩
  case refine_1 => simp only [MemorySafe]; decide
  case refine_10 => show screening.fmc.wf = true; decide
  all_goals revert p
  all_goals decide

/-- A request that just fails each validity check; WRITEs whose first or last beat touches a protected region, and an alias WRITE with no
fill slot. -/
theorem wit_InvalidAndRefusedTakesPerformNothing :
    (∀ p ∈ [readOf 15 1, readOf 0 0, readOf 0 17, readOf 0x1FFFFF10 16, readOf 0x20000000 16],
      Chosen (asking p configured) 3 .host ∧ (asking p configured).hlp.queue = p :: [] ∧ requestFailure p ≠ none) ∧
    (HostTakes (asking (writeOf 0x10707FF0 1 0) configured) (writeOf 0x10707FF0 1 0) [] ∧
      aliasChannel configured.wdc.map (requestBase (writeOf 0x10707FF0 1 0)) = none ∧
      protectedAt configured.wdc (requestBase (writeOf 0x10707FF0 1 0)) = some .cameraRegion) ∧
    (HostTakes (asking (writeOf 0x1FFFF6F0 2 0) configured) (writeOf 0x1FFFF6F0 2 0) [] ∧
      Config.anchorBase ≤ requestBase (writeOf 0x1FFFF6F0 2 0) ∧ touchesStatus (writeOf 0x1FFFF6F0 2 0) = true ∧
      touchesStatus (writeOf 0x1FFFF6F0 1 0) = false) ∧
    (HostTakes (asking (writeOf 0x08000000 1 0) configured) (writeOf 0x08000000 1 0) [] ∧
      requestBase (writeOf 0x08000000 1 0) < Config.anchorBase ∧
      aliasChannel configured.wdc.map (requestBase (writeOf 0x08000000 1 0)) = some .a ∧ (configured.fsq.get .a).fill = none) :=
  ⟨by
    intro p hp
    refine ⟨⟨rfl, rfl, ?_⟩, rfl, ?_⟩ <;> revert p <;> decide,
    ⟨asking_takes ⟨rfl, rfl, by decide⟩ (by decide) (by decide), by decide, by decide⟩,
    ⟨asking_takes ⟨rfl, rfl, by decide⟩ (by decide) (by decide), by decide, by decide, by decide⟩,
    asking_takes ⟨rfl, rfl, by decide⟩ (by decide) (by decide), by decide, by decide, rfl⟩

/-- A trailer beat of 11.6, with this delay. -/
def trailerBeat (delay : Nat) : Beat := BitVec.ofNat 128 (0x54524C52 + 7 * 2 ^ 32 + delay * 2 ^ 64 + 3 * 2 ^ 72)

/-- The last beat of the pixels in the fill slot of channel A, and a page that begins with its trailer beat; a channel with a READY slot and
one with none; delays at their bounds. -/
theorem wit_AliasWriteReachesTheFillSlot :
    (∀ p ∈ [writeOf 0x081F3FF0 1 5, writeOf 0x081F4000 16 (trailerBeat 4)],
      HostTakes (asking p screening) p [] ∧ p.direction = .write ∧ requestBase p < Config.anchorBase ∧
      aliasChannel screening.wdc.map (requestBase p) = some .a ∧
      rowBase (filmRow .a screening.wdc.map) + 2052096 * 2 + (requestBase p - rowBase (fillRow .a screening.wdc.map)) + 16 * p.elements.length
        ≤ Config.memoryEnd) ∧
    (∀ p : HostRequest, MemorySafe (asking p screening) ∧ ∀ a n : Nat, CleanBeats (asking p screening) a n) ∧
    ((screening.fsq.get .a).fill = some 2 ∧ (screening.fsq.get .a).queue = [1] ∧ (screening.fsq.get .a).safe) ∧
    (∃ s : State, (s.fsq.get .a).fill = some 2 ∧ (s.fsq.get .a).queue = [] ∧ (s.fsq.get .a).safe) ∧
    (requestBase (writeOf 0x081F3FF0 1 5) + 16 * 1 = rowBase (fillRow .a screening.wdc.map) + 2048000 ∧
      requestBase (writeOf 0x081F4000 16 (trailerBeat 4)) + 16 * 0 = rowBase (fillRow .a screening.wdc.map) + 2048000 ∧
      ∀ d ∈ (writeOf 0x081F4000 16 (trailerBeat 4)).elements, d.mask = fullMask) ∧
    (get32 (beatBytes (trailerBeat 4)) 0 = 0x54524C52 ∧ get8 (beatBytes (trailerBeat 4)) 8 = 4 ∧ get8 (beatBytes (trailerBeat 1)) 8 = 1 ∧
      get8 (beatBytes (trailerBeat 0)) 8 = 0 ∧ 4 < get8 (beatBytes (trailerBeat 5)) 8 ∧ get32 (beatBytes 5) 0 ≠ 0x54524C52) := by
  refine ⟨?_, fun p => ⟨?_, fun a n i _ => rfl⟩, ⟨rfl, rfl, playing_safe⟩, ?_, ⟨by decide, by decide, ?_⟩, by decide +kernel⟩
  · intro p hp
    refine ⟨asking_takes ⟨rfl, rfl, ?_⟩ ?_ ?_, ?_, ?_, ?_, ?_⟩ <;> revert p <;> decide
  · show screening.fmc.wf = true; decide
  · refine ⟨{ screening with fsq := ⟨{ playing with slots := ⟨⟨.shown, 1, some (frameOf 1 2)⟩, Slot.empty, ⟨.filling, 0, none⟩⟩, queue := [] },
      FilmChannel.reset⟩ }, rfl, rfl, by decide, by decide, by decide, by decide, by decide, by decide, by decide, ?_, by decide, by decide,
      ⟨by decide, by decide, by decide⟩, by decide⟩
    intro h; cases h
  · intro d hd; rw [List.eq_of_mem_replicate hd]

/-- The configured part with its last camera line but this many beats written, its claim waiting. -/
def writingLine (written : Nat) : State :=
  let line : CameraLine := ⟨3, 0x10546000, 719, List.replicate 2560 5, written⟩
  { configured with ccp := { configured.ccp with capturing := true, buffer := [line], claim := .waiting line.request } }

/-- STW's claims: the last section, and a result at the last ring position; CCP's claims for the first and the last request of a line. -/
theorem wit_WriteGrantsStoreTheirBytes :
    (∃ s : State, Chosen s 4 .stw ∧ s.stw.claim = .sectionWaiting .s7 ∧ MemorySafe s) ∧
    (∃ s : State, Chosen s 4 .stw ∧ s.stw.claim = .resultWaiting ∧ s.stw.result = some ⟨31, .unknownKind⟩ ∧ MemorySafe s ∧
      ∀ bit : Nat, s.fmc.mark (0x1FFFF300 + 32 * (31 % 32)) ≠ .correctable bit) ∧
    (∀ written ∈ [0, 144], ∃ line : CameraLine, Chosen (writingLine written) 4 .ccp ∧ (writingLine written).ccp.claim = .waiting line.request ∧
      (writingLine written).ccp.buffer = [line] ∧ line.data.length = 2560 ∧ line.written < 160 ∧ line.base % 16 = 0 ∧
      MemorySafe (writingLine written) ∧ line.base + 2560 * line.lineNo + 16 * line.written + 16 * line.request.beats ≤ Config.memoryEnd) := by
  simp only [MemorySafe]
  refine ⟨⟨{ running with stw := { running.stw with claim := .sectionWaiting .s7 } }, ⟨rfl, rfl, by decide⟩, rfl, by decide⟩,
    ⟨{ running with stw := { running.stw with claim := .resultWaiting, result := some ⟨31, .unknownKind⟩ } }, ⟨rfl, rfl, by decide⟩, rfl, rfl,
      by decide, ?_⟩, ?_⟩
  · intro bit h; have : CheckState.clean = .correctable bit := h; cases this
  · intro written hw
    refine ⟨⟨3, 0x10546000, 719, List.replicate 2560 5, written⟩, ⟨rfl, rfl, by rfl⟩, rfl, rfl, List.length_replicate .., ?_, (show 0x10546000 % 16 = 0 by decide),
      (show configured.fmc.wf = true by decide), ?_⟩
    all_goals (rcases List.mem_cons.mp hw with rfl | hw; · decide)
    all_goals (rw [List.mem_singleton.mp hw]; decide)

/-! ## Witnesses: the request ring -/

/-- A poisoned entry; the kinds 0 and 18; a gated kind under the default layout. -/
theorem wit_EntryIsJudged :
    (∃ s : State, s.fmc.busy = some ⟨.entryFetch, [⟨[], true⟩]⟩ ∧ anyPoison [⟨[], true⟩] = true ∧ s.rqe.claim = .granted true ∧
      s.rqe.entry = some ⟨65535, .fetching⟩ ∧ NotDraining s) ∧
    (EntryFetched (fetching 65535 (entryOf 0 []) running) 65535 (entryOf 0 []) ∧ get16 (entryOf 0 []) 0 = 0) ∧
    (EntryFetched (fetching 0 (entryOf 18 []) running) 0 (entryOf 18 []) ∧ 17 < get16 (entryOf 18 []) 0) ∧
    (EntryFetched (fetching 0 (entryOf 17 []) running) 0 (entryOf 17 []) ∧ running.lyu.source = .default ∧
      1 ≤ get16 (entryOf 17 []) 0 ∧ get16 (entryOf 17 []) 0 ≤ 17 ∧ get16 (entryOf 17 []) 0 ∉ [1, 11, 15, 16]) := by
  have calm : NotDraining running := by simp only [NotDraining]; decide
  refine ⟨⟨busyWith .entryFetch [⟨[], true⟩] (fetching 65535 [] running), rfl, rfl, rfl, rfl, calm⟩, ⟨fetching_meets _ _ calm, by decide⟩,
    ⟨fetching_meets _ _ calm, by decide⟩, fetching_meets _ _ calm, rfl, by decide, by decide, by decide⟩

/-- The configured part is not draining. -/
theorem configured_calm : NotDraining configured := by simp only [NotDraining]; decide

/-- With no drain in progress, none of its boundaries is the last. -/
theorem calm_notLast {s : State} (h : NotDraining s) (others : List Drain) : NotLast s others := Or.inl h

/-- FAULT_ACK and ATTN_ACK inside and outside their arguments; RESUME with a SAFE class clear and not. -/
theorem wit_FaultRequestsAct :
    (EntryFetched (fetching 0 (entryOf 15 [7, 1]) configured) 0 (entryOf 15 [7, 1]) ∧ get16 (entryOf 15 [7, 1]) 0 = 15 ∧
      get8 (entryOf 15 [7, 1]) 4 < 8 ∧ get8 (entryOf 15 [7, 1]) 5 = 1 ∧ (get8 (entryOf 15 [7, 1]) 4).testBit 2 = true) ∧
    (8 ≤ get8 (entryOf 15 [8]) 4 ∧ 1 < get8 (entryOf 15 [0, 2]) 5 ∧ get8 (entryOf 15 [3, 0]) 5 = 0 ∧
      (get8 (entryOf 15 [3, 0]) 4).testBit 2 = false) ∧
    (EntryFetched (fetching 0 (entryOf 16 [63]) configured) 0 (entryOf 16 [63]) ∧ get16 (entryOf 16 [63]) 0 = 16 ∧
      get8 (entryOf 16 [63]) 4 < 64 ∧ 64 ≤ get8 (entryOf 16 [64]) 4) ∧
    (EntryFetched (fetching 0 (entryOf 17 []) configured) 0 (entryOf 17 []) ∧ configured.lyu.source = .host ∧
      get16 (entryOf 17 []) 0 = 17 ∧
      ∀ k : FaultClass, configured.lyu.committed.action.get k = .safe → configured.flt.first.get k = none) ∧
    (∃ s : State, EntryFetched (fetching 0 (entryOf 17 []) s) 0 (entryOf 17 []) ∧ s.lyu.source = .host ∧
      ∃ k : FaultClass, s.lyu.committed.action.get k = .safe ∧ s.flt.first.get k ≠ none) ∧
    (EntryFetched (fetching 0 (entryOf 17 []) running) 0 (entryOf 17 []) ∧ running.lyu.source = .default) := by
  refine ⟨⟨fetching_meets _ _ configured_calm, by decide, by decide, by decide, by decide⟩, by decide,
    ⟨fetching_meets _ _ configured_calm, by decide, by decide, by decide⟩, ⟨fetching_meets _ _ configured_calm, rfl, by decide, ?_⟩, ?_,
    fetching_meets _ _ (by simp only [NotDraining]; decide), rfl⟩
  · intro k _; cases k <;> rfl
  · refine ⟨{ configured with flt := { configured.flt with first := ⟨none, none, some ⟨someReport .memCorrected, .critical, 0⟩⟩ } },
      fetching_meets _ _ configured_calm, rfl, .critical, rfl, by decide⟩

/-- The four film requests, on a channel that plays; STAGED and DEGRADED parts; arguments at their bounds; an unknown and an unrouted channel. -/
theorem wit_FilmRequestsAct :
    (∀ k ∈ [2, 3, 4, 5], EntryFetched (fetching 0 (entryOf k [0, 9, 59, 59]) screening) 0 (entryOf k [0, 9, 59, 59]) ∧
      get16 (entryOf k [0, 9, 59, 59]) 0 = k ∧ get8 (entryOf k [0, 9, 59, 59]) 4 = channelArgument .a ∧
      get8 (entryOf k [0, 9, 59, 59]) 5 ≤ 9 ∧ get8 (entryOf k [0, 9, 59, 59]) 6 ≤ 59 ∧ get8 (entryOf k [0, 9, 59, 59]) 7 ≤ 59) ∧
    Routed .a screening ∧ Channel.b ≠ .a ∧ Routed .b screening ∧ screening.flt.degraded = false ∧ screening.lyu.layoutState ≠ .staged ∧
    (9 < get8 (entryOf 5 [1, 10]) 5 ∧ get8 (entryOf 5 [1, 10]) 4 = channelArgument .b) ∧
    (∃ s : State, Routed .a s ∧ s.flt.degraded = true) ∧ (∃ s : State, Routed .a s ∧ s.flt.degraded = false ∧ s.lyu.layoutState = .staged) ∧
    1 < get8 (entryOf 2 [2]) 4 ∧
    (∃ s : State, EntryFetched (fetching 0 (entryOf 3 [1]) s) 0 (entryOf 3 [1]) ∧ s.lyu.source = .host ∧ get8 (entryOf 3 [1]) 4 = 1 ∧
      s.lyu.committed.rrSource = .a) := by
  refine ⟨?_, ⟨rfl, by decide⟩, by decide, ⟨rfl, by decide⟩, rfl, by decide, by decide,
    ⟨{ configured with flt := { configured.flt with degraded := true } }, ⟨rfl, by decide⟩, rfl⟩,
    ⟨{ configured with lyu := { configured.lyu with layoutState := .staged } }, ⟨rfl, by decide⟩, rfl, rfl⟩, by decide,
    ⟨{ configured with lyu := { configured.lyu with committed := { hostLayout with rrSource := .a } } }, ?_, rfl, by decide, rfl⟩⟩
  · intro k hk
    refine ⟨fetching_meets _ _ configured_calm, ?_⟩
    revert k; decide
  · exact fetching_meets _ _ configured_calm

/-- The configured part with this menu on panel C. -/
def withMenu (m : MenuPanel) : State :=
  { configured with mnu := { configured.mnu with panels := ⟨MenuPanel.reset, MenuPanel.reset, m⟩ } }

/-- MENU_PUSH, MENU_POP and MENU_REPLACE on C, with stacks of 0, 1, 2 and 8 pages and page ids at their bound; panel code 3 in each of the
five kinds; an idle timer due at its very time, over any stack and request in hand. -/
theorem wit_MenuRequestsAndIdleExpiryAct :
    (∀ k ∈ [6, 7, 8], EntryFetched (fetching 0 (entryOf k [2, 63]) (withMenu stacked)) 0 (entryOf k [2, 63]) ∧
      get16 (entryOf k [2, 63]) 0 = k ∧ get8 (entryOf k [2, 63]) 4 = panelArgument .c) ∧
    ((withMenu stacked).lyu.source = .host ∧ get8 (entryOf 6 [2, 63]) 5 ≤ 63 ∧ 63 < get8 (entryOf 6 [2, 64]) 5 ∧
      stacked.topPage = some 63 ∧ stacked.topPage ≠ some 62 ∧ 8 ≤ stacked.stack.length ∧ stacked.below = some 6 ∧
      (MenuPanel.reset.stack.length < 8 ∧ MenuPanel.reset.topPage ≠ some 63 ∧ MenuPanel.reset.stack = []) ∧
      ([4] : List Nat).length = 1) ∧
    (∀ k ∈ [6, 7, 8, 9, 10], EntryFetched (fetching 0 (entryOf k [3]) (withMenu stacked)) 0 (entryOf k [3]) ∧
      get16 (entryOf k [3]) 0 = k ∧ 2 < get8 (entryOf k [3]) 4) ∧
    (∀ (stack : List Nat) (request : Option MenuRequest), ∃ s : State, (menuPanel .c s).idle = .running s.lyu.partTime ∧
      reached s.lyu.partTime s.lyu.partTime = true ∧ (menuPanel .c s).stack = stack ∧ s.mnu.request = request ∧
      s.lyu.committed.idleTimeout.get .c = 10) := by
  refine ⟨?_, by refine ⟨rfl, by decide⟩, ?_, fun stack request => ?_⟩
  · intro k hk
    refine ⟨fetching_meets _ _ configured_calm, ?_⟩
    revert k; decide
  · intro k hk
    refine ⟨fetching_meets _ _ configured_calm, ?_⟩
    revert k; decide
  · exact ⟨{ withMenu ⟨stack, .invalid, .running 1000, .none⟩ with
      mnu := { (withMenu ⟨stack, .invalid, .running 1000, .none⟩).mnu with request := request } }, rfl, reached_now _, rfl, rfl, rfl⟩

/-- The port is free, with no request in hand. -/
theorem wit_MenuRequestsAndIdleExpiryAct_free :
    (withMenu stacked).mnu.held = false ∧ (withMenu stacked).mnu.fetch = none ∧ (withMenu stacked).mnu.claim = .idle ∧
      requestFor .c (withMenu stacked) = false := by decide

/-- The configured part with a timer due over two pages on C, whose layout names page 9 for the service notice. -/
def unwinding (service : NoticeCache) (fetch : Option MenuFetch) : State :=
  let s := withMenu ⟨[5, 63], .invalid, .running 1000, .none⟩
  { s with
    mnu := { s.mnu with service := service, fetch := fetch }
    lyu := { s.lyu with committed := { s.lyu.committed with servicePage := some 9 } } }

/-- An expiry over two pages with the port free and no work before it, with the service notice before it, and with the port busy. -/
theorem wit_MenuRequestsAndIdleExpiryAct_autoPop :
    (∀ (service : NoticeCache) (fetch : Option MenuFetch),
      (menuPanel .c (unwinding service fetch)).idle = .running (unwinding service fetch).lyu.partTime ∧
      (menuPanel .c (unwinding service fetch)).stack.length = 2 ∧ (menuPanel .c (unwinding service fetch)).below = some 5 ∧
      requestFor .c (unwinding service fetch) = false ∧ (unwinding service fetch).mnu.held = false ∧
      (unwinding service fetch).mnu.fetch = fetch ∧ (unwinding service fetch).mnu.claim = .idle) ∧
    ComesFirst (unwinding .absent none) (.autoPop .c) ∧ ¬ ComesFirst (unwinding .pending none) (.autoPop .c) := by
  refine ⟨fun _ _ => ⟨rfl, rfl, rfl, rfl, rfl, rfl, rfl⟩, fun q hq => ?_, fun first => ?_⟩
  · rw [← waitingPage_isSome]
    revert hq
    rcases q with _ | _ | _ | _ | _ | _ <;> decide
  · exact first .service (by decide) ⟨rfl, by decide⟩

/-- MENU_CLEAR and MENU_TOUCH over a full stack with an auto-pop in flight, and over an empty one; the timeout of C runs. -/
theorem wit_MenuClearAndTouchAct :
    (∀ k ∈ [9, 10], EntryFetched (fetching 0 (entryOf k [2]) (withMenu stacked)) 0 (entryOf k [2]) ∧ get16 (entryOf k [2]) 0 = k ∧
      get8 (entryOf k [2]) 4 = panelArgument .c) ∧
    (withMenu stacked).lyu.source = .host ∧ (menuPanel .c (withMenu stacked)).safe ∧ (menuPanel .rl (withMenu stacked)).safe ∧
    (withMenu stacked).lyu.committed.idleTimeout.get .c = 10 := by
  refine ⟨?_, rfl, ⟨by decide, by decide, by decide, by decide, fun _ => ⟨rfl, by decide⟩⟩,
    ⟨by decide, by decide, by decide, fun _ => rfl, fun h => absurd rfl h⟩, rfl⟩
  intro k hk
  refine ⟨fetching_meets _ _ configured_calm, ?_⟩
  revert k; decide

/-- VIEW_CAMERA in every view, at either REV level and with host_request ON and OFF; VIEW_CAMERA, GUIDE_BANK and CHIME_STOP inside and outside their arguments, with an IDLE and a busy voice. -/
theorem wit_ViewBankAndStopRequestsAct :
    (∀ (arg : Byte) (view : View) (level : RevLevel) (host : Bool) (staged : Option Layout), ∃ s : State,
      EntryFetched (fetching 0 (entryOf 11 [arg]) s) 0 (entryOf 11 [arg]) ∧
      s.rvc.view = view ∧ s.rvc.revQualified = level ∧ s.rvc.hostRequest = host ∧ s.pdu.held = false ∧ s.pdu.active = false ∧ s.gdu.held = false ∧
      s.lyu.source = .host ∧ s.lyu.staged = staged ∧ (s.lyu.layoutState = .staged ↔ staged.isSome = true)) ∧
    (EntryFetched (fetching 0 (entryOf 11 [1]) configured) 0 (entryOf 11 [1]) ∧ get16 (entryOf 11 [1]) 0 = 11 ∧ get8 (entryOf 11 [1]) 4 = 1 ∧
      configured.rvc.view = .normal ∧ get8 (entryOf 11 [0]) 4 = 0 ∧ 1 < get8 (entryOf 11 [2]) 4) ∧
    (EntryFetched (fetching 0 (entryOf 12 [1]) configured) 0 (entryOf 12 [1]) ∧ configured.lyu.source = .host ∧ get16 (entryOf 12 [1]) 0 = 12 ∧
      bankOfCode (get8 (entryOf 12 [1]) 4) = some .bank1 ∧ configured.gdu.liveBank ≠ some .bank1 ∧ configured.gdu.stagedBank ≠ some .bank1 ∧
      1 < get8 (entryOf 12 [2]) 4) ∧
    (∃ s : State, s.gdu.liveBank = some .bank0) ∧
    (EntryFetched (fetching 0 (entryOf 14 [255]) chiming) 0 (entryOf 14 [255]) ∧ chiming.lyu.source = .host ∧ get16 (entryOf 14 [255]) 0 = 14 ∧
      get8 (entryOf 14 [255]) 4 = 0xFF ∧ chiming.chu.voice.state ≠ .idle ∧ configured.chu.voice.state = .idle) := by
  refine ⟨fun arg view level host staged => ?_, ⟨fetching_meets _ _ configured_calm, by decide, by decide, rfl, by decide, by decide⟩,
    ⟨fetching_meets _ _ configured_calm, rfl, by decide, by decide, by decide, by decide, by decide⟩,
    ⟨{ configured with gdu := { configured.gdu with liveBank := some .bank0 } }, rfl⟩,
    ⟨fetching_meets _ _ configured_calm, rfl, by decide, by decide, by decide, rfl⟩⟩
  refine ⟨{ configured with
    rvc := { configured.rvc with view := view, revQualified := level, hostRequest := host }
    lyu := { configured.lyu with staged := staged, layoutState := if staged.isSome then .staged else .configured } },
    fetching_meets _ _ configured_calm, rfl, rfl, rfl, rfl, rfl, rfl, rfl, rfl, ?_⟩
  cases staged <;> simp

/-- CHIME_STOP of the clip on the voice, of the last clip, which is queued, and of the clip numbers outside the range. -/
theorem wit_ViewBankAndStopRequestsAct_clip :
    (∀ clip ∈ ([0, 31, 32, 254] : List Byte), EntryFetched (fetching 0 (entryOf 14 [clip]) chiming) 0 (entryOf 14 [clip]) ∧
      get16 (entryOf 14 [clip]) 0 = 14 ∧ get8 (entryOf 14 [clip]) 4 = clip.toNat) ∧
    chiming.lyu.source = .host ∧ chiming.chu.voice.state ≠ .idle ∧ chiming.chu.voice.chime.clip = 0 ∧
    (∃ q ∈ chiming.chu.queue, q.clip = 31) := by
  refine ⟨fun clip hc => ⟨fetching_meets _ _ configured_calm, ?_⟩, rfl, by decide, rfl, by decide⟩
  revert clip; decide

/-- CHIME_PLAY behind a busy voice: for its clip, merging, with room, over a lower priority, with a full queue, and out of range; with the
arrival count at its last value and past it; and with an IDLE voice. -/
theorem wit_ChimePlayIsInserted :
    (∀ args ∈ ([[0, 7, 15], [31, 0, 0], [30, 7, 15], [30, 1, 1]] : List (List Byte)),
      EntryFetched (fetching 0 (entryOf 13 args) chiming) 0 (entryOf 13 args) ∧ get16 (entryOf 13 args) 0 = 13 ∧
      ChimesSafe (fetching 0 (entryOf 13 args) chiming) ∧
      get8 (entryOf 13 args) 4 ≤ 31 ∧ get8 (entryOf 13 args) 5 ≤ 7 ∧ get8 (entryOf 13 args) 6 ≤ 15) ∧
    (chiming.lyu.source = .host ∧ chiming.chu.voice.state ≠ .idle ∧ chiming.chu.takesNone ∧ chiming.chu.arrivals ≤ 65535 ∧
      chiming.chu.voice.chime.clip = get8 (entryOf 13 [0, 7, 15]) 4 ∧ (∃ q ∈ chiming.chu.queue, q.clip = get8 (entryOf 13 [31, 0, 0]) 4)) ∧
    (chiming.chu.queue.length = 8 ∧ (∀ q ∈ chiming.chu.queue, q.clip ≠ get8 (entryOf 13 [30, 7, 15]) 4) ∧
      (∃ kept, chiming.chu.queue = kept ++ [chimeOf 31 1 8]) ∧ (chimeOf 31 1 8).priority < get8 (entryOf 13 [30, 7, 15]) 5) ∧
    (∀ q ∈ chiming.chu.queue, q.clip ≠ get8 (entryOf 13 [30, 1, 1]) 4 ∧ get8 (entryOf 13 [30, 1, 1]) 5 ≤ q.priority) ∧
    (∀ arrivals ∈ [9, 65535, 65536], ∃ s : State, ChimesSafe s ∧ s.chu.takesNone ∧ s.chu.queue.length < 8 ∧ s.chu.arrivals = arrivals ∧
      ∀ q ∈ s.chu.queue, q.clip ≠ get8 (entryOf 13 [30, 7, 15]) 4) ∧
    (ChimesSafe configured ∧ configured.chu.voice.state = .idle ∧ configured.chu.drain = .none ∧ configured.chu.held = false ∧
      configured.chu.queue = [] ∧ configured.chu.fetch = none ∧ configured.chu.claim = .idle) ∧
    (31 < get8 (entryOf 13 [32]) 4 ∧ 7 < get8 (entryOf 13 [0, 8]) 5 ∧ 15 < get8 (entryOf 13 [0, 0, 16]) 6) := by
  refine ⟨?_, ⟨rfl, by decide, Or.inl (by decide), by decide, by decide, by decide⟩,
    ⟨by decide, by decide, ⟨chiming.chu.queue.dropLast, by decide⟩, by decide⟩, by decide, ?_,
    ⟨⟨by decide, by decide, by decide, by decide, by decide, by decide, by decide⟩, rfl, rfl, rfl, rfl, rfl, rfl⟩, by decide⟩
  · intro args ha
    refine ⟨fetching_meets _ _ configured_calm, ?_, chiming_safe, ?_⟩ <;> revert args <;> decide
  · intro arrivals ha
    refine ⟨{ chiming with chu := { chiming.chu with queue := chiming.chu.queue.drop 1, arrivals := arrivals } }, ?_, ?_, ?_, rfl, ?_⟩ <;>
    revert arrivals <;> simp only [ChimesSafe, Chu.takesNone] <;> decide

/-- A result whose write completes: the last entry, one with another behind it, and one in a drain; a section's write, with a result in
hand, a dirty section, and nothing. -/
theorem wit_StatusWriterCompletions :
    (∀ producer : Count, ∀ drain : Drain, ∃ s : State, s.fmc.busy = some ⟨.resultWrite, []⟩ ∧ s.stw.result = some ⟨31, .ok⟩ ∧
      s.rqe.entry = some ⟨65535, .writingResult⟩ ∧ s.rqe.consumer = 65535 ∧ s.rqe.producer = producer ∧ s.rqe.drain = drain ∧
      s.rqe.held = false ∧ s.rqe.claim = .idle ∧ NotDraining s) ∧
    (∀ result : Option ResultWrite, ∀ dirty : DirtySet, ∃ s : State, s.fmc.busy = some ⟨.statusSection, []⟩ ∧ s.stw.result = result ∧
      s.stw.dirty = dirty) ∧
    DirtySet.all.lowest = some .s0 ∧ running.stw.dirty.lowest = none := by
  refine ⟨fun producer drain => ?_, fun result dirty => ?_, by decide, by decide⟩
  · exact ⟨busyWith .resultWrite [] { configured with
      stw := { configured.stw with result := some ⟨31, .ok⟩ }
      rqe := { configured.rqe with producer := producer, consumer := 65535, entry := some ⟨65535, .writingResult⟩, drain := drain } },
      rfl, rfl, rfl, rfl, rfl, rfl, rfl, rfl, configured_calm⟩
  · exact ⟨busyWith .statusSection [] { configured with stw := { configured.stw with result := result, dirty := dirty } }, rfl, rfl, rfl⟩

/-- A state in a drain, with its blocks' parts in it and this level of WRST. -/
def drainOf (ring capture chimes : Drain) (level : Level) (s : State) : State :=
  { s with
    lyu := { s.lyu with phase := .draining, drainLimit := .running 1100 }, pins := ⟨.low, level⟩
    rqe := { s.rqe with drain := ring }, ccp := { s.ccp with drain := capture }, chu := { s.chu with drain := chimes } }

/-- The configured part with the result of its entry at index 65535 written but for the completion. -/
def writingResult : State :=
  busyWith .resultWrite [] { configured with
    stw := { configured.stw with result := some ⟨31, .ok⟩ }
    rqe := { configured.rqe with producer := 1, consumer := 65535, entry := some ⟨65535, .writingResult⟩ } }

/-- A result written in a drain in which CHU has not reported its boundary. -/
theorem wit_StatusWriterCompletions_drain :
    NotLast (drainOf .draining .drained .draining .high writingResult) [.drained, .draining] ∧
      (drainOf .draining .drained .draining .high writingResult).rqe.drain ≠ .none :=
  ⟨Or.inr ⟨.draining, List.mem_cons_of_mem _ List.mem_cons_self, by decide⟩, by decide⟩

/-! ## Witnesses: layouts and warm reset -/

/-- A row of the layout record. -/
def rowOf (base pages : Nat) : List Byte := put32 base ++ put32 pages

/-- A layout record as the host writes it, from 11.4; its rows and park settings are those of hostLayout. -/
def hostRecord : List Byte :=
  (put32 0x4C594F54 ++ List.replicate 12 0
    ++ rowOf 0x8000 501 ++ rowOf 0x8200 501 ++ rowOf 0x9000 1503 ++ rowOf 0x9600 1503 ++ rowOf 0x10000 1800 ++ rowOf 0xB000 1000
    ++ rowOf 0xC000 20 ++ rowOf 0xA000 2 ++ rowOf 0xA002 2 ++ rowOf 0xD000 100 ++ rowOf 0xE000 4 ++ rowOf 0xE010 4
    ++ [1, 0, 1, 0, 20, 3, 0xFF, 5, 0, 0, 10, 2, 16, 48, 0, 0]
    ++ [1, 2, 3, 255, 4, 5, 6, 255, 7, 8, 9, 255, 10, 11, 12, 255]
    ++ [0, 0, 255, 128, 0, 255, 0, 255, 255, 0, 0, 255, 9, 9, 9, 0]
    ++ put16 10 ++ put16 20 ++ [150, 100, 60, 30] ++ put16 600 ++ put16 400 ++ put16 200 ++ put16 200
    ++ put16 100 ++ put16 100 ++ put16 100 ++ put16 200
    ++ [3, 5, 1, 0, 4, 6, 2, 0, 0xFF, 0, 0, 0, 6, 7, 3, 0] ++ put32 0 ++ put32 64 ++ [0, 1, 2] ++ List.replicate 13 0
    ++ [1, 0, 0, 0, 0, 0, 0, 1, 0, 0, 1, 0, 1, 1, 0, 0, 0, 0, 1] ++ List.replicate 512 0).take 512

/-- The record passes R26's sixteen checks. -/
theorem test_validateLayout_valid : validateLayout hostRecord = none := by decide +kernel

/-- A wrong code fails check 1, a CAMERA row of another size check 2, and a part without zones check 10 (R26). -/
theorem test_validateLayout_invalid :
    validateLayout (0 :: hostRecord.drop 1) = some ⟨1, none⟩ ∧
    validateLayout (hostRecord.take 0x34 ++ put32 1799 ++ hostRecord.drop 0x38) = some ⟨2, some 4⟩ ∧
    validateLayout (hostRecord.take 0xA4 ++ [100] ++ hostRecord.drop 0xA5) = some ⟨10, none⟩ := by decide +kernel

/-- LAYOUT_COMMIT with both channels IDLE and with one PLAYING; a first and a second half, and a poisoned one. -/
theorem wit_LayoutRecordIsFetched :
    (EntryFetched (fetching 0 (entryOf 1 []) configured) 0 (entryOf 1 []) ∧ get16 (entryOf 1 []) 0 = 1 ∧ channelsIdle configured = true ∧
      channelsIdle screening = false ∧ configured.lyu.claim = .idle) ∧
    (∀ stage : CommitStage, ∀ beats : List ReadBeat, ∃ s : State, s.fmc.busy = some ⟨.layoutFetch, beats⟩ ∧ s.lyu.claim = .granted true ∧
      s.lyu.commit = stage ∧ s.rqe.entry = some ⟨65535, .withOwner⟩) ∧
    anyPoison [⟨[], false⟩] = false ∧ anyPoison [⟨[], false⟩, ⟨[], true⟩] = true := by
  refine ⟨⟨fetching_meets _ _ configured_calm, by decide, by decide, by decide, rfl⟩, fun stage beats => ?_, by decide, by decide⟩
  exact ⟨busyWith .layoutFetch beats { configured with
    lyu := { configured.lyu with claim := .granted true, commit := stage }
    rqe := { configured.rqe with entry := some ⟨65535, .withOwner⟩ } }, rfl, rfl, rfl, rfl⟩

/-- A record under validation, valid and not, in the NORMAL view and in another. -/
theorem wit_ValidationEndDecides :
    (∀ record : List Byte, ∀ view : View, ∃ s : State, s.lyu.commit = .validating record ∧ s.rqe.entry = some ⟨0, .withOwner⟩ ∧
      s.rvc.view = view) ∧
    validateLayout hostRecord = none ∧ (∃ f, validateLayout [] = some f) ∧ View.hold ≠ .normal := by
  refine ⟨fun record view => ?_, test_validateLayout_valid, ⟨⟨1, none⟩, by decide⟩, by decide⟩
  exact ⟨{ configured with
    lyu := { configured.lyu with commit := .validating record }, rqe := { configured.rqe with entry := some ⟨0, .withOwner⟩ }
    rvc := { configured.rvc with view := view } }, rfl, rfl, rfl⟩

/-- With an entry in execution, something is in hand. -/
theorem entry_in_hand : ¬ NothingInHand (fetching 0 [] running) := by
  intro h
  cases h.1

/-- WRST asserted: nothing in hand, an entry in hand, and IMMEDIATE; a drain limit that is due. -/
theorem wit_WarmResetIsApplied :
    (running.pins.wrst = .low ∧ running.lyu.partState = .running ∧ running.lyu.phase = .none ∧ NothingInHand running ∧
      running.lyu.committed.warmResetMode = .boundary) ∧
    (∃ s : State, s.pins.wrst = .low ∧ s.lyu.partState = .running ∧ s.lyu.phase = .none ∧ ¬ NothingInHand s ∧
      s.lyu.committed.warmResetMode = .boundary) ∧
    (∃ s : State, s.pins.wrst = .low ∧ s.lyu.partState = .running ∧ s.lyu.phase = .none ∧ s.lyu.committed.warmResetMode = .immediate) ∧
    (∃ s : State, s.lyu.drainLimit = .running s.lyu.partTime ∧ reached s.lyu.partTime s.lyu.partTime = true ∧ s.pins.wrst = .high) := by
  refine ⟨⟨rfl, rfl, rfl, ⟨rfl, rfl, rfl, rfl⟩, rfl⟩, ⟨fetching 0 [] running, rfl, rfl, rfl, entry_in_hand, rfl⟩,
    ⟨{ running with lyu := { running.lyu with committed := { Layout.default with warmResetMode := .immediate } } }, rfl, rfl, rfl, rfl⟩,
    ⟨{ running with lyu := { running.lyu with phase := .draining, drainLimit := .running 1000 }, pins := ⟨.low, .high⟩ }, rfl, by decide, rfl⟩⟩

/-- A frame of slot 3 in reception at this line, in the reverse view, with a line of another slot in the buffer and nothing closing. -/
def framing (view : View) (nextLine : Nat) : State :=
  let v := viewing view .good configured
  { v with ccp := { v.ccp with
    reception := .receiving, receiving := some ⟨3, 8, nextLine, 0x10546000⟩, buffer := [⟨2, 0x10384000, 719, [], 144⟩] } }

/-- The last line of a closing frame with its last request written. -/
def closing : State :=
  busyWith .cameraWrite [] { configured with ccp := { configured.ccp with
    capturing := true, claim := .granted true, buffer := [⟨2, 0x10384000, 719, [], 144⟩], closing := some ⟨2, 7⟩ } }

/-- The end of a drain at either level of WRST: RQE's result write; CCP's FRAME_END of a whole frame and of one with a line missing, its
FRAME_START, a line out of order, the last write of the closing frame, the hold's expiry and REV deasserted with a hold of 0; CHU's block
boundary. -/
theorem wit_WarmResetIsApplied_drain : ∀ level : Level,
    (∃ s : State, Drains s .draining .drained .drained ∧ s.pins.wrst = level ∧ s.fmc.busy = some ⟨.resultWrite, []⟩ ∧
      s.stw.result = some ⟨31, .ok⟩ ∧ s.rqe.entry = some ⟨65535, .writingResult⟩) ∧
    (∀ nextLine : Nat, ∃ s : State, Drains s .drained .draining .drained ∧ s.pins.wrst = level ∧ s.ccp.capturing = true ∧
      s.ccp.held = false ∧ s.ccp.receiving = some ⟨3, 8, nextLine, 0x10546000⟩ ∧ (∀ l ∈ s.ccp.buffer, l.slot ≠ 3) ∧ s.ccp.closing = none) ∧
    (∃ s : State, Drains s .drained .draining .drained ∧ s.pins.wrst = level ∧ s.fmc.busy = some ⟨.cameraWrite, []⟩ ∧
      s.ccp.claim = .granted true ∧ s.ccp.buffer = [⟨2, 0x10384000, 719, [], 144⟩] ∧
      160 ≤ 144 + (⟨2, 0x10384000, 719, [], 144⟩ : CameraLine).request.beats ∧ s.ccp.receiving = none ∧ s.ccp.closing = some ⟨2, 7⟩) ∧
    (∃ s : State, Drains s .drained .drained .draining ∧ s.pins.wrst = level ∧ s.aop.held = false ∧ s.chu.voice.state ≠ .idle) ∧
    (∃ s : State, Drains s .drained .draining .drained ∧ s.pins.wrst = level ∧ s.rvc.view = .hold ∧ s.rvc.holdTimer = .running 1500 ∧
      reached s.lyu.partTime 1500 = true ∧ s.ccp.receiving.isSome = true) ∧
    (∃ s : State, Drains s .drained .draining .drained ∧ s.pins.wrst = level ∧ s.rvc.acting = true ∧
      s.rvc.revPending = some ⟨.deasserted, s.lyu.partTime⟩ ∧ reached s.lyu.partTime s.lyu.partTime = true ∧ s.rvc.view = .engaged ∧
      s.rvc.hostRequest = false ∧ s.lyu.committed.reverseHold = 0 ∧ s.ccp.receiving.isSome = true) := by
  intro level
  have drains : ∀ (r c h : Drain) (s : State), Drains (drainOf r c h level s) r c h := fun _ _ _ _ => ⟨rfl, rfl, rfl, rfl⟩
  refine ⟨⟨drainOf .draining .drained .drained level writingResult, drains .., rfl, rfl, rfl, rfl⟩,
    fun nextLine => ⟨drainOf .drained .draining .drained level (framing .engaged nextLine), drains .., rfl, rfl, rfl, rfl, ?_, rfl⟩,
    ⟨drainOf .drained .draining .drained level closing, drains .., rfl, rfl, rfl, rfl, by decide, rfl, rfl⟩,
    ⟨drainOf .drained .drained .draining level chiming, drains .., rfl, rfl, show chiming.chu.voice.state ≠ .idle by decide⟩,
    ⟨drainOf .drained .draining .drained level
      { framing .hold 5 with lyu := { (framing .hold 5).lyu with partTime := 1501 } }, drains .., rfl, rfl, rfl,
      show reached 1501 1500 = true by decide, rfl⟩,
    ⟨drainOf .drained .draining .drained level { framing .engaged 5 with
      lyu := { (framing .engaged 5).lyu with committed := { hostLayout with reverseHold := 0 } }
      rvc := { (framing .engaged 5).rvc with revPending := some ⟨.deasserted, 1000⟩ } }, drains .., rfl, rfl, rfl, reached_now _, rfl, rfl, rfl, rfl⟩⟩
  intro l hl
  rw [List.mem_singleton.mp hl]; decide

/-- WRST high with the phase HELD, with REV high, and while DRAINING; a drain limit due with WRST low. -/
theorem wit_WarmResetIsReleased :
    (∀ phase : ResetPhase, ∃ s : State, s.pins.wrst = .high ∧ s.lyu.phase = phase ∧ s.pins.rev = .high) ∧
    (∃ s : State, s.lyu.drainLimit = .running s.lyu.partTime ∧ reached s.lyu.partTime s.lyu.partTime = true ∧ s.pins.wrst = .low) := by
  refine ⟨fun phase => ⟨{ running with lyu := { running.lyu with phase := phase }, pins := ⟨.high, .high⟩ }, rfl, rfl, rfl⟩,
    ⟨{ running with lyu := { running.lyu with phase := .draining, drainLimit := .running 1000 } }, rfl, by decide, rfl⟩⟩

/-! ## Witnesses: display and menus -/

/-- A rear panel's engine when a refresh start comes, after POR and after the last line: free, held, and of a DEGRADED part; with a SHOWN slot
and with none; with a page on top, its readout present and not. -/
theorem wit_RearRefreshBuildsItsPlan :
    (∀ rear : RearPanel, (engine rear.panel screening).refreshComes rear.panel = true ∧ (engine rear.panel screening).held = false) ∧
    (∃ s : State, (engine .rl s).timing = .line 799 ∧ (engine .rl s).refreshComes .rl = true) ∧
    screening.flt.degraded = false ∧ (screening.fsq.get .a).shown = some 0 ∧ (screening.fsq.get .b).shown = none ∧
    (∃ s : State, (engine .rl s).refreshComes .rl = true ∧ (engine .rl s).held = true) ∧
    (∃ s : State, (engine .rr s).refreshComes .rr = true ∧ (engine .rr s).held = false ∧ s.flt.degraded = true) ∧
    (∀ top : TopCache, ∃ s : State, (engine .rr s).refreshComes .rr = true ∧ (engine .rr s).held = false ∧ s.flt.degraded = false ∧
      (menuPanel .rr s).top = top) := by
  refine ⟨fun rear => by cases rear <;> exact ⟨rfl, rfl⟩, ⟨setEngine .rl { Den.reset with timing := .line 799 } screening, rfl, by decide⟩, rfl,
    by decide, by decide, ⟨displayWarmReset screening, rfl, rfl⟩,
    ⟨{ screening with flt := { screening.flt with degraded := true } }, rfl, rfl, rfl⟩, fun top => ?_⟩
  exact ⟨setMenuPanel .rr ⟨[4], top, .stopped, .none⟩ screening, rfl, rfl, rfl, rfl⟩

/-- A refresh start at a rear panel with any record on its channel, and at RR while rr_source is A; a PLAYING record whose hold runs out with a head to show and with none, with a hold left, and at the end of its film; a PRIMING record. -/
theorem wit_PresentationStepShowsTheQueue :
    (∀ (rear : RearPanel) (r : FilmChannel), ∃ s : State, (engine rear.panel s).refreshComes rear.panel = true ∧ s.fsq = ⟨r, r⟩ ∧
      s.lyu.committed.rrSource = .b) ∧
    (∃ s : State, (engine .rr s).refreshComes .rr = true ∧ s.lyu.committed.rrSource = .a) ∧
    (∃ seq : BitVec 32, ({ playing with queue := [], starveRun := 7 } : FilmChannel).presentationStep.2 = .starved seq) ∧
    (playing.safe ∧ playing.state = .playing ∧ playing.holdCount ≤ 1 ∧ playing.queue = [1] ∧
      (playing.slots.get 1).frame = some (frameOf 2 3) ∧ playing.shown = some 0) ∧
    (∃ r : FilmChannel, r.safe ∧ r.state = .playing ∧ 1 < r.holdCount) ∧
    (∀ last : Bool, ∃ r : FilmChannel, ∃ f : Frame, r.safe ∧ r.state = .playing ∧ r.holdCount ≤ 1 ∧ r.queue = [] ∧ r.shownFrame = some f ∧
      f.endOfFilm = last) ∧
    FilmChannel.reset.state = .idle ∧
    (∃ r : FilmChannel, ∃ f : Frame, r.state = .priming ∧ r.shown = none ∧ r.queue = [2] ∧ (r.slots.get 2).frame = some f) ∧
    (∃ r : FilmChannel, r.state = .priming ∧ r.queue = []) := by
  refine ⟨fun rear r => ⟨{ configured with fsq := ⟨r, r⟩ }, by cases rear <;> rfl, rfl, rfl⟩,
    ⟨{ configured with lyu := { configured.lyu with committed := { hostLayout with rrSource := .a } } }, rfl, rfl⟩, ⟨1, by decide⟩,
    ⟨playing_safe, rfl, by decide, rfl, by decide, by decide⟩, ⟨{ playing with holdCount := 2 }, playing_safe, rfl, by decide⟩, ?_, rfl,
    ⟨{ FilmChannel.reset with state := .priming, slots := ⟨Slot.empty, Slot.empty, ⟨.ready, 0, some (frameOf 1 4)⟩⟩, queue := [2] }, frameOf 1 4,
      rfl, by decide, rfl, rfl⟩,
    ⟨{ FilmChannel.reset with state := .priming }, rfl, rfl⟩⟩
  intro last
  refine ⟨{ playing with slots := ⟨⟨.shown, 1, some ⟨1, 2, false, last⟩⟩, Slot.empty, Slot.empty⟩, queue := [], fill := none },
    ⟨1, 2, false, last⟩, ?_, rfl, Nat.le_refl 1, rfl, rfl, rfl⟩
  cases last <;>
  · refine ⟨by decide, by decide, by decide, by decide, by decide, by decide, by decide, ?_, by decide, by decide,
      ⟨by decide, by decide, by decide⟩, by decide⟩
    intro h; cases h

/-- C after its last line, where a refresh start comes, in the three views and the three healths, with and without a latest slot, a UI base and a staged bank. -/
theorem wit_CentreRefreshTakesItsRow :
    ∀ (view : View) (health : Health) (latest : Option (Fin 4)) (page : Option Nat) (bank : Option Bank),
      ∃ s : State, (engine .c s).timing = .line 719 ∧ (engine .c s).refreshComes .c = true ∧ (engine .c s).held = false ∧ s.rvc.view = view ∧ s.rvc.health = health ∧
        s.ccp.latest = latest ∧ s.den.uiPending = page ∧ s.gdu.stagedBank = bank := by
  intro view health latest page bank
  exact ⟨setEngine .c { Den.reset with timing := .line 719 } { configured with
    rvc := { configured.rvc with view := view, health := health }, ccp := { configured.ccp with latest := latest }
    den := { configured.den with uiPending := page }, gdu := { configured.gdu with stagedBank := bank } }, rfl, by rfl, rfl, rfl, rfl, rfl, rfl, rfl⟩

/-- The GOOD row: a latest slot, both guide caches and a readout, with park settings; and a held engine. -/
theorem wit_CentreRefreshTakesItsRow_good :
    (∀ (view : View) (readout : Readout) (top : TopCache), ∃ s : State, (engine .c s).refreshComes .c = true ∧ (engine .c s).held = false ∧
      s.rvc.view = view ∧ s.rvc.health = .good ∧ s.ccp.latest = some 3 ∧ s.lyu.source = .host ∧ s.lyu.committed.park = some parkSettings ∧
      s.pdu.readout = readout ∧ (menuPanel .c s).top = top) ∧
    (∀ d ∈ ([.none, .fault, .clear, .distance 254, .distance 100, .distance 99, .distance 10, .distance 9] : List Readout),
      ∃ glyphs : Option (List Nat), GlyphsShown d glyphs) ∧
    (∃ s : State, (engine .c s).refreshComes .c = true ∧ (engine .c s).held = true ∧ s.ccp.pinned = some 2) := by
  refine ⟨fun view readout top => ?_, fun d hd => ?_,
    ⟨{ displayWarmReset configured with ccp := { configured.ccp with pinned := some 2 } }, rfl, rfl, rfl⟩⟩
  · exact ⟨setMenuPanel .c ⟨[4], top, .stopped, .none⟩ { configured with
      rvc := { configured.rvc with view := view, health := .good }, ccp := { configured.ccp with latest := some 3 }
      pdu := { configured.pdu with readout := readout } }, rfl, rfl, rfl, rfl, rfl, rfl, rfl, rfl, rfl⟩
  · have shown : ∀ n : Nat, ∃ glyphs : Option (List Nat), GlyphsShown (.distance n) glyphs := by
      intro n
      refine ⟨if 100 ≤ n then some [n / 100, n / 10 % 10, n % 10] else if 10 ≤ n then some [11, n / 10, n % 10] else some [11, 11, n],
        by rintro ⟨⟩, by rintro ⟨⟩, by rintro ⟨⟩, ?_⟩
      rintro m ⟨⟩
      refine ⟨fun h => by simp [h], fun h k => ?_, fun h => ?_⟩
      · rw [if_neg (by omega), if_pos h]
      · rw [if_neg (by omega), if_neg (by omega)]
    simp only [List.mem_cons, List.not_mem_nil, or_false] at hd
    rcases hd with rfl | rfl | rfl | rfl | rfl | rfl | rfl | rfl
    · exact ⟨none, fun _ => rfl, (by rintro ⟨⟩), (by rintro ⟨⟩), by rintro _ ⟨⟩⟩
    · exact ⟨some [12, 12, 12], (by rintro ⟨⟩), fun _ => rfl, (by rintro ⟨⟩), by rintro _ ⟨⟩⟩
    · exact ⟨some [11, 11, 11], (by rintro ⟨⟩), (by rintro ⟨⟩), fun _ => rfl, by rintro _ ⟨⟩⟩
    all_goals exact shown _

/-- The configured part with this engine on C. -/
def withEngine (d : Den) : State := setEngine .c d configured

/-- A line due: line 0 after the blanking interval and the last line, fetched or late; a grant of a line with requests left and its last. -/
theorem wit_LinesAreFetchedAndOutput :
    (∃ s : State, (engine .c s).dueLine .c = some 0 ∧ (engine .c s).buffer.find? (fun l => l.line == 0) = none ∧
      (engine .c s).underflow = false) ∧
    (∀ poison : Bool, ∃ s : State, ∃ b : BufferedLine, (engine .c s).dueLine .c = some 719 ∧
      (engine .c s).buffer.find? (fun l => l.line == 719) = some b ∧ b.poison = poison) ∧
    (∀ rest : List Req, ∃ s : State, ∃ f : FetchingLine, s.fmc.busy = some ⟨.lineFetch .c, []⟩ ∧ (engine .c s).claim = .granted true ∧
      (engine .c s).fetching = some f ∧ f.todo = ⟨0, 16⟩ :: rest) := by
  refine ⟨⟨withEngine { Den.reset with timing := .blanking }, by decide, by decide, rfl⟩, fun poison => ?_, fun rest => ?_⟩
  · exact ⟨withEngine { Den.reset with timing := .line 718, buffer := [⟨719, [], poison⟩] }, ⟨719, [], poison⟩, rfl, rfl, rfl⟩
  · exact ⟨busyWith (.lineFetch .c) [] (withEngine { Den.reset with claim := .granted true, fetching := some ⟨719, [], false, ⟨0, 16⟩ :: rest⟩ }),
      ⟨719, [], false, ⟨0, 16⟩ :: rest⟩, rfl, rfl, rfl, rfl⟩

/-- A page descriptor of 11.6 that reaches the right and lower edges of C, with a readout. -/
def descriptorBeats : List ReadBeat :=
  [⟨put32 0x50414745 ++ put32 1 ++ put16 1280 ++ put16 720 ++ put16 640 ++ put16 0, false⟩,
   ⟨[5, 1] ++ put16 8 ++ put16 8 ++ List.replicate 10 0, false⟩]

/-- The fetch of a request in hand, valid and not. -/
theorem wit_DescriptorIsJudged :
    (∀ r : MenuRequest, ∀ beats : List ReadBeat, ∃ s : State, s.fmc.busy = some ⟨.descriptorFetch, beats⟩ ∧
      s.mnu.fetch = some ⟨.request, 63, true⟩ ∧ s.mnu.claim = .granted true ∧ s.mnu.request = some r ∧
      s.rqe.entry = some ⟨65535, .withOwner⟩ ∧ s.lyu.committed = hostLayout) ∧
    descriptorFailure descriptorBeats .c (rowPages hostLayout.map.menuStore) = none ∧
    descriptorFailure descriptorBeats .rl (rowPages hostLayout.map.menuStore) = some 3 := by
  refine ⟨fun r beats => ?_, by decide +kernel, by decide +kernel⟩
  exact ⟨busyWith .descriptorFetch beats { configured with
    mnu := { configured.mnu with fetch := some ⟨.request, 63, true⟩, claim := .granted true, request := some r }
    rqe := { configured.rqe with entry := some ⟨65535, .withOwner⟩ } }, rfl, rfl, rfl, rfl, rfl, rfl⟩

/-- The fetch of an auto-pop, of a notice page, and one given up. -/
theorem wit_DescriptorIsJudged_purposes :
    ∀ (purpose : MenuPurpose) (live : Bool), ∃ s : State, s.fmc.busy = some ⟨.descriptorFetch, descriptorBeats⟩ ∧
      s.mnu.fetch = some ⟨purpose, 6, live⟩ ∧ s.mnu.claim = .granted true ∧ s.mnu.held = false ∧
      (menuPanel .c s).stack.length = 8 ∧ s.lyu.committed.idleTimeout.get .c = 10 := by
  intro purpose live
  exact ⟨busyWith .descriptorFetch descriptorBeats { withMenu stacked with
    mnu := { (withMenu stacked).mnu with fetch := some ⟨purpose, 6, live⟩, claim := .granted true } }, rfl, rfl, rfl, rfl, rfl, rfl⟩

/-- The fetch of C's auto-pop, judged or given up, while the service notice and RL's auto-pop wait. -/
theorem wit_DescriptorIsJudged_waiting :
    ∀ live : Bool, ∃ s : State, s.fmc.busy = some ⟨.descriptorFetch, descriptorBeats⟩ ∧ s.mnu.held = false ∧ MenuSafe s ∧
      s.mnu.fetch = some ⟨.autoPop .c, 6, live⟩ ∧ s.mnu.claim = .granted true ∧ MenuFetchWaits s .service ∧
      MenuFetchWaits s (.autoPop .rl) := by
  intro live
  let m : MenuPanel := ⟨[1, 2], .invalid, .stopped, .pending⟩
  let s : State := unwinding .pending (some ⟨.autoPop .c, 6, live⟩)
  have safe_rl : m.safe := ⟨by decide, by decide, by decide, by decide, fun _ => ⟨rfl, by decide⟩⟩
  have safe_rr : MenuPanel.reset.safe := ⟨by decide, by decide, by decide, fun _ => rfl, fun h => absurd rfl h⟩
  have safe_c : stacked.safe := ⟨by decide, by decide, by decide, by decide, fun _ => ⟨rfl, by decide⟩⟩
  exact ⟨busyWith .descriptorFetch descriptorBeats { s with
      mnu := { s.mnu with panels := ⟨m, MenuPanel.reset, stacked⟩, claim := .granted true } },
    rfl, rfl, ⟨safe_rl, safe_rr, safe_c, fun _ h => (by cases h), fun _ h _ _ hp => (by cases h; cases hp; rfl)⟩, rfl, rfl,
    ⟨rfl, Option.some_ne_none _⟩, ⟨rfl, Nat.le_refl _⟩⟩

/-- A WRITE of full beats to the watched beats of the anchor page. -/
def watchedWrite (a n : Nat) : HostRequest := writeOf a n 0

/-- Such a WRITE is one to the anchor page outside the status block. -/
theorem watched_writes : ∀ p ∈ [watchedWrite 0x1FFFF200 1, watchedWrite 0x1FFFF250 1, watchedWrite 0x1FFFF200 16, watchedWrite 0x1FFFF260 1,
    ⟨1, 7, 0x1FFFF210, 1, [⟨0x7FFF, 0⟩]⟩], AnchorWrite (asking p configured) p [] := by
  intro p hp
  refine ⟨asking_takes ⟨rfl, rfl, ?_⟩ ?_ ?_, ?_, ?_, ?_, ?_⟩
  case refine_7 => show configured.fmc.wf = true; decide
  all_goals revert p
  all_goals decide

/-- WRITEs of one watched beat, of all six, of none and of a part of one; producers 0, 32, 33, 65503 and 65504 ahead; bases at the last plane
and past it; an audio ring at its capacity and past it. -/
theorem wit_WatchedBeatsAreTaken :
    (∀ p ∈ [watchedWrite 0x1FFFF200 1, watchedWrite 0x1FFFF250 1, watchedWrite 0x1FFFF260 1],
      AnchorWrite (asking p configured) p [] ∧ p.elements = [⟨fullMask, 0⟩]) ∧
    (AnchorWrite (asking (watchedWrite 0x1FFFF200 16) configured) (watchedWrite 0x1FFFF200 16) [] ∧
      (watchedWrite 0x1FFFF200 16).elements = [⟨fullMask, 0⟩, ⟨fullMask, 0⟩, ⟨fullMask, 0⟩, ⟨fullMask, 0⟩, ⟨fullMask, 0⟩, ⟨fullMask, 0⟩]
        ++ List.replicate 10 ⟨fullMask, 0⟩) ∧
    (AnchorWrite (asking ⟨1, 7, 0x1FFFF210, 1, [⟨0x7FFF, 0⟩]⟩ configured) ⟨1, 7, 0x1FFFF210, 1, [⟨0x7FFF, 0⟩]⟩ [] ∧ (0x7FFF#16) ≠ fullMask ∧
      CleanBeats (asking ⟨1, 7, 0x1FFFF210, 1, [⟨0x7FFF, 0⟩]⟩ configured) 0x1FFFF210 1) ∧
    (∀ (held : Bool) (entry : Option Entry) (drain : Drain), ∃ s : State, s.rqe.held = held ∧ s.rqe.entry = entry ∧ s.rqe.drain = drain ∧
      s.rqe.consumer = 65535 ∧ s.rqe.claim = .idle) ∧
    (∀ ahead ∈ [0, 32, 33, 65503, 65504], (BitVec.ofNat 16 (get16 (put16 (65535 + ahead)) 0) - (65535 : Count)).toNat = ahead) ∧
    ((∃ s : State, (engine .c s).held = true) ∧ (engine .c configured).held = false) ∧
    (get8 (zeros 8) 0 = 0 ∧ get8 ([1, 0, 0, 0] ++ put32 0x1FAB9) 0 = 1 ∧ get32 ([1, 0, 0, 0] ++ put32 0x1FAB9) 4 + 1350 = 0x1FFFF ∧
      0x1FFFF < get32 ([1, 0, 0, 0] ++ put32 0x1FABA) 4 + 1350 ∧ 1 < get8 [2] 0) ∧
    ((∃ s : State, s.aop.held = true) ∧ running.lyu.committed.map.audioA = none ∧
      (configured.aop.held = false ∧ configured.lyu.committed.map.audioA = some ⟨0xE000, 4⟩ ∧
        (BitVec.ofNat 16 (get16 (put16 16) 0) - (configured.aop.channels.get .a).consumer).toNat = 4 * 4 ∧
        4 * 4 < (BitVec.ofNat 16 (get16 (put16 17) 0) - (configured.aop.channels.get .a).consumer).toNat)) := by
  refine ⟨?_, ⟨watched_writes _ (by decide), rfl⟩, ⟨watched_writes _ (by decide), by decide, fun _ _ => rfl⟩, fun held entry drain => ?_,
    by decide, ⟨⟨displayWarmReset configured, rfl⟩, rfl⟩, by decide, ⟨{ configured with aop := { configured.aop with held := true } }, rfl⟩, rfl,
    rfl, rfl, by decide, by decide⟩
  · intro p hp
    refine ⟨watched_writes p ?_, ?_⟩ <;> revert p <;> decide
  · exact ⟨{ configured with rqe := { configured.rqe with held := held, entry := entry, drain := drain, consumer := 65535 } },
      rfl, rfl, rfl, rfl, rfl⟩

/-- WRITEs that mix full and partial beats: one that begins next below the watched beats, and one that begins inside them. -/
theorem wit_WatchedBeatsAreTaken_mixed :
    ∀ p ∈ ([⟨1, 7, 0x1FFFF1F0, 3, [⟨fullMask, 0⟩, ⟨fullMask, 1⟩, ⟨1, 0⟩]⟩, ⟨1, 7, 0x1FFFF240, 3, [⟨0x7FFF, 0⟩, ⟨fullMask, 1⟩, ⟨fullMask, 0⟩]⟩] :
        List HostRequest), AnchorWrite (asking p configured) p [] ∧ CleanBeats (asking p configured) (requestBase p) 3 := by
  intro p hp
  refine ⟨⟨asking_takes ⟨rfl, rfl, ?_⟩ ?_ ?_, ?_, ?_, ?_, ?_⟩, fun _ _ => rfl⟩
  case refine_7 => show configured.fmc.wf = true; decide
  all_goals revert p
  all_goals decide

/-! ## Witnesses: the reverse view, the camera, guide lines and park distance -/

/-- A level that differs from the pin's, acting or not, away from the qualified level and back; a pending level that is due, in
every view, with a host request and without, and with a hold and without. -/
theorem wit_RevIsQualifiedAndMovesTheView :
    (∀ (level : RevLevel) (view : View) (host : Bool) (hold : Nat), ∃ s : State, s.rvc.revPending = some ⟨level, s.lyu.partTime⟩ ∧
      reached s.lyu.partTime s.lyu.partTime = true ∧ s.rvc.acting = true ∧ NotDraining s ∧ s.rvc.view = view ∧ s.rvc.hostRequest = host ∧
      s.lyu.committed.reverseHold = hold ∧ s.pdu.held = false ∧ s.pdu.active = false ∧ s.lyu.source = .host) ∧
    (configured.pins.rev ≠ .high ∧ configured.rvc.acting = true ∧ revLevelOf .high ≠ configured.rvc.revQualified) ∧
    State.reset.rvc.acting = false ∧
    (∃ s : State, s.pins.rev ≠ .low ∧ s.rvc.acting = true ∧ revLevelOf .low = s.rvc.revQualified) ∧
    (∃ s : State, s.rvc.revPending = some ⟨.asserted, s.lyu.partTime⟩ ∧ reached s.lyu.partTime s.lyu.partTime = true ∧
      s.rvc.acting = true ∧ s.rvc.view = .normal ∧ NotDraining s ∧ s.gdu.held = false ∧ s.pdu.held = false ∧ s.pdu.active = false ∧
      s.lyu.source = .host) := by
  refine ⟨fun level view host hold => ?_, by decide, rfl, ⟨{ configured with pins := ⟨.high, .low⟩ }, by decide, rfl, rfl⟩,
    ⟨{ configured with rvc := { configured.rvc with revPending := some ⟨.asserted, 1000⟩ } }, rfl, by decide, rfl, rfl, configured_calm, rfl,
      rfl, rfl, rfl⟩⟩
  exact ⟨{ configured with
    rvc := { configured.rvc with revPending := some ⟨level, 1000⟩, view := view, hostRequest := host }
    lyu := { configured.lyu with committed := { hostLayout with reverseHold := hold } } },
    rfl, reached_now _, rfl, configured_calm, rfl, rfl, rfl, rfl, rfl, rfl⟩

/-- HOLD with its timer due, with a staged layout and without. -/
theorem wit_HoldExpiryReturnsToNormal :
    ∀ staged : Option Layout, ∃ s : State, s.rvc.view = .hold ∧ s.rvc.holdTimer = .running s.lyu.partTime ∧
      reached s.lyu.partTime s.lyu.partTime = true ∧ NotDraining s ∧ s.gdu.held = false ∧ s.lyu.staged = staged ∧
      (s.lyu.layoutState = .staged ↔ staged.isSome = true) := by
  intro staged
  refine ⟨{ configured with
    rvc := { configured.rvc with view := .hold, holdTimer := .running 1000 }
    lyu := { configured.lyu with staged := staged, layoutState := if staged.isSome then .staged else .configured } },
    rfl, rfl, reached_now _, configured_calm, rfl, rfl, ?_⟩
  cases staged <;> simp

/-- A deadline due in AWAITING, and a lost timer due in GOOD. -/
theorem wit_SilentCameraIsLost :
    (∃ s : State, s.rvc.firstFrameDeadline = .running s.lyu.partTime ∧ reached s.lyu.partTime s.lyu.partTime = true ∧ s.rvc.health = .awaiting) ∧
    (∃ s : State, s.rvc.lostTimer = .running s.lyu.partTime ∧ reached s.lyu.partTime s.lyu.partTime = true ∧ s.rvc.health = .good) :=
  ⟨⟨{ configured with rvc := { configured.rvc with firstFrameDeadline := .running 1000 } }, rfl, by decide, rfl⟩,
    ⟨{ configured with rvc := { configured.rvc with lostTimer := .running 1000, health := .good } }, rfl, by decide, rfl⟩⟩

/-- A capture that waits with slots 0 to 2 in use; a stopped one; unknown type codes beside those of 11.3. -/
theorem wit_FrameStartTakesAFreeSlot :
    (∃ s : State, s.ccp.capturing = true ∧ s.ccp.held = false ∧ s.ccp.receiving = none ∧ s.ccp.drain = .none ∧ NotDraining s ∧
      s.ccp.lowestFree = some 3) ∧
    (configured.ccp.capturing = false ∧ NotDraining configured) ∧ ((0 : Byte) ≠ 1 ∧ (4 : Byte) ≠ 3) := by
  refine ⟨⟨{ capturing with ccp := { capturing.ccp with receiving := none, reception := .waiting } }, rfl, rfl, rfl, rfl, ?_, by decide⟩,
    ⟨rfl, configured_calm⟩, by decide⟩
  simp only [NotDraining]; decide

/-- A FRAME_START over a receiving frame, whose slot is then the lowest FREE one, with no drain and in one that waits for CHU; and without a
receiving frame in such a drain. -/
theorem wit_FrameStartTakesAFreeSlot_over :
    (NotLast (framing .engaged 720) [.none, .none] ∧ (framing .engaged 720).ccp.receiving.isSome = true ∧
      Ccp.lowestFree { (framing .engaged 720).ccp with receiving := none } = some 0) ∧
    (∀ receiving : Option ReceivingFrame, ∃ s : State, s.ccp.capturing = true ∧ s.ccp.held = false ∧ s.ccp.receiving = receiving ∧
      s.ccp.drain = .draining ∧ s.ccp.closing = none ∧ NotLast s [s.rqe.drain, s.chu.drain] ∧ s.rvc.health = .lost) := by
  refine ⟨⟨calm_notLast (by simp only [NotDraining]; decide) _, rfl, by decide⟩, fun receiving => ?_⟩
  exact ⟨drainOf .drained .draining .draining .high { framing .engaged 720 with
    ccp := { (framing .engaged 720).ccp with receiving := receiving }, rvc := { (framing .engaged 720).rvc with health := .lost } },
    rfl, rfl, rfl, rfl, rfl, Or.inr ⟨.draining, List.mem_cons_of_mem _ List.mem_cons_self, by decide⟩, rfl⟩

/-- A frame in reception whose next line is the last, with this buffer. -/
def receiving (nextLine : Nat) (buffer : List CameraLine) : State :=
  { configured with ccp := { configured.ccp with
    capturing := true, reception := .receiving, receiving := some ⟨3, 8, nextLine, 0x10546000⟩, buffer := buffer } }

/-- The line check of 2560 zero bytes, from the definition of 11.3. -/
theorem zero_line_check : goodCheck (List.replicate 2560 0) (lineCheck (List.replicate 2560 0)) = true := by
  simp only [goodCheck, List.length_replicate, beq_self_eq_true, Bool.and_self]

/-- The last line in order with room; out of order; a bad check; a full buffer. -/
theorem wit_LineIsJudged :
    ((receiving 719 []).ccp.capturing = true ∧ (receiving 719 []).ccp.held = false ∧
      (receiving 719 []).ccp.receiving = some ⟨3, 8, 719, 0x10546000⟩ ∧ NotDraining (receiving 719 []) ∧
      (719 : Count).toNat = 719 ∧ goodCheck (List.replicate 2560 0) (lineCheck (List.replicate 2560 0)) = true ∧
      (receiving 719 []).ccp.buffer.length < 4) ∧
    (718 : Count).toNat ≠ 719 ∧ goodCheck [] 0 = false ∧ 4 ≤ (receiving 719 (List.replicate 4 ⟨0, 0, 0, [], 0⟩)).ccp.buffer.length := by
  refine ⟨⟨rfl, rfl, rfl, configured_calm, by decide, zero_line_check, by decide⟩, by decide, by decide, by decide⟩

/-- A frame with a line missing and a whole one, its lines written and not; a line with its last request written and an earlier one. -/
theorem wit_WholeFrameBecomesLatest :
    (∀ (nextLine : Nat) (buffer : List CameraLine), (receiving nextLine buffer).ccp.capturing = true ∧
      (receiving nextLine buffer).ccp.receiving = some ⟨3, 8, nextLine, 0x10546000⟩ ∧ NotDraining (receiving nextLine buffer)) ∧
    (∀ written : Nat, ∃ s : State, s.fmc.busy = some ⟨.cameraWrite, []⟩ ∧ s.ccp.claim = .granted true ∧
      s.ccp.buffer = [⟨3, 0x10546000, 0, [], written⟩] ∧ s.ccp.closing = some ⟨3, 8⟩ ∧ NotDraining s) ∧
    0 + (⟨3, 0x10546000, 0, [], 0⟩ : CameraLine).request.beats < 160 ∧ 160 ≤ 144 + (⟨3, 0x10546000, 0, [], 144⟩ : CameraLine).request.beats := by
  refine ⟨fun nextLine buffer => ⟨rfl, rfl, configured_calm⟩, fun written => ?_, by decide, by decide⟩
  exact ⟨busyWith .cameraWrite [] { configured with ccp := { configured.ccp with
    capturing := true, claim := .granted true, buffer := [⟨3, 0x10546000, 0, [], written⟩], closing := some ⟨3, 8⟩ } }, rfl, rfl, rfl, rfl,
    configured_calm⟩

/-- A frame in reception in every health, with a recovery count of 0 and of 1, in a drain that waits for CHU; no frame in reception,
DISCARDING; and stopped capture. -/
theorem wit_WholeFrameBecomesLatest_health :
    (∀ (health : Health) (count : Nat) (receiving : Option ReceivingFrame), ∃ s : State, s.rvc.health = health ∧ s.rvc.recoveryCount = count ∧
      s.ccp.capturing = true ∧ s.ccp.held = false ∧ s.ccp.receiving = receiving ∧ s.ccp.reception = .discarding ∧ s.ccp.closing = none ∧
      s.ccp.drain = .draining ∧ NotLast s [s.rqe.drain, s.chu.drain] ∧ ∀ l ∈ s.ccp.buffer, l.slot ≠ 3) ∧
    (configured.ccp.capturing = false ∧ NotLast configured [configured.rqe.drain, configured.chu.drain]) := by
  refine ⟨fun health count receiving => ?_, rfl, calm_notLast configured_calm _⟩
  refine ⟨drainOf .drained .draining .draining .high { framing .engaged 720 with
    ccp := { (framing .engaged 720).ccp with receiving := receiving, reception := .discarding }
    rvc := { (framing .engaged 720).rvc with health := health, recoveryCount := count } },
    rfl, rfl, rfl, rfl, rfl, rfl, rfl, rfl, Or.inr ⟨.draining, List.mem_cons_of_mem _ List.mem_cons_self, by decide⟩, ?_⟩
  intro l hl
  rw [List.mem_singleton.mp hl]; decide

/-- A stale timer due, working with a live bank and not; a distance timer due, with park settings and without. -/
theorem wit_SilentSensorsAreReported :
    (∀ working reported : Bool, ∃ s : State, s.gdu.staleTimer = .running s.lyu.partTime ∧ reached s.lyu.partTime s.lyu.partTime = true ∧
      s.gdu.working = working ∧ s.gdu.liveBank ≠ none ∧ s.gdu.staleReported = reported) ∧
    (∀ fault : Bool, ∃ s : State, s.pdu.distanceTimer = .running s.lyu.partTime ∧ reached s.lyu.partTime s.lyu.partTime = true ∧
      s.lyu.committed.park = some parkSettings ∧ s.pdu.sensorFault = fault) ∧
    (∃ s : State, s.pdu.distanceTimer = .running s.lyu.partTime ∧ reached s.lyu.partTime s.lyu.partTime = true ∧ s.lyu.committed.park = none) := by
  refine ⟨fun working reported => ?_, fun fault => ?_, ?_⟩
  · exact ⟨{ configured with gdu := { configured.gdu with
      staleTimer := .running 1000, working := working, liveBank := some .bank0, staleReported := reported } }, rfl, reached_now _, rfl, by simp, rfl⟩
  · exact ⟨{ configured with pdu := { configured.pdu with distanceTimer := .running 1000, sensorFault := fault } }, rfl, reached_now _, rfl, rfl⟩
  · exact ⟨{ running with pdu := { running.pdu with distanceTimer := .running 1000 } }, rfl, by decide, rfl⟩

/-- A distance beat of 11.2 with a valid set. -/
def distanceOf (valid d0 d1 d2 d3 : Byte) : List Byte := [1, 0, valid, d0, d1, d2, d3] ++ List.replicate 9 0

/-- A free and a held GDU; an active PDU, with enough valid sensors, with none below 255, at a threshold, and with too few. -/
theorem wit_SensorBeatsAreTaken :
    (configured.gdu.held = false ∧ ∃ s : State, s.gdu.held = true) ∧ (configured.pdu.active = false) ∧
    (∃ s : State, s.pdu.held = false ∧ s.pdu.active = true ∧ s.lyu.committed.park = some parkSettings ∧ s.pdu.sensorFault = false) ∧
    (parkSettings.minValid ≤ (parseDistance (distanceOf 7 255 150 200 0)).validCount ∧
      (parseDistance (distanceOf 7 255 150 200 0)).nearest = some 150) ∧
    (parseDistance (distanceOf 15 255 255 255 255)).nearest = none ∧
    (parseDistance (distanceOf 3 255 1 1 1)).validCount < parkSettings.minValid := by
  refine ⟨⟨rfl, guideWarmReset configured, ?_⟩, rfl, ⟨{ configured with pdu := { configured.pdu with active := true } }, rfl, rfl, rfl, rfl⟩,
    by decide +kernel, by decide +kernel, by decide +kernel⟩
  simp only [guideWarmReset, markDirty]; unfold setGdu; split <;> rfl

/-- The bytes of a guide list of one segment (11.6). -/
def guideBeats (beats x1 : Nat) : List ReadBeat :=
  ⟨put16 1 ++ List.replicate 14 0, false⟩ :: ⟨put16 0 ++ put16 0 ++ put16 x1 ++ put16 719 ++ [8, 3] ++ List.replicate 6 0, false⟩
    :: List.replicate (beats - 2) ⟨List.replicate 16 0, false⟩

/-- The last grant of a fetch that counts and of one given up; a list that passes at its bounds and one that fails check 2. -/
theorem wit_GuideListIsJudged :
    (∀ givenUp : Bool, ∃ s : State, s.fmc.busy = some ⟨.guideList, guideBeats 13 1279⟩ ∧
      s.gdu.fetch = some ⟨.bucket 32, .bank1, givenUp, 0, []⟩ ∧ s.gdu.claim = .granted true) ∧
    GuideList.beats (.bucket 32) ≤ (([] : List ReadBeat) ++ guideBeats 13 1279).length ∧
    judgeGuideList (.bucket 32) (guideBeats 13 1279) = .valid [⟨0, 0, 1279, 719, 8, 3⟩] ∧
    judgeGuideList .static (guideBeats 17 1280) = .invalid 2 (some 0) := by
  refine ⟨fun givenUp => ?_, by decide, by decide +kernel, by decide +kernel⟩
  exact ⟨busyWith .guideList (guideBeats 13 1279) { configured with gdu := { configured.gdu with
    fetch := some ⟨.bucket 32, .bank1, givenUp, 0, []⟩, claim := .granted true } }, rfl, rfl, rfl⟩

/-! ## Witnesses: chimes and audio -/

/-- A chime directory entry at its bounds (11.6). -/
def clipEntryBeat : List ReadBeat := [⟨put32 1 ++ put16 4 ++ [15] ++ List.replicate 9 0, false⟩]

/-- Its voice is not IDLE. -/
theorem chiming_busy : chiming.chu.voice.state ≠ .idle := by decide

/-- A directory entry that passes and one that fails, with chimes behind it and none, also in a drain; the first and the second grant of a
block; the third and the fourth grant of a film audio block, and a fetch given up. -/
theorem wit_ClipAndAudioFetchesFillTheBuffers :
    (∀ (beats : List ReadBeat) (queue : List Chime) (drain : Drain), ∃ s : State, s.fmc.busy = some ⟨.clipDirectory, beats⟩ ∧ s.chu.claim = .granted true ∧
      s.chu.fetch = some ⟨.directory, false, 0, []⟩ ∧ s.chu.voice.state = .starting ∧ s.chu.voice.current = none ∧
      s.chu.queue = queue ∧ s.chu.drain = drain ∧ s.chu.held = false) ∧
    clipEntryFailure clipEntryBeat (rowPages configured.lyu.committed.map.chimeStore) = none ∧
    clipEntryFailure [⟨List.replicate 16 0, false⟩] (rowPages configured.lyu.committed.map.chimeStore) = some 1 ∧
    (∀ grants : Nat, ∃ s : State, s.fmc.busy = some ⟨.clipBlock, []⟩ ∧ s.chu.fetch = some ⟨.block 0, false, grants, []⟩ ∧
      s.chu.claim = .granted true ∧ s.chu.voice.state ≠ .idle) ∧
    (∀ (givenUp : Bool) (grants : Nat), ∃ s : State, s.fmc.busy = some ⟨.audioBlock, []⟩ ∧
      s.aop.inFlight = some (.a, ⟨65535, givenUp, grants, []⟩) ∧ s.aop.claim = .granted true ∧ s.aop.held = false) := by
  refine ⟨fun beats queue drain => ?_, by decide +kernel, by decide +kernel, fun grants => ?_, fun givenUp grants => ?_⟩
  · exact ⟨busyWith .clipDirectory beats { configured with chu := { configured.chu with
      voice := { configured.chu.voice with state := .starting, chime := chimeOf 31 7 0 }, fetch := some ⟨.directory, false, 0, []⟩
      claim := .granted true, queue := queue, drain := drain } }, rfl, rfl, rfl, rfl, rfl, rfl, rfl, rfl⟩
  · exact ⟨busyWith .clipBlock [] { chiming with chu := { chiming.chu with fetch := some ⟨.block 0, false, grants, []⟩, claim := .granted true } },
      rfl, rfl, rfl, chiming_busy⟩
  · exact ⟨busyWith .audioBlock [] { screening with aop := { screening.aop with
      channels := ⟨⟨8, 65535, [], none, some ⟨65535, givenUp, grants, []⟩, false⟩, AudioChannel.reset⟩, claim := .granted true } }, rfl, rfl, rfl, rfl⟩

/-- A wrap that is due with each pending field; a tick with the counter just below its period, at it, and in INIT. -/
theorem wit_ToneCountsAndWraps :
    (∀ pending : TonePending, ∃ s : State, s.chu.tone.sounding = true ∧ s.chu.tone.wrapDue = true ∧ s.chu.tone.pending = pending) ∧
    (∀ counter : Nat, ∃ s : State, s.lyu.partState = .running ∧ s.chu.tone.sounding = true ∧ s.chu.tone.wrapDue = false ∧
      s.chu.tone.counter = counter ∧ s.chu.tone.cadence.period = 20) ∧
    State.reset.lyu.partState = .init := by
  refine ⟨fun pending => ?_, fun counter => ?_, rfl⟩
  · exact ⟨{ configured with chu := { configured.chu with tone := { Tone.silent with sounding := true, wrapDue := true, pending := pending } } },
      rfl, rfl, rfl⟩
  · exact ⟨{ configured with chu := { configured.chu with tone := { Tone.silent with sounding := true, counter := counter, cadence := ⟨20, 1⟩ } } },
      rfl, rfl, rfl, rfl, rfl⟩

/-- Channel B does not play. -/
theorem silent_b : (screening.fsq.get .b).state ≠ .playing := by decide

/-- AOP held and not; a PLAYING channel with the block at consumer, with a late one, and with an empty ring. -/
theorem wit_BlockBoundarySettlesTheBlock :
    (∀ held : Bool, ∃ s : State, s.aop.held = held ∧ NotDraining s) ∧
    (∀ c : AudioChannel, ∃ s : State, s.aop.held = false ∧ NotDraining s ∧ (s.fsq.get .a).state = .playing ∧ s.aop.channels.get .a = c ∧
      (s.fsq.get .b).state ≠ .playing) ∧
    (⟨8, 65535, [⟨65535, [], true⟩], none, none, false⟩ : AudioChannel).buffered 65535 = some ⟨65535, [], true⟩ ∧
    (⟨8, 65535, [], none, none, false⟩ : AudioChannel).inRing 65535 = true ∧ AudioChannel.reset.inRing 0 = false := by
  refine ⟨fun held => ⟨{ configured with aop := { configured.aop with held := held } }, rfl, configured_calm⟩, fun c => ?_, by decide⟩
  exact ⟨{ screening with aop := { screening.aop with channels := ⟨c, AudioChannel.reset⟩ } }, rfl, configured_calm, rfl, rfl, silent_b⟩

/-- The tone heard by its counter, by beep_started and not; both channels with an underrun that is due, and channel A with none; a drain that
waits for RQE. -/
theorem wit_BlockBoundarySettlesTheBlock_sound :
    (toneHeard ⟨true, ⟨600, 100⟩, 99, .none, false, 0, false⟩ ∧ toneHeard ⟨true, ⟨600, 100⟩, 100, .none, true, 0, false⟩ ∧
      ¬ toneHeard ⟨true, ⟨600, 100⟩, 100, .none, false, 0, false⟩) ∧
    (∃ s : State, s.aop.held = false ∧ NotLast s [s.rqe.drain, s.ccp.drain] ∧ UnderrunDue s .a ∧ UnderrunDue s .b) ∧
    ¬ UnderrunDue configured .a ∧
    NotLast (drainOf .draining .drained .draining .high chiming) [.draining, .drained] := by
  simp only [toneHeard, UnderrunDue]
  refine ⟨by decide, ⟨{ configured with fsq := ⟨playing, playing⟩ }, rfl, calm_notLast configured_calm _, by decide, by decide⟩, by decide,
    Or.inr ⟨.draining, List.mem_cons_self, by decide⟩⟩

/-- A voice that holds clip 0, with these fields. -/
def voiceOf (state : VoiceState) (priority plays : Nat) (requeue stop : Bool) (position : Nat) (current next : Option ClipBlock) : Voice :=
  { Voice.blank false with
    state := state, chime := { chimeOf 0 priority 9 with plays := plays, requeue := requeue }, entry := some ⟨0x0D000000, 1, 4, 0⟩
    position := position, current := current, next := next, pendingStop := stop }

/-- A clip voice in a drain; preempted with 1 to 8 chimes behind it, the last one lower and not; in each state, stopped and not, at its last
block and before it, with its next block in hand, with another, and with none; an AOP that is not held. -/
theorem wit_ClipVoiceSettles :
    (∀ (queue : List Chime) (v : Voice) (drain : Drain), ∃ s : State, s.chu.queue = queue ∧ s.chu.voice = v ∧ s.chu.drain = drain ∧
      s.chu.held = false ∧ s.aop.held = false ∧ NotDraining s ∧ s.lyu.committed.chimeMap.faultCritical = none ∧
      ∀ x : Channel, (s.fsq.get x).state ≠ .playing) ∧
    ((chimeOf 1 7 0).priority > (voiceOf .starting 6 1 true false 0 none none).chime.priority ∧
      (∀ q ∈ chiming.chu.queue, q.clip ≠ (voiceOf .starting 6 1 true false 0 none none).chime.clip) ∧
      (∃ kept, chiming.chu.queue = chimeOf 1 7 0 :: (kept ++ [chimeOf 31 1 8])) ∧
      (chimeOf 31 1 8).priority < (voiceOf .playing 2 1 true false 0 none none).chime.priority ∧
      (voiceOf .playing 1 1 true false 0 none none).chime.priority ≤ (chimeOf 31 1 8).priority) ∧
    ((voiceOf .playing 7 1 false false 3 none none).position + 1 = 4 ∧ (voiceOf .playing 7 0 false false 3 none none).chime.plays ≠ 1 ∧
      (voiceOf .playing 7 1 false false 2 none (some ⟨3, [], false⟩)).position + 1 < 4) := by
  refine ⟨fun queue v drain => ?_, ⟨by decide, by decide, ⟨(chiming.chu.queue.drop 1).dropLast, by decide⟩, by decide, by decide⟩, by decide⟩
  exact ⟨{ configured with chu := { configured.chu with queue := queue, voice := v, drain := drain } }, rfl, rfl, rfl, rfl, rfl, configured_calm,
    rfl, fun x => show (configured.fsq.get x).state ≠ .playing by cases x <;> decide⟩

/-! ## One command at a time: expected values worked out from the rules -/

/-- POWER_ON_RESET leaves INIT with credits 0 (R34, R3). -/
theorem test_powerOnReset : afterwards .powerOnReset capturing (fun t => (t.lyu.partState, t.hlp.credits)) = some (.init, 0) := by decide

/-- INIT_END gives the host 32 credits and raises RESET_DONE, cause 5 (R35). -/
theorem test_initEnd : afterwards .initEnd State.reset (fun t => (t.hlp.credits, t.flt.causes, t.attn)) = some (32, 32#6, .high) := by decide

/-- One disturbed cell makes its beat CORRECTABLE at that bit (section 1.8). -/
theorem test_memoryCellDisturbance :
    afterwards (.memoryCellDisturbance 2 0x100) running (fun t => (t.fmc.mark 32, readByte t.fmc.cells 33)) = some (.correctable 8, 1) := by
  decide +kernel

/-- An accepted request takes a credit (R1). -/
theorem test_hostRequestPacket :
    afterwards (.hostRequestPacket (readOf 0 1)) running (fun t => (t.hlp.credits, t.hlp.queue.length)) = some (31, 1) := by decide

/-- HOST in tier 3 is granted before RQE in tier 4 (R18). -/
theorem test_arbiterGrant_tiers :
    afterwards .arbiterGrant (asking (readOf 16 1) (claiming 0x1FFFF300)) (fun t => t.fmc.busy.map fun g => g.kind.port) = some (some .host) := by
  decide +kernel

/-- A partial write writes only the byte enabled (R6, R16). -/
theorem test_arbiterGrant_partial_write :
    afterwards .arbiterGrant (asking ⟨1, 1, 0x40, 1, [⟨0x0002, 0xAABB⟩]⟩ configured)
      (fun t => (readByte t.fmc.cells 0x40, readByte t.fmc.cells 0x41)) = some (0, 0xAA) := by decide +kernel

/-- The response takes the request off the queue and returns its credit (R2). -/
theorem test_hostGrantComplete :
    afterwards .hostGrantComplete (busyWith (.hostTake ⟨9, .ok, []⟩) [] (asking (readOf 0 1) running))
      (fun t => (t.hlp.credits, t.hlp.queue, t.hlp.sent)) = some (32, [], some ⟨9, .ok, []⟩) := by decide

/-- The response packet carries outcome POISONED as code 3 and its tag, then the data (R2, 11.1). -/
theorem test_hostGrantComplete_bytes :
    afterwards .hostGrantComplete (busyWith (.hostTake ⟨9, .poisoned, [[5, 6]]⟩) [] (asking (readOf 0 1) running)) State.linkBytes
      = some [3, 9, 0, 0, 5, 6] := by decide

/-- RQE holds the two beats of an entry also when one of them is poisoned (R44). -/
theorem test_entryFetchComplete_keeps_poisoned_beats :
    afterwards .entryFetchComplete (busyWith .entryFetch [⟨[1], true⟩, ⟨[2], false⟩] (fetching 0 [] running))
      (fun t => (t.rqe.fetched, t.stw.result.map fun r => r.code.code)) = some ([1, 2], some 13) := by decide

/-- A valid trailer queues the fill slot, and under KEEP_ALL two waiting frames leave no fill slot (R69, R70). -/
theorem test_arbiterGrant_trailer :
    afterwards .arbiterGrant (asking (writeOf 0x081F4000 1 (trailerBeat 4)) screening) (fun t => (t.fsq.a.queue, t.fsq.a.fill))
      = some ([1, 2], none) := by decide +kernel

/-- ATTN_ACK of a cause set above 63 is a BAD_ARGUMENT, code 4 (R173). -/
theorem test_entryFetchComplete_bad_argument :
    answerOf .entryFetchComplete (fetching 0 (entryOf 16 [64]) configured) = some (some 4) := by decide +kernel

/-- FILM_PLAY while the default layout is committed is NOT_CONFIGURED, code 5 (R45). -/
theorem test_entryFetchComplete_not_configured :
    answerOf .entryFetchComplete (fetching 0 (entryOf 2 []) running) = some (some 5) := by decide +kernel

/-- The second half of the layout record is read at 0x1FFFF100 (R25). -/
theorem test_layoutFetchGrantComplete :
    afterwards .layoutFetchGrantComplete
      (busyWith .layoutFetch [] { configured with lyu := { configured.lyu with commit := .firstHalf, claim := .granted true } })
      (fun t => t.lyu.claim) = some (.waiting ⟨0x1FFFF100, 16⟩) := by decide

/-- The configured part with a record under validation in its last entry. -/
def validating (record : List Byte) : State :=
  { configured with
    lyu := { configured.lyu with commit := .validating record }, rqe := { configured.rqe with producer := 1, entry := some ⟨0, .withOwner⟩ } }

/-- A valid record in the NORMAL view is applied: the GLYPHS row and the idle timeout of C are those written (R28, 11.4). -/
theorem test_validationEnd_applies :
    afterwards .validationEnd (validating hostRecord) (fun t => (t.lyu.committed.map.glyphs, t.lyu.committed.idleTimeout.c, t.lyu.layoutState))
      = some (some ⟨0xC000, 20⟩, 10, .configured) := by decide +kernel

/-- A record with a wrong code is answered BAD_ARGUMENT, code 4, with check 1 (R26, R27). -/
theorem test_validationEnd_rejects :
    afterwards .validationEnd (validating []) (fun t => (t.stw.result.map fun r => r.code.code, t.lyu.lastCommitCheck))
      = some (some 4, some 1) := by decide +kernel

/-- consumer wraps from 65535 to 0 (R47). -/
theorem test_resultWriteComplete :
    afterwards .resultWriteComplete
      (busyWith .resultWrite [] { configured with
        stw := { configured.stw with result := some ⟨31, .ok⟩ }
        rqe := { configured.rqe with consumer := 65535, entry := some ⟨65535, .writingResult⟩ } })
      (fun t => (t.rqe.consumer, t.rqe.entry)) = some (0, none) := by decide +kernel

/-- The lowest dirty section is claimed next (R36). -/
theorem test_statusSectionWriteComplete :
    afterwards .statusSectionWriteComplete
      (busyWith .statusSection [] { configured with stw := ⟨⟨false, false, false, true, false, true, false, false⟩, none, .sectionGranted⟩ })
      (fun t => t.stw.claim) = some (.sectionWaiting .s3) := by decide

/-- A drain has a limit of 100 ms (R38). -/
theorem test_wrstAssert : afterwards .wrstAssert (fetching 0 [] running) (fun t => (t.lyu.phase, t.lyu.drainLimit))
    = some (.draining, .running 1100) := by decide +kernel

/-- At the limit the reset is applied, and the cause set is emptied (R38, R175). -/
theorem test_drainLimitExpiry :
    afterwards .drainLimitExpiry { running with lyu := { running.lyu with phase := .draining, drainLimit := .running 1000 }, pins := ⟨.low, .high⟩ }
      (fun t => (t.lyu.phase, t.flt.causes)) = some (.held, 0) := by decide +kernel

/-- The release counts the reset (R40). -/
theorem test_wrstDeassert :
    afterwards .wrstDeassert { running with lyu := { running.lyu with phase := .held, resetCount := 65535 }, pins := ⟨.low, .high⟩ }
      (fun t => (t.lyu.phase, t.lyu.resetCount, t.flt.causes)) = some (.none, 0, 32#6) := by decide +kernel

/-- The hold runs out: the queue's head is SHOWN for its delay, and the slot shown before is freed as its scan hold moves on (R72, R77). -/
theorem test_refreshStart_presents :
    afterwards (.refreshStart .rl) screening (fun t => (t.fsq.a.shown, t.fsq.a.holdCount, (t.fsq.a.slots.get 0).state, t.den.holdRl))
      = some (some 1, 3, .free, some ⟨.a, 1⟩) := by decide +kernel

/-- C in the NORMAL view with no UI base shows the background alone (R57). -/
theorem test_refreshStart_centre :
    afterwards (.refreshStart .c) configured (fun t => (engine .c t).plan) = some (Plan.fillOnly Colour.black) := by decide +kernel

/-- A late line is reported once in a refresh (R63). -/
theorem test_lineDue_late :
    afterwards (.lineDue .c) (withEngine { Den.reset with timing := .blanking }) (fun t => ((engine .c t).underflow, t.flt.first.advisory.map
      fun r => r.report.detail)) = some (true, some (.lateLine 0)) := by decide +kernel

/-- The last request of a line puts it into the buffer (R62). -/
theorem test_lineFetchGrantComplete :
    afterwards .lineFetchGrantComplete
      (busyWith (.lineFetch .c) [⟨[1], true⟩] (withEngine { Den.reset with claim := .granted true, fetching := some ⟨719, [], false, [⟨0, 16⟩]⟩ }))
      (fun t => (engine .c t).buffer) = some [⟨719, [1], true⟩] := by decide +kernel

/-- The configured part with a menu request in hand whose fetch is about to complete. -/
def menuFetching (r : MenuRequest) (m : MenuPanel) : State :=
  { withMenu m with
    mnu := { (withMenu m).mnu with fetch := some ⟨.request, r.page, true⟩, claim := .granted true, request := some r }
    rqe := { configured.rqe with producer := 1, entry := some ⟨0, .withOwner⟩ } }

/-- A valid descriptor pushes the page, answered OK (R95). -/
theorem test_descriptorFetchComplete :
    afterwards .descriptorFetchComplete (busyWith .descriptorFetch descriptorBeats (menuFetching ⟨.push, .c, 9⟩ MenuPanel.reset))
      (fun t => ((menuPanel .c t).stack, (menuPanel .c t).idle, t.stw.result)) = some ([9], .running 11000, some ⟨0, .ok⟩) := by decide +kernel

/-- A single page is removed by its idle timer (R101). -/
theorem test_idleTimerExpiry :
    afterwards (.idleTimerExpiry .c) (withMenu ⟨[4], .invalid, .running 1000, .none⟩) (fun t => (menuPanel .c t)) = some MenuPanel.reset := by
  decide +kernel

/-- A new level is pending for 20 ms (R108). -/
theorem test_revEdge : afterwards (.revEdge .high) running (fun t => t.rvc.revPending) = some (some ⟨.asserted, 1020⟩) := by decide +kernel

/-- REV asserted engages the view, with the first-frame deadline 250 ms on (R111). -/
theorem test_revPendingExpiry :
    afterwards .revPendingExpiry { configured with rvc := { configured.rvc with revPending := some ⟨.asserted, 1000⟩ } }
      (fun t => (t.rvc.view, t.rvc.firstFrameDeadline, t.pdu.active)) = some (.engaged, .running 1250, true) := by decide +kernel

/-- A pending level not yet stable for 20 ms is not qualified (R108, log 1). -/
theorem test_revPendingExpiry_early :
    afterwards .revPendingExpiry { configured with rvc := { configured.rvc with revPending := some ⟨.asserted, 1001⟩ } }
      (fun t => t.rvc.view) = some .normal := by decide +kernel

/-- HOLD ends in NORMAL and capture stops (R114, R125). -/
theorem test_holdTimerExpiry :
    afterwards .holdTimerExpiry
      { configured with
        rvc := { configured.rvc with view := .hold, holdTimer := .running 1000 }, ccp := { configured.ccp with capturing := true } }
      (fun t => (t.rvc.view, t.ccp.capturing)) = some (.normal, false) := by decide +kernel

/-- The deadline without a good frame loses the camera (R116, R117). -/
theorem test_firstFrameDeadlineExpiry :
    afterwards .firstFrameDeadlineExpiry { configured with rvc := { configured.rvc with firstFrameDeadline := .running 1000 } }
      (fun t => (t.rvc.health, t.flt.first.critical.map (fun r => r.report.detail), t.flt.first.serious.map fun r => r.report.detail))
      = some (.lost, none, some (.cameraLost true none)) := by decide +kernel

/-- 100 ms without a good frame lose the camera (R117). -/
theorem test_lostTimerExpiry :
    afterwards .lostTimerExpiry
      { configured with rvc := { configured.rvc with lostTimer := .running 1000, health := .good, lastGoodFrameNo := some 8 } }
      (fun t => (t.rvc.health, t.flt.first.serious.map fun r => r.report.detail)) = some (.lost, some (.cameraLost false (some 8))) := by
  decide +kernel

/-- A frame start takes the lowest slot that is in no use (R120). -/
theorem test_frameStart :
    afterwards (.frameStart 9) { capturing with ccp := { capturing.ccp with receiving := none, reception := .waiting } }
      (fun t => t.ccp.receiving) = some (some ⟨3, 9, 0, 0x10546000⟩) := by decide +kernel

/-- A line with another number than next_line damages the frame (R121, R123). -/
theorem test_line_outOfOrder :
    afterwards (.line 718 [] 0) (receiving 719 []) (fun t => (t.ccp.receiving, t.ccp.reception, t.ccp.framesDamaged))
      = some (none, .discarding, 1) := by decide +kernel

/-- A whole frame with no line left becomes latest (R122). -/
theorem test_frameEnd_whole :
    afterwards .frameEnd (receiving 720 []) (fun t => (t.ccp.latest, t.rvc.health, t.rvc.lostTimer)) = some (some 3, .good, .running 1100) := by
  decide +kernel

/-- An unknown packet changes nothing (R176). -/
theorem test_unknownCameraPacket : afterwards (.unknownCameraPacket 0) capturing (fun t => t.ccp) = some capturing.ccp := by decide +kernel

/-- The last request of the last line makes the closing frame's slot latest (R122). -/
theorem test_cameraLineWriteComplete :
    afterwards .cameraLineWriteComplete
      (busyWith .cameraWrite [] { configured with ccp := { configured.ccp with
        capturing := true, claim := .granted true, buffer := [⟨2, 0x10384000, 719, [], 144⟩], closing := some ⟨2, 7⟩ } })
      (fun t => (t.ccp.latest, t.ccp.buffer, t.ccp.framesGood)) = some (some 2, [], 1) := by decide +kernel

/-- 300 ms without a steering beat make the steering STALE (R131). -/
theorem test_staleTimerExpiry :
    afterwards .staleTimerExpiry { configured with gdu := { configured.gdu with staleTimer := .running 1000, steeringState := .fresh } }
      (fun t => t.gdu.steeringState) = some .stale := by decide +kernel

/-- An angle of −125.0 degrees wants bucket 12, and +480.0 and −480.0 the last and the first (R130). -/
theorem test_bucketOf : bucketOf (-1250) = 12 ∧ bucketOf 4800 = 32 ∧ bucketOf (-4800) = 0 ∧ bucketOf 0 = 16 := by decide

/-- A static list of one segment fills its cache (R137). -/
theorem test_guideListGrantComplete :
    afterwards .guideListGrantComplete
      (busyWith .guideList [⟨List.replicate 16 0, false⟩] { configured with gdu := { configured.gdu with
        working := true, liveBank := some .bank0, fetch := some ⟨.static, .bank0, false, 1, (guideBeats 17 1279).take 16⟩, claim := .granted true } })
      (fun t => t.gdu.staticCache) = some (.valid [⟨0, 0, 1279, 719, 8, 3⟩]) := by decide +kernel

/-- 300 ms without a distance beat are a sensor fault (R141). -/
theorem test_distanceTimerExpiry :
    afterwards .distanceTimerExpiry
      { configured with pdu := { configured.pdu with active := true, zone := 3, handed := .zone 3, distanceTimer := .running 1000 } }
      (fun t => (t.pdu.sensorFault, t.pdu.zone, t.pdu.readout, t.pdu.handed)) = some (true, 0, .fault, .halt) := by decide +kernel

/-- A nearest distance equal to t3 lies in zone 2 (R140). -/
theorem test_distanceBeat_zone :
    ((distanceBeat (distanceOf 15 255 60 140 255) { configured with pdu := { configured.pdu with active := true } }).pdu.zone,
      (distanceBeat (distanceOf 15 255 60 140 255) { configured with pdu := { configured.pdu with active := true } }).pdu.readout)
      = (2, .distance 60) := by decide +kernel

/-- A STARTING voice whose directory entry is fetched claims block 0 of its clip (R151). -/
theorem test_clipDirectoryFetchComplete :
    afterwards .clipDirectoryFetchComplete
      (busyWith .clipDirectory clipEntryBeat { configured with chu := { configured.chu with
        voice := { configured.chu.voice with state := .starting, chime := chimeOf 31 7 0 }, fetch := some ⟨.directory, false, 0, []⟩
        claim := .granted true } })
      (fun t => t.chu.claim) = some (.waiting ⟨0x0D000200, 16⟩) := by decide +kernel

/-- Eight chimes of one priority, from clip 1 on. -/
def eightWaiting : List Chime := (List.range 8).map fun k => chimeOf (k + 1) 2 k

/-- An invalid entry under a SAFE action: its chime is dropped and the head taken, and then FAULT_CRITICAL, which names the dropped clip, finds
room for a new entry at the head of the queue, with nothing evicted (R147, R149, R151, R168, log 48). -/
theorem test_clipDirectoryFetchComplete_invalid :
    afterwards .clipDirectoryFetchComplete
      (busyWith .clipDirectory [⟨List.replicate 16 0, false⟩] { configured with
        lyu := { configured.lyu with committed := { hostLayout with
          action := ⟨.safe, .safe, .safe⟩, chimeMap := { hostLayout.chimeMap with faultCritical := some ⟨31, 7, ⟨false, false⟩⟩ } } }
        chu := { configured.chu with
          queue := eightWaiting, arrivals := 8, voice := { configured.chu.voice with state := .starting, chime := chimeOf 31 7 0 }
          fetch := some ⟨.directory, false, 0, []⟩, claim := .granted true } })
      (fun t => (t.chu.voice.chime.clip, t.chu.queue.map Chime.clip, t.chu.dropped, t.chu.claim))
      = some (1, [31, 2, 3, 4, 5, 6, 7, 8], 0, .waiting ⟨0x0D000010, 1⟩) := by decide +kernel

/-- The first grant of a block leads to the claim of its second half (R152). -/
theorem test_clipBlockFetchComplete :
    afterwards .clipBlockFetchComplete
      (busyWith .clipBlock [] { chiming with chu := { chiming.chu with fetch := some ⟨.block 2, false, 0, []⟩, claim := .granted true } })
      (fun t => t.chu.claim) = some (.waiting ⟨0x0D000000 + 512 * 3 + 256, 16⟩) := by decide +kernel

/-- At the wrap a pending cadence is loaded (R155). -/
theorem test_tonePeriodWrap :
    afterwards .tonePeriodWrap { configured with chu := { configured.chu with tone :=
        { Tone.silent with sounding := true, wrapDue := true, pending := .cadence ⟨400, 100⟩ } } }
      (fun t => (t.chu.tone.cadence, t.chu.tone.counter, t.chu.tone.pending)) = some (⟨400, 100⟩, 0, .none) := by decide +kernel

/-- A late block is silence, counted as played and reported (R153). -/
theorem test_blockBoundary_late_clip :
    afterwards .blockBoundary { configured with chu := { configured.chu with voice := voiceOf .playing 7 1 false false 2 none none } }
      (fun t => (t.chu.voice.position, t.flt.first.advisory.map fun r => r.report.detail)) = some (3, some (.lateClip 0 3)) := by decide +kernel

/-- While ABSENT, distance_seq is none, which a two-byte field gives as 0xFFFF (R143). -/
theorem test_sectionPark_without_distance : ((sectionBytes .s3 configured).drop 34).take 2 = [0xFF, 0xFF] := by decide +kernel

/-- Without a latest frame and a steering beat, latest_frame_no, steering_seq and steering_angle are none, 0xFFFF (R126, R143). -/
theorem test_section3_without_frame_and_steering :
    (((sectionBytes .s3 configured).drop 10).take 2, ((sectionBytes .s3 configured).drop 20).take 4)
      = ([0xFF, 0xFF], [0xFF, 0xFF, 0xFF, 0xFF]) := by decide +kernel

/-- The frame_no of the latest slot stands at offset 10 (R126, 11.7). -/
theorem test_section3_latest_frame :
    ((sectionBytes .s3 { configured with ccp := { configured.ccp with latest := some 2, frameNos := ⟨none, none, some 0x1234, none⟩ } }).drop 8).take 4
      = [2, 0xFF, 0x34, 0x12] := by decide +kernel

/-- VIEW_CAMERA(OFF) with host_request OFF in NORMAL marks nothing; VIEW_CAMERA(ON) marks S3 (R109). -/
theorem test_view_camera_marks_on_a_change :
    (requestViewCamera 0 configured).1.stw = configured.stw ∧ (requestViewCamera 1 configured).1.stw.dirty.has .s3 = true := by decide +kernel

/-- A merge into the voice that changes only its requeue flag marks nothing; one that changes its repeat marks S5 (R147, R162). -/
theorem test_merge_into_the_voice_marks_what_is_shown :
    let v := chiming.chu.voice
    let requeued := { chiming.chu with voice := { v with chime := { v.chime with requeue := !v.chime.requeue } } }
    let repeated := { chiming.chu with voice := { v with chime := { v.chime with plays := 9 } } }
    (setChu requeued chiming).stw = chiming.stw ∧ (setChu repeated chiming).stw.dirty.has .s5 = true := by
  decide +kernel

/-- An empty ring of a PLAYING channel is an underrun (R159). -/
theorem test_blockBoundary_underrun :
    afterwards .blockBoundary screening (fun t => ((t.aop.channels.get .a).underrun, t.flt.first.advisory.map fun r => r.report.detail))
      = some (true, some (.underrun false .a 0)) := by decide +kernel

/-- The fourth grant puts the block into the ahead buffer, with its poison (R158). -/
theorem test_audioBlockFetchComplete :
    afterwards .audioBlockFetchComplete
      (busyWith .audioBlock [⟨[5], true⟩] { screening with aop := { screening.aop with
        channels := ⟨⟨8, 65535, [], none, some ⟨65535, false, 3, []⟩, false⟩, AudioChannel.reset⟩, claim := .granted true } })
      (fun t => ((t.aop.channels.get .a).ahead, t.aop.claim)) = some ([⟨65535, [5], true⟩], .waiting ⟨0x0E000000, 16⟩) := by decide +kernel

/-- Part time wraps (R35), and the tone voice counts (R155). -/
theorem test_partTimeTick :
    afterwards .partTimeTick
      { configured with
        lyu := { configured.lyu with partTime := 0xFFFFFFFF }
        chu := { configured.chu with tone := { Tone.silent with sounding := true, cadence := ⟨600, 100⟩, counter := 7 } } }
      (fun t => (t.lyu.partTime, t.chu.tone.counter)) = some (0, 8) := by decide +kernel

/-- An empty queue idles (log 3), and a step takes the front command. -/
theorem test_step :
    (match step running with | .next t => some t.lyu.partTime | _ => none) = some 1000 ∧
    (match step (ticking running) with | .next t => some (t.lyu.partTime, t.pending) | _ => none) = some (1001, []) := by decide +kernel

end Sys2Proof.Tests
end

section
/-! SUPPORT. The frame of the work between grants. Every operation of the part that is no grant, no completion and no command of the host
link keeps FMC, the host link, the queue of commands, INIT and RUNNING, which claims are granted, and the safety of GDU. Each operation has
one lemma here; `exec_cases` collects them: what a command can do to the memory path. -/

namespace Sys2Proof.Machine

/-! ## GDU on its own -/

/-- GDU's part of `GuideSafe`: its caches hold lists of a live bank only, within the limits of R137, and a fetch that still counts reads the
live bank, for the bucket wanted, while GDU works (R135, R136). -/
structure Gdu.Sound (g : Gdu) : Prop where
  caches : g.liveBank = none → g.staticCache = .absent ∧ g.bucketCache = .absent
  fetch : ∀ f, g.fetch = some f → f.givenUp = false → g.claim ≠ .granted false →
    g.working = true ∧ g.liveBank = some f.bank ∧ ∀ k, f.list = .bucket k → k = g.wantedBucket
  static : ∀ l, g.staticCache = .valid l → l.length ≤ 16
  bucket : ∀ k l, g.bucketCache = .valid k l → l.length ≤ 12

theorem guideSafe_iff (s : State) :
    GuideSafe s ↔ s.wdc.liveBank = s.gdu.liveBank ∧ s.wdc.stagedBank = s.gdu.stagedBank ∧ s.gdu.Sound :=
  ⟨fun ⟨live, staged, caches, fetch, static, bucket⟩ => ⟨live, staged, caches, fetch, static, bucket⟩,
    fun ⟨live, staged, sound⟩ => ⟨live, staged, sound.caches, sound.fetch, sound.static, sound.bucket⟩⟩

theorem GuideSafe.sound {s : State} (h : GuideSafe s) : s.gdu.Sound := ((guideSafe_iff s).mp h).2.2

/-- WDC is told the banks with every change of GDU (R11), so GDU's own part decides. -/
theorem guideSafe_setGdu {g : Gdu} {s : State} (h : g.Sound) : GuideSafe (setGdu g s) := by
  simp [guideSafe_iff, h]

@[simp] theorem Claim.isGranted_idle : Claim.idle.isGranted = false := rfl

@[simp] theorem Claim.isGranted_waiting (r : Req) : (Claim.waiting r).isGranted = false := rfl

@[simp] theorem Claim.isGranted_granted (live : Bool) : (Claim.granted live).isGranted = true := rfl

@[simp] theorem StwClaim.isGranted_idle : StwClaim.idle.isGranted = false := rfl

@[simp] theorem StwClaim.isGranted_sectionWaiting (k : StatusSection) : (StwClaim.sectionWaiting k).isGranted = false := rfl

@[simp] theorem StwClaim.isGranted_resultWaiting : StwClaim.resultWaiting.isGranted = false := rfl

/-- Raising the next claim keeps whether it is granted. -/
@[simp] theorem Gdu.kick_isGranted (l : Layout) (g : Gdu) : (g.kick l).claim.isGranted = g.claim.isGranted := by
  unfold Gdu.kick
  split
  · next idle _ => simp [idle]
  · next idle _ =>
    split
    · simp [idle]
    · rfl
  · rfl

/-- The list that GDU needs is the static one or that of the wanted bucket, and GDU works on a live bank (R134, R135). -/
theorem Gdu.needed_some {g : Gdu} {list : GuideList} (h : g.needed = some list) :
    g.working = true ∧ ∀ k, list = .bucket k → k = g.wantedBucket := by
  unfold Gdu.needed at h
  split at h
  · next works =>
    refine ⟨works.1, fun k hk => ?_⟩
    subst hk
    repeat' split at h
    all_goals simp_all
  · cases h

/-- The next fetch is of the live bank and, for a bucket, of the wanted one (R135). -/
theorem Gdu.Sound.kick {g : Gdu} (h : g.Sound) (l : Layout) : (g.kick l).Sound := by
  unfold Gdu.kick
  split
  · next idle fetch => exact ⟨h.caches, fun f hf up _ => h.fetch f hf up (by simp [idle]), h.static, h.bucket⟩
  · split
    · next list bank needed live =>
      obtain ⟨works, wanted⟩ := Gdu.needed_some needed
      refine ⟨h.caches, fun f hf _ _ => ?_, h.static, h.bucket⟩
      cases hf
      exact ⟨works, live, wanted⟩
    · exact h
  · exact h

/-- A fetch that was given up counts no more. -/
theorem Gdu.giveUp_fetch {g : Gdu} {f : GuideFetch} (h : g.giveUp.fetch = some f) : f.givenUp = true := by
  unfold Gdu.giveUp at h
  split at h
  · obtain ⟨f', -, rfl⟩ := Option.map_eq_some_iff.mp h
    rfl
  · cases h

/-- Giving a fetch up changes the fetch and its claim alone, and keeps whether that is granted (R136, R20). -/
theorem Gdu.giveUp_keeps (g : Gdu) :
    g.giveUp.claim.isGranted = g.claim.isGranted ∧ g.giveUp.liveBank = g.liveBank ∧ g.giveUp.stagedBank = g.stagedBank ∧
    g.giveUp.staticCache = g.staticCache ∧ g.giveUp.bucketCache = g.bucketCache ∧ g.giveUp.wantedBucket = g.wantedBucket := by
  unfold Gdu.giveUp
  split
  · next live granted => simp [granted]
  · next other =>
    refine ⟨?_, rfl, rfl, rfl, rfl, rfl⟩
    cases hc : g.claim with
    | granted live => exact absurd hc (other live)
    | idle => rfl
    | waiting r => rfl

/-- Overtaking keeps whether the claim is granted, the banks, the caches and the wanted bucket (R136). -/
theorem Gdu.overtake_keeps (g : Gdu) :
    g.overtake.claim.isGranted = g.claim.isGranted ∧ g.overtake.liveBank = g.liveBank ∧ g.overtake.staticCache = g.staticCache ∧
    g.overtake.bucketCache = g.bucketCache ∧ g.overtake.wantedBucket = g.wantedBucket := by
  obtain ⟨claim, live, -, static, bucket, wanted⟩ := g.giveUp_keeps
  unfold Gdu.overtake
  repeat' split
  all_goals first | exact ⟨rfl, rfl, rfl, rfl, rfl⟩ | exact ⟨claim, live, static, bucket, wanted⟩

/-- A new wanted bucket overtakes the fetch of another, so what is still fetched is what is wanted (R136). -/
theorem Gdu.Sound.overtake {g g' : Gdu} (h : g.Sound) (live : g'.liveBank = g.liveBank) (fetch : g'.fetch = g.fetch)
    (claim : g'.claim = g.claim) (works : g'.working = g.working) (static : g'.staticCache = g.staticCache)
    (bucket : g'.bucketCache = g.bucketCache) : g'.overtake.Sound := by
  obtain ⟨-, live', static', bucket', -⟩ := g'.overtake_keeps
  refine ⟨by rw [live', static', bucket', live, static, bucket]; exact h.caches, ?_,
    by rw [static', static]; exact h.static, by rw [bucket', bucket]; exact h.bucket⟩
  intro f hf up granted
  unfold Gdu.overtake at hf granted ⊢
  cases hg : g'.fetch with
  | none => simp [hg] at hf
  | some f' =>
    have counts : f' = f → g'.claim ≠ .granted false →
        g'.working = true ∧ g'.liveBank = some f.bank := by
      rintro rfl hc
      obtain ⟨w, b, -⟩ := h.fetch f' (fetch ▸ hg) up (claim ▸ hc)
      exact ⟨works.trans w, live.trans b⟩
    simp only [hg] at hf granted ⊢
    split at hf
    · next list =>
      simp only [list] at granted ⊢
      obtain ⟨w, b⟩ := counts (by simpa [hg] using hf) granted
      refine ⟨w, b, fun k hk => ?_⟩
      rw [hg] at hf; cases hf; simp [list] at hk
    · next k list =>
      simp only [list] at granted ⊢
      split at hf
      · next wanted =>
        simp only [if_pos wanted] at granted ⊢
        obtain ⟨w, b⟩ := counts (by simpa [hg] using hf) granted
        refine ⟨w, b, fun j hj => ?_⟩
        rw [hg] at hf; cases hf; rw [list] at hj; cases hj; exact wanted
      · rw [Gdu.giveUp_fetch hf] at up; cases up

/-- With its fetch given up, GDU is sound when its caches are. -/
theorem Gdu.Sound.of_givenUp {g : Gdu} (up : ∀ f, g.fetch = some f → f.givenUp = true)
    (caches : g.liveBank = none → g.staticCache = .absent ∧ g.bucketCache = .absent)
    (static : ∀ l, g.staticCache = .valid l → l.length ≤ 16) (bucket : ∀ k l, g.bucketCache = .valid k l → l.length ≤ 12) : g.Sound :=
  ⟨caches, fun f hf no _ => absurd (up f hf) (by simp [no]), static, bucket⟩

/-! ## The frame -/

/-- What every operation between grants keeps. -/
structure Steady (s t : State) : Prop where
  fmc : t.fmc = s.fmc
  hlp : t.hlp = s.hlp
  pending : t.pending = s.pending
  partState : t.lyu.partState = s.lyu.partState
  granted : ∀ p : Port, grantedAt t p = grantedAt s p
  guide : GuideSafe s → GuideSafe t

theorem Steady.refl (s : State) : Steady s s := ⟨rfl, rfl, rfl, rfl, fun _ => rfl, id⟩

theorem Steady.trans {s t u : State} (h : Steady s t) (k : Steady t u) : Steady s u :=
  ⟨k.fmc.trans h.fmc, k.hlp.trans h.hlp, k.pending.trans h.pending, k.partState.trans h.partState,
    fun p => (k.granted p).trans (h.granted p), fun g => k.guide (h.guide g)⟩

section Updates

variable (s : State)

/-! ### One block replaced -/

theorem steady_withStw {w : Stw} (h : w.claim.isGranted = s.stw.claim.isGranted) : Steady s { s with stw := w } :=
  ⟨rfl, rfl, rfl, rfl, by rintro ⟨⟩ <;> first | rfl | exact h, id⟩

theorem steady_withLyu {l : Lyu} (h : l.claim.isGranted = s.lyu.claim.isGranted) (hp : l.partState = s.lyu.partState) :
    Steady s { s with lyu := l } :=
  ⟨rfl, rfl, rfl, hp, by rintro ⟨⟩ <;> first | rfl | exact h, id⟩

theorem steady_withRqe {r : Rqe} (h : r.claim.isGranted = s.rqe.claim.isGranted) : Steady s { s with rqe := r } :=
  ⟨rfl, rfl, rfl, rfl, by rintro ⟨⟩ <;> first | rfl | exact h, id⟩

theorem steady_withMnu {m : Mnu} (h : m.claim.isGranted = s.mnu.claim.isGranted) : Steady s { s with mnu := m } :=
  ⟨rfl, rfl, rfl, rfl, by rintro ⟨⟩ <;> first | rfl | exact h, id⟩

theorem steady_withCcp {c : Ccp} (h : c.claim.isGranted = s.ccp.claim.isGranted) : Steady s { s with ccp := c } :=
  ⟨rfl, rfl, rfl, rfl, by rintro ⟨⟩ <;> first | rfl | exact h, id⟩

theorem steady_withChu {c : Chu} (h : c.claim.isGranted = s.chu.claim.isGranted) : Steady s { s with chu := c } :=
  ⟨rfl, rfl, rfl, rfl, by rintro ⟨⟩ <;> first | rfl | exact h, id⟩

theorem steady_withAop {o : Aop} (h : o.claim.isGranted = s.aop.claim.isGranted) : Steady s { s with aop := o } :=
  ⟨rfl, rfl, rfl, rfl, by rintro ⟨⟩ <;> first | rfl | exact h, id⟩

theorem steady_withDen {d : Engines} (h : ∀ p : Panel, (d.panels.get p).claim.isGranted = (engine p s).claim.isGranted) :
    Steady s { s with den := d } :=
  ⟨rfl, rfl, rfl, rfl, by rintro ⟨⟩ <;> first | rfl | exact h .rl | exact h .rr | exact h .c, id⟩

theorem steady_withFsq (f : PerChannel FilmChannel) : Steady s { s with fsq := f } :=
  ⟨rfl, rfl, rfl, rfl, by rintro ⟨⟩ <;> rfl, id⟩

theorem steady_withRvc (r : Rvc) : Steady s { s with rvc := r } :=
  ⟨rfl, rfl, rfl, rfl, by rintro ⟨⟩ <;> rfl, id⟩

theorem steady_withPdu (p : Pdu) : Steady s { s with pdu := p } :=
  ⟨rfl, rfl, rfl, rfl, by rintro ⟨⟩ <;> rfl, id⟩

theorem steady_withFlt (f : Flt) : Steady s { s with flt := f } :=
  ⟨rfl, rfl, rfl, rfl, by rintro ⟨⟩ <;> rfl, id⟩

theorem steady_withPins (p : Pins) : Steady s { s with pins := p } :=
  ⟨rfl, rfl, rfl, rfl, by rintro ⟨⟩ <;> rfl, id⟩

theorem steady_withMap (m : RegionMap) : Steady s { s with wdc := { s.wdc with map := m } } :=
  ⟨rfl, rfl, rfl, rfl, by rintro ⟨⟩ <;> rfl, id⟩

/-- GDU's fields that its safety does not read. -/
theorem steady_withGdu {g : Gdu} (h : g.claim.isGranted = s.gdu.claim.isGranted) (live : g.liveBank = s.gdu.liveBank)
    (staged : g.stagedBank = s.gdu.stagedBank) (sound : s.gdu.Sound → g.Sound) : Steady s { s with gdu := g } := by
  refine ⟨rfl, rfl, rfl, rfl, by rintro ⟨⟩ <;> first | rfl | exact h, fun safe => ?_⟩
  obtain ⟨hl, hs, hg⟩ := (guideSafe_iff s).mp safe
  exact (guideSafe_iff _).mpr ⟨hl.trans live.symm, hs.trans staged.symm, sound hg⟩

/-! ### The status writer, causes and results -/

/-- Raising STW's claim grants nothing and ends no grant (R36). -/
@[simp] theorem Stw.raise_isGranted (w : Stw) : w.raise.claim.isGranted = w.claim.isGranted := by
  unfold Stw.raise
  split
  · next idle => split <;> [skip; split] <;> simp [idle]
  · rfl

@[simp] theorem Stw.take_isGranted (w : Stw) (r : ResultWrite) : (w.take r).claim.isGranted = w.claim.isGranted := by
  unfold Stw.take
  split
  · next idle => simp [idle]
  · next waiting => simp [waiting]
  · rfl

theorem steady_markDirty (k : StatusSection) : Steady s (markDirty k s) := steady_withStw s (by simp)

theorem steady_setCauses (set : BitVec 6) : Steady s (setCauses set s) := by
  unfold setCauses
  split
  · exact .refl s
  · exact (steady_withFlt s _).trans (steady_markDirty _ _)

theorem steady_raiseCause (c : Cause) : Steady s (raiseCause c s) := steady_setCauses s _

theorem steady_giveResult (code : ResultCode) : Steady s (giveResult code s) := by
  unfold giveResult
  split
  · exact .refl s
  · exact ⟨rfl, rfl, rfl, rfl, by rintro ⟨⟩ <;> first | rfl | exact Stw.take_isGranted _ _, id⟩

/-! ### One block replaced, with its mark -/

theorem steady_setChu {c : Chu} (h : c.claim.isGranted = s.chu.claim.isGranted) : Steady s (setChu c s) := by
  unfold setChu
  split
  · exact steady_withChu s h
  · exact (steady_withChu s h).trans (steady_markDirty _ _)

theorem steady_setAop {o : Aop} (h : o.claim.isGranted = s.aop.claim.isGranted) : Steady s (setAop o s) := by
  unfold setAop
  split
  · exact steady_withAop s h
  · exact (steady_withAop s h).trans (steady_markDirty _ _)

theorem steady_setChannel (x : Channel) (r : FilmChannel) : Steady s (setChannel x r s) := by
  unfold setChannel
  split
  · exact .refl s
  · exact (steady_withFsq s _).trans (steady_markDirty _ _)

theorem steady_setRvc (r : Rvc) : Steady s (setRvc r s) := by
  unfold setRvc
  split
  · exact steady_withRvc s r
  · exact (steady_withRvc s r).trans (steady_markDirty _ _)

theorem steady_setGdu {g : Gdu} (h : g.claim.isGranted = s.gdu.claim.isGranted) (sound : s.gdu.Sound → g.Sound) :
    Steady s (setGdu g s) := by
  refine ⟨by simp, by simp, by simp, by simp, fun p => ?_, fun safe => guideSafe_setGdu (sound safe.sound)⟩
  have written : grantedAt { s with gdu := g, wdc := { s.wdc with liveBank := g.liveBank, stagedBank := g.stagedBank } } p =
      grantedAt s p := by cases p <;> first | rfl | exact h
  unfold setGdu
  dsimp only
  split
  · exact written
  · exact ((steady_markDirty _ _).granted p).trans written

theorem steady_setEngine {p : Panel} {d : Den} (h : d.claim.isGranted = (engine p s).claim.isGranted) : Steady s (setEngine p d s) := by
  refine steady_withDen s fun q => ?_
  rw [PerPanel.get_set]
  split
  · next same => rw [same, h]
  · rfl

/-! ### Chimes, film and the fault unit -/

/-- Raising CHU's next claim keeps whether it is granted. -/
@[simp] theorem Chu.kick_isGranted (store : Option Region) (c : Chu) : (c.kick store).claim.isGranted = c.claim.isGranted := by
  unfold Chu.kick
  split
  · next idle _ => simp [idle]
  · next idle _ => split <;> simp [idle]
  · rfl

@[simp] theorem Chu.voiceTake_claim (c : Chu) : c.voiceTake.claim = c.claim := by
  rcases c.voiceTake_cases with same | ⟨_, _, _, _, _, _, taken⟩
  · rw [same]
  · rw [taken]

@[simp] theorem Chu.giveUpFetch_isGranted (c : Chu) : c.giveUpFetch.claim.isGranted = c.claim.isGranted := by
  unfold Chu.giveUpFetch
  split
  · next live granted => simp [granted]
  · next other =>
    cases hc : c.claim with
    | granted live => exact absurd hc (other live)
    | idle => rfl
    | waiting r => rfl

@[simp] theorem Chu.silenceVoice_isGranted (c : Chu) : c.silenceVoice.claim.isGranted = c.claim.isGranted := c.giveUpFetch_isGranted

@[simp] theorem Chu.place_claim (c : Chu) (n : Chime) (keep : Bool) : (c.place n keep).claim = c.claim := by
  unfold Chu.place Chu.freshArrival
  split
  · rfl
  · dsimp only
    split <;> rfl

/-- Inserting a chime leaves CHU's claim (R148). -/
@[simp] theorem Chu.insert_claim (c : Chu) (n : Chime) (keep : Bool) : (c.insert n keep).2.claim = c.claim := by
  unfold Chu.insert
  repeat' split
  all_goals simp

@[simp] theorem Chu.insertCounted_claim (c : Chu) (n : Chime) (keep : Bool) : (c.insertCounted n keep).claim = c.claim := by
  have inserted := c.insert_claim n keep
  unfold Chu.insertCounted
  split
  all_goals
    next h =>
    rw [h] at inserted
    exact inserted

@[simp] theorem Chu.preempt_isGranted (c : Chu) : c.preempt.claim.isGranted = c.claim.isGranted := by
  unfold Chu.preempt
  dsimp only
  split <;> simp

theorem Chu.playAt_isGranted (c : Chu) (position : Nat) : (c.playAt position).1.claim.isGranted = c.claim.isGranted := by
  unfold Chu.playAt
  dsimp only
  split <;> simp

theorem Chu.advance_isGranted (c : Chu) : c.advance.1.claim.isGranted = c.claim.isGranted := by
  unfold Chu.advance
  dsimp only
  repeat' split
  all_goals simp [Chu.playAt_isGranted]

/-- Settling the voice keeps whether CHU's claim is granted (R152, R153). -/
@[simp] theorem Chu.settleVoice_isGranted (c : Chu) : c.settleVoice.1.claim.isGranted = c.claim.isGranted := by
  unfold Chu.settleVoice
  repeat' split
  all_goals simp [Chu.advance_isGranted]

theorem steady_settleChu {c : Chu} (h : c.claim.isGranted = s.chu.claim.isGranted) : Steady s (settleChu c s) :=
  steady_setChu s (by simp [h])

theorem steady_chimeEvent (e : ChimeEvent) : Steady s (chimeEvent e s) := by
  unfold chimeEvent
  repeat' split
  · exact .refl s
  · exact .refl s
  · exact steady_settleChu s (by simp)

theorem steady_cadenceNotice (n : CadenceNotice) : Steady s (cadenceNotice n s) := by
  unfold cadenceNotice
  split
  · exact .refl s
  · exact steady_setChu s rfl

theorem steady_chuViewNotice (before after : View) : Steady s (chuViewNotice before after s) := by
  unfold chuViewNotice
  split
  · exact steady_setChu s rfl
  · exact .refl s

theorem steady_degradedNotice : Steady s (degradedNotice s) := (steady_setChannel s _ _).trans (steady_setChannel _ _ _)

theorem steady_takeAction (a : FaultAction) : Steady s (takeAction a s) := by
  unfold takeAction
  split
  · exact .refl s
  · exact steady_raiseCause s _
  · split
    · exact .refl s
    · exact ((((steady_raiseCause s _).trans (steady_withFlt _ _)).trans (steady_markDirty _ _)).trans (steady_degradedNotice _)).trans
        (steady_chimeEvent _ _)

/-- A report changes nothing but the fault unit and what a SAFE action reaches (R164, R168). -/
theorem steady_report (r : Report) : Steady s (report r s) := by
  unfold report
  dsimp only
  split
  · exact .refl s
  · split
    · exact (steady_withFlt s _).trans (steady_markDirty _ _)
    · exact ((steady_withFlt s _).trans (steady_markDirty _ _)).trans (steady_takeAction _ _)

theorem steady_reportPlain (kind : FaultKind) (source : FaultSource) (detail : Detail) : Steady s (reportPlain kind source detail s) :=
  steady_report s _

theorem steady_reportHost (kind : FaultKind) (source : FaultSource) (detail : Detail) (p : HostRequest) :
    Steady s (reportHost kind source detail p s) := steady_report s _

theorem steady_reportMemory {each : FaultKind → Nat → Nat → State → State} (h : ∀ k l n u, Steady u (each k l n u))
    (corrected poisoned : List Nat) : Steady s (reportMemory corrected poisoned each s) := by
  unfold reportMemory
  dsimp only
  split <;> split
  · exact .refl s
  · exact h _ _ _ _
  · exact h _ _ _ _
  · exact (h _ _ _ _).trans (h _ _ _ _)

theorem steady_reportMemoryFor (port : Port) (m : Moved) : Steady s (reportMemoryFor port m s) :=
  steady_reportMemory s (fun _ _ _ u => steady_reportPlain u _ _ _) _ _

theorem steady_reportMemoryHost (p : HostRequest) (target : Nat) (m : Moved) : Steady s (reportMemoryHost p target m s) :=
  steady_reportMemory s (fun _ _ _ u => steady_reportHost u _ _ _ _) _ _

theorem steady_reportIfDue (kind : FaultKind) (source : FaultSource) (detail : Option Detail) :
    Steady s (reportIfDue kind source detail s) := by
  unfold reportIfDue
  split
  · exact .refl s
  · exact steady_reportPlain s _ _ _

theorem steady_requestFaultAck (classes clear : Nat) : Steady s (requestFaultAck classes clear s).1 := by
  unfold requestFaultAck
  dsimp only
  split
  · exact .refl s
  · exact (steady_withFlt s _).trans (steady_markDirty _ _)

theorem steady_requestAttnAck (causes : Nat) : Steady s (requestAttnAck causes s).1 := by
  unfold requestAttnAck
  split
  · exact .refl s
  · exact steady_setCauses s _

theorem steady_requestResume : Steady s (requestResume s).1 := by
  unfold requestResume
  repeat' split
  · exact .refl s
  · exact (steady_withFlt s _).trans (steady_markDirty _ _)
  · exact .refl s

/-! ### Guide lines and park distance -/

theorem steady_staleCheck : Steady s (staleCheck s) := by
  unfold staleCheck
  split
  · exact (steady_withGdu s (g := { s.gdu with staleReported := true }) rfl rfl rfl fun h => ⟨h.caches, h.fetch, h.static, h.bucket⟩).trans
      (steady_reportPlain _ _ _ _)
  · exact .refl s

/-- A steering beat wants another bucket at most, and a fetch of another is overtaken (R133, R136). -/
theorem steady_steeringBeat (bytes : List Byte) : Steady s (steeringBeat bytes s) := by
  unfold steeringBeat
  dsimp only
  split
  · exact .refl s
  · refine .trans ?_ (steady_markDirty _ _)
    split
    · next same =>
      refine steady_setGdu s rfl fun h => ⟨h.caches, fun f hf up hc => ?_, h.static, h.bucket⟩
      exact same.symm ▸ h.fetch f hf up hc
    · refine steady_setGdu s (by simp [Gdu.overtake_keeps]) fun h => .kick ?_ _
      apply h.overtake <;> rfl

theorem steady_guideViewNotice (before after : View) : Steady s (guideViewNotice before after s) := by
  unfold guideViewNotice
  repeat' split
  · exact .refl s
  · refine ((steady_setGdu s (by simp) fun h => Gdu.Sound.kick ?_ _).trans (steady_markDirty _ _)).trans (steady_staleCheck _)
    exact ⟨h.caches, fun f hf up hc => ⟨rfl, (h.fetch f hf up hc).2⟩, h.static, h.bucket⟩
  · obtain ⟨claim, live, -, static, bucket, -⟩ := s.gdu.giveUp_keeps
    refine .trans ?_ (steady_markDirty _ _)
    refine steady_setGdu s claim fun h => ?_
    refine .of_givenUp (fun f hf => s.gdu.giveUp_fetch hf) ?_ ?_ ?_
    · exact fun none => by simp only [static, bucket]; exact h.caches (live ▸ none)
    · exact fun l hl => h.static l (static ▸ hl)
    · exact fun k l hl => h.bucket k l (bucket ▸ hl)
  · exact .refl s

theorem steady_requestGuideBank (b : Nat) : Steady s (requestGuideBank b s).1 := by
  unfold requestGuideBank
  repeat' split
  · exact .refl s
  · exact .refl s
  · refine .trans ?_ (steady_markDirty _ _)
    exact steady_setGdu s rfl fun h => ⟨h.caches, h.fetch, h.static, h.bucket⟩

/-- The staged bank becomes live with empty caches and the fetch given up (R133). -/
theorem steady_guideSwitch : Steady s (guideSwitch s) := by
  unfold guideSwitch
  split
  · exact .refl s
  · next bank staged =>
    obtain ⟨claim, live, -, static, bucket, -⟩ :=
      { s.gdu with liveBank := some bank, stagedBank := none, staticCache := .absent, bucketCache := .absent }.giveUp_keeps
    refine ((steady_setGdu s (by simp [claim]) fun h => Gdu.Sound.kick (.of_givenUp (fun _ => Gdu.giveUp_fetch) ?_ ?_ ?_) _).trans
      (steady_markDirty _ _)).trans (steady_staleCheck _)
    · simp [live]
    · simp [static]
    · simp [bucket]

theorem steady_guideApply : Steady s (guideApply s) := by
  refine .trans ?_ (steady_markDirty _ _)
  exact steady_setGdu s s.gdu.giveUp_keeps.1 fun _ =>
    .of_givenUp (fun _ => Gdu.giveUp_fetch) (fun _ => ⟨rfl, rfl⟩) (fun _ h => by cases h) (fun _ _ h => by cases h)

theorem steady_guideWarmReset : Steady s (guideWarmReset s) :=
  (steady_setGdu s (Claim.giveUp_isGranted _) fun _ => .of_givenUp (fun _ h => by cases h) (fun _ => ⟨rfl, rfl⟩)
    (fun _ h => by cases h) (fun _ _ h => by cases h)).trans (steady_markDirty _ _)

theorem steady_reportList (f : GuideFetch) (v : GuideVerdict) : Steady s (reportList f v s) := by
  unfold reportList
  split
  · exact .refl s
  · exact steady_reportPlain s _ _ _

theorem steady_parkViewNotice (after : View) : Steady s (parkViewNotice after s) := by
  unfold parkViewNotice
  dsimp only
  split
  · exact .refl s
  · exact (steady_withPdu s _).trans (steady_markDirty _ _)

theorem steady_handCadence (k : ParkSettings) : Steady s (handCadence k s) := by
  unfold handCadence
  split
  · exact .refl s
  · exact (steady_withPdu s _).trans (steady_cadenceNotice _ _)

theorem steady_enterSensorFault (k : ParkSettings) (detail : Detail) : Steady s (enterSensorFault k detail s) := by
  unfold enterSensorFault
  split
  · exact .refl s
  · exact ((((steady_withPdu s _).trans (steady_handCadence _ _)).trans (steady_reportPlain _ _ _ _)).trans
      (steady_chimeEvent _ _)).trans (steady_markDirty _ _)

theorem steady_evaluatePark (k : ParkSettings) (d : Distance) : Steady s (evaluatePark k d s) := by
  unfold evaluatePark
  dsimp only
  split
  · exact (steady_withPdu s _).trans (steady_enterSensorFault _ _ _)
  · exact ((steady_withPdu s _).trans (steady_withPdu _ _)).trans (steady_handCadence _ _)

theorem steady_distanceBeat (bytes : List Byte) : Steady s (distanceBeat bytes s) := by
  unfold distanceBeat
  dsimp only
  repeat' split
  · exact .refl s
  · exact (steady_withPdu s _).trans (steady_markDirty _ _)
  · exact ((steady_withPdu s _).trans (steady_markDirty _ _)).trans (steady_evaluatePark _ _ _)

theorem steady_parkWarmReset : Steady s (parkWarmReset s) := (steady_withPdu s _).trans (steady_markDirty _ _)

/-! ### The display -/

/-- The line fetches' next work keeps whether the scan claim is granted (R62). -/
theorem Den.work_isGranted (p : Panel) (fuel : Nat) (d : Den) : (d.work p fuel).claim.isGranted = d.claim.isGranted := by
  induction fuel generalizing d with
  | zero => rfl
  | succ fuel ih =>
    unfold Den.work
    split
    · split
      · exact ih _
      · next idle => simp [idle]
      · rfl
    · split
      · split
        · exact ih _
        · rfl
      · rfl

@[simp] theorem Den.kick_isGranted (p : Panel) (d : Den) : (d.kick p).claim.isGranted = d.claim.isGranted := d.work_isGranted p 12

@[simp] theorem Den.giveUpLine_isGranted (p : Panel) (d : Den) (n : Nat) : (d.giveUpLine p n).claim.isGranted = d.claim.isGranted := by
  unfold Den.giveUpLine
  split
  · split
    · dsimp only
      split
      · exact Claim.giveUp_isGranted _
      · rfl
    · rfl
  · rfl

theorem steady_filmRefresh (p : RearPanel) (showing : Bool) : Steady s (filmRefresh p showing s) := by
  have held : ∀ (h : Option Hold) (u : State), Steady u (p.setHold h u) := fun h u => by
    cases p <;> exact steady_withDen u fun _ => rfl
  have presented : ∀ (x : Channel) (q : Presented) (u : State), Steady u (handPresented x q u) := fun x q u => by
    cases q
    · exact .refl u
    · exact steady_reportPlain u _ _ _
    · exact steady_raiseCause u _
  have settled := fun fsq hold =>
    ((steady_setChannel s .a (PerChannel.get fsq .a)).trans (steady_setChannel _ .b (fsq.get .b))).trans (held hold _)
  unfold filmRefresh
  dsimp only
  split
  · exact settled _ _
  · exact (settled _ _).trans (presented _ _ _)

theorem steady_aopKick : Steady s (aopKick s) := by
  unfold aopKick
  split
  · next idle _ => exact steady_withAop s (by simp [idle])
  · next idle _ =>
    split
    · exact .refl s
    · exact steady_withAop s (by simp [idle])
  · exact .refl s

theorem Den.begin_isGranted (p : Panel) (plan : Plan) (d : Den) : (d.begin p plan).claim.isGranted = d.claim.isGranted := by
  simp [Den.begin]

theorem steady_rearRefresh (p : RearPanel) : Steady s (rearRefresh p s) :=
  ((steady_filmRefresh s p _).trans (steady_setEngine _ (Den.begin_isGranted _ _ _))).trans (steady_aopKick _)

theorem steady_exchangePin (move : Bool) : Steady s (exchangePin move s) := by
  unfold exchangePin
  dsimp only
  split
  · exact .refl s
  · exact (steady_withCcp s (by rfl)).trans (steady_markDirty _ _)

theorem steady_pinExchange (move : Bool) : Steady s (pinExchange move s) :=
  (steady_exchangePin s move).trans (steady_withDen _ fun _ => rfl)

theorem steady_centreRow : Steady s (centreRow s).1 := by
  unfold centreRow
  split <;> exact steady_pinExchange s _

theorem steady_centreRefresh : Steady s (centreRefresh s) := by
  have moved : Steady s { s with den := { s.den with uiCurrent := s.den.uiPending } } := steady_withDen s fun _ => rfl
  unfold centreRefresh
  dsimp only
  split
  · exact (moved.trans (steady_pinExchange _ _)).trans (steady_setEngine _ (Den.begin_isGranted _ _ _))
  · exact ((moved.trans (steady_guideSwitch _)).trans (steady_centreRow _)).trans (steady_setEngine _ (Den.begin_isGranted _ _ _))

theorem steady_uiBaseBeat (bytes : List Byte) : Steady s (uiBaseBeat bytes s) := by
  unfold uiBaseBeat
  dsimp only
  repeat' split
  · exact .refl s
  · exact steady_withDen s fun _ => rfl
  · exact steady_withDen s fun _ => rfl
  · exact steady_reportPlain s _ _ _

theorem steady_displayWarmReset : Steady s (displayWarmReset s) := steady_withDen s fun p => by cases p <;> rfl

theorem steady_displayRelease : Steady s (displayRelease s) := steady_withDen s fun p => by cases p <;> rfl

/-! ### Film audio -/

/-- Giving a channel's fetch up keeps whether AOP's claim is granted (R158). -/
@[simp] theorem Aop.giveUp_isGranted (o : Aop) (x : Channel) : (o.giveUp x).claim.isGranted = o.claim.isGranted := by
  unfold Aop.giveUp
  dsimp only
  split
  · rfl
  · next granted => simp [granted]
  · next other =>
    cases hc : o.claim with
    | granted live => exact absurd hc (other live)
    | idle => rfl
    | waiting r => rfl

@[simp] theorem Aop.takeProducer_isGranted (o : Aop) (x : Channel) (producer : Count) :
    (o.takeProducer x producer).claim.isGranted = o.claim.isGranted := by
  unfold Aop.takeProducer
  dsimp only
  repeat' split
  · rfl
  · simp
  · rfl

theorem Aop.settlePlaying_isGranted (o : Aop) (x : Channel) : (o.settlePlaying x).1.claim.isGranted = o.claim.isGranted := by
  unfold Aop.settlePlaying
  dsimp only
  split
  · rfl
  · dsimp only
    split
    · split
      · exact o.giveUp_isGranted x
      · rfl
    · rfl

@[simp] theorem Aop.settle_isGranted (o : Aop) (x : Channel) (state : ChannelState) :
    (o.settle x state).1.claim.isGranted = o.claim.isGranted := by
  unfold Aop.settle
  split
  · exact o.settlePlaying_isGranted x
  all_goals rfl

theorem steady_audioProducerBeat (x : Channel) (bytes : List Byte) : Steady s (audioProducerBeat x bytes s) := by
  unfold audioProducerBeat
  dsimp only
  repeat' split
  · exact .refl s
  · exact (steady_setAop s (by simp)).trans (steady_aopKick _)
  · exact steady_reportPlain s _ _ _

theorem steady_audioStop (x : Channel) : Steady s (audioStop x s) :=
  ((steady_setAop s (o := s.aop.stopChannel x) (s.aop.giveUp_isGranted x)).trans (steady_markDirty _ .s6)).trans (steady_aopKick _)

theorem steady_settleBlock : Steady s (settleBlock s) := by
  unfold settleBlock
  dsimp only
  refine .trans (.trans (.trans ?_ (steady_reportIfDue _ _ _ _)) (steady_reportIfDue _ _ _ _)) (steady_reportIfDue _ _ _ _)
  refine .trans ?_ (steady_aopKick _)
  exact (steady_settleChu s (by simp)).trans (steady_setAop _ (by simp))

theorem steady_blockBoundary : Steady s (blockBoundary s) := by
  unfold blockBoundary
  split
  · exact steady_withAop s rfl
  · exact steady_settleBlock s

theorem steady_requestChimePlay (clip priority plays route requeue : Nat) :
    Steady s (requestChimePlay clip priority plays route requeue s).1 := by
  have inserted := s.chu.insert_claim ⟨clip, priority, plays, routeOfByte route, requeue.testBit 0, .requested, 0⟩ false
  unfold requestChimePlay
  split
  · exact .refl s
  · split
    all_goals
      next h =>
      rw [h] at inserted
      exact steady_settleChu s (by rw [inserted])

theorem steady_requestChimeStop (clip : Option Nat) : Steady s (requestChimeStop clip s).1 := by
  unfold requestChimeStop
  repeat' split
  · exact (steady_setChu s (by rfl)).trans (steady_markDirty _ _)
  · exact .refl s
  · exact (steady_setChu s (by rfl)).trans (steady_markDirty _ _)

theorem steady_chimeApply : Steady s (chimeApply s) := steady_setChu s rfl

theorem steady_audioApply : Steady s (audioApply s) := (steady_audioStop s .a).trans (steady_audioStop _ .b)

theorem steady_chimeWarmReset : Steady s (chimeWarmReset s) :=
  (steady_setChu s (Claim.giveUp_isGranted _)).trans (steady_markDirty _ _)

theorem steady_audioWarmReset : Steady s (audioWarmReset s) :=
  (steady_setAop s (Claim.giveUp_isGranted _)).trans (steady_markDirty _ _)

end Updates

end Sys2Proof.Machine
end

section
/-! SUPPORT. The frame of the work between grants, continued: capture, menus, layouts, the reverse view, the ring and the warm reset; then
what a command can do to the memory path. -/

namespace Sys2Proof.Machine

section Updates

variable (s : State)

/-! ### Camera capture -/

/-- Raising CCP's next claim keeps whether it is granted (R121). -/
@[simp] theorem Ccp.kick_isGranted (c : Ccp) : c.kick.claim.isGranted = c.claim.isGranted := by
  unfold Ccp.kick
  split
  · next idle _ => simp [idle]
  · rfl

@[simp] theorem Ccp.dropLines_isGranted (c : Ccp) (slot : Fin 4) : (c.dropLines slot).claim.isGranted = c.claim.isGranted := by
  unfold Ccp.dropLines
  dsimp only
  repeat' split
  all_goals first | rfl | exact Claim.giveUp_isGranted _

@[simp] theorem Ccp.boundary_claim (c : Ccp) : c.boundary.claim = c.claim := by
  unfold Ccp.boundary
  split <;> rfl

theorem steady_setCcp {c : Ccp} (h : c.claim.isGranted = s.ccp.claim.isGranted) : Steady s (setCcp c s) := steady_withCcp s h

theorem steady_ccpBoundary : Steady s (setCcp s.ccp.boundary s) := steady_setCcp s (by simp)

theorem steady_goodFrameNotice (frameNo : Count) : Steady s (goodFrameNotice frameNo s) := steady_setRvc s _

theorem steady_damagedFrameNotice : Steady s (damagedFrameNotice s) := by
  unfold damagedFrameNotice
  split
  · exact steady_setRvc s _
  · exact .refl s
  · exact .refl s

theorem steady_closeIfWritten : Steady s (closeIfWritten s) := by
  unfold closeIfWritten
  repeat' split
  · exact .refl s
  · exact .refl s
  · exact ((steady_setCcp s (by rfl)).trans (steady_markDirty _ _)).trans (steady_goodFrameNotice _ _)

theorem steady_damageFrame (detail : Detail) (reception : Reception) : Steady s (damageFrame detail reception s) := by
  unfold damageFrame
  split
  · exact .refl s
  · exact (((steady_setCcp s (by simp)).trans (steady_markDirty _ _)).trans (steady_reportPlain _ _ _ _)).trans
      (steady_damagedFrameNotice _)

theorem steady_startFrame (frameNo : Count) : Steady s (startFrame frameNo s) := by
  unfold startFrame
  split <;> exact steady_setCcp s (by rfl)

theorem steady_takeFrameStart (frameNo : Count) : Steady s (takeFrameStart frameNo s) := by
  unfold takeFrameStart
  split
  · exact ((steady_damageFrame s _ _).trans (steady_startFrame _ _)).trans (steady_ccpBoundary _)
  · exact .refl s

theorem steady_takeLine (lineNo : Count) (data : List Byte) (check : BitVec 32) : Steady s (takeLine lineNo data check s) := by
  unfold takeLine
  split
  · split
    · exact (steady_damageFrame s _ _).trans (steady_ccpBoundary _)
    · exact steady_setCcp s (by simp)
  · exact .refl s

theorem steady_takeFrameEnd : Steady s (takeFrameEnd s) := by
  unfold takeFrameEnd
  dsimp only
  split
  · refine .trans ?_ (steady_ccpBoundary _)
    split
    · exact steady_damageFrame s _ _
    · exact (steady_setCcp s (by rfl)).trans (steady_closeIfWritten _)
  · exact steady_setCcp s rfl
  · exact .refl s

theorem steady_startCapture : Steady s (startCapture s) := by
  unfold startCapture
  split
  · exact .refl s
  · exact (steady_setCcp s (by rfl)).trans (steady_markDirty _ _)

theorem steady_stopCapture : Steady s (stopCapture s) :=
  (steady_setCcp s (by simp [Ccp.abandon])).trans (steady_markDirty _ _)

theorem steady_drainCapture : Steady s (drainCapture s) := steady_setCcp s (by simp)

theorem steady_captureWarmReset : Steady s (captureWarmReset s) :=
  (steady_setCcp s (Claim.giveUp_isGranted _)).trans (steady_markDirty _ _)

/-! ### Menus -/

theorem steady_setMnu {m : Mnu} (h : m.claim.isGranted = s.mnu.claim.isGranted) : Steady s (setMnu m s) := steady_withMnu s h

theorem steady_setMenuPanel (p : Panel) (m : MenuPanel) : Steady s (setMenuPanel p m s) := steady_withMnu s rfl

theorem steady_restartIdle (p : Panel) : Steady s (restartIdle p s) := steady_setMenuPanel s _ _

theorem steady_changeStack (p : Panel) (stack : List Nat) (top : TopCache) : Steady s (changeStack p stack top s) :=
  ((steady_setMenuPanel s _ _).trans (steady_restartIdle _ _)).trans (steady_markDirty _ _)

theorem steady_beginMenuFetch (purpose : MenuPurpose) : Steady s (beginMenuFetch purpose s) := by
  unfold beginMenuFetch
  split
  · exact .refl s
  · exact (steady_withMnu s (by rfl)).trans (steady_markDirty _ _)
  · exact (steady_withMnu s (by rfl)).trans (steady_markDirty _ _)
  · exact steady_setMenuPanel s _ _

/-- MNU's next fetch claims where nothing was claimed (R93). -/
theorem steady_menuKick : Steady s (menuKick s) := by
  unfold menuKick
  split
  · next idle =>
    split
    · exact .refl s
    · next purpose _ _ =>
      have begun := steady_beginMenuFetch s purpose
      refine begun.trans (steady_withMnu _ ?_)
      have kept : (beginMenuFetch purpose s).mnu.claim.isGranted = s.mnu.claim.isGranted := begun.granted .mnu
      rw [kept, idle]
      rfl
  · exact .refl s

theorem steady_dropMenuFetch (purpose : MenuPurpose) : Steady s (dropMenuFetch purpose s) := by
  unfold dropMenuFetch
  repeat' split
  · exact steady_setMnu s rfl
  · exact .refl s
  · exact .refl s

theorem steady_touchPanel (p : Panel) : Steady s (touchPanel p s) := by
  unfold touchPanel
  dsimp only
  split
  · exact steady_restartIdle s p
  · exact (steady_restartIdle s p).trans (steady_setMenuPanel _ _ _)
  · exact ((steady_restartIdle s p).trans (steady_setMenuPanel _ _ _)).trans (steady_dropMenuFetch _ _)

theorem steady_takeInHand (r : MenuRequest) : Steady s (takeInHand r s) :=
  ((steady_setMnu s (by rfl)).trans (steady_markDirty _ _)).trans (steady_menuKick _)

theorem steady_requestMenuPush (panel page : Nat) : Steady s (requestMenuPush panel page s).1 := by
  unfold requestMenuPush
  dsimp only
  repeat' split
  · exact .refl s
  · exact steady_touchPanel s _
  · exact steady_touchPanel s _
  · exact steady_touchPanel s _
  · exact (steady_touchPanel s _).trans (steady_takeInHand _ _)

theorem steady_requestMenuReplace (panel page : Nat) : Steady s (requestMenuReplace panel page s).1 := by
  unfold requestMenuReplace
  dsimp only
  repeat' split
  · exact .refl s
  · exact steady_touchPanel s _
  · exact steady_touchPanel s _
  · exact (steady_touchPanel s _).trans (steady_takeInHand _ _)

theorem steady_requestMenuPop (panel : Nat) : Steady s (requestMenuPop panel s).1 := by
  unfold requestMenuPop
  dsimp only
  repeat' split
  · exact .refl s
  · exact steady_touchPanel s _
  · exact (steady_touchPanel s _).trans (steady_changeStack _ _ _ _)
  · exact (steady_touchPanel s _).trans (steady_takeInHand _ _)

theorem steady_requestMenuClear (panel : Nat) : Steady s (requestMenuClear panel s).1 := by
  unfold requestMenuClear
  dsimp only
  repeat' split
  · exact .refl s
  · exact steady_touchPanel s _
  · exact (steady_touchPanel s _).trans (steady_changeStack _ _ _ _)

theorem steady_requestMenuTouch (panel : Nat) : Steady s (requestMenuTouch panel s).1 := by
  unfold requestMenuTouch
  split
  · exact .refl s
  · exact steady_touchPanel s _

theorem steady_judgeDescriptor (beats : List ReadBeat) (panel : Panel) (page : Nat) : Steady s (judgeDescriptor beats panel page s).2 := by
  unfold judgeDescriptor
  split
  · exact steady_reportPlain s _ _ _
  · exact .refl s

theorem steady_answerMenu (code : ResultCode) : Steady s (answerMenu code s) :=
  ((steady_setMnu s (by rfl)).trans (steady_markDirty _ _)).trans (steady_giveResult _ _)

theorem steady_finishMenuRequest (r : MenuRequest) (verdict : Option Descriptor) : Steady s (finishMenuRequest r verdict s) := by
  unfold finishMenuRequest
  dsimp only
  split
  · exact (steady_changeStack s _ _ _).trans (steady_answerMenu _ _)
  · exact steady_answerMenu s _
  · exact (steady_changeStack s _ _ _).trans (steady_answerMenu _ _)
  · exact steady_answerMenu s _
  · exact (steady_changeStack s _ _ _).trans (steady_answerMenu _ _)
  · exact (steady_changeStack s _ _ _).trans (steady_answerMenu _ _)

theorem steady_finishMenuFetch (purpose : MenuPurpose) (verdict : Option Descriptor) : Steady s (finishMenuFetch purpose verdict s) := by
  unfold finishMenuFetch
  split
  · split
    · exact steady_finishMenuRequest s _ _
    · exact .refl s
  · exact (steady_setMnu s (by rfl)).trans (steady_markDirty _ _)
  · exact (steady_setMnu s (by rfl)).trans (steady_markDirty _ _)
  · exact (steady_changeStack s _ _ _).trans (steady_setMenuPanel _ _ _)

theorem steady_setNotices (service cameraLost : NoticeCache) : Steady s (setNotices service cameraLost s) := by
  unfold setNotices
  dsimp only
  split
  · exact steady_setMnu s rfl
  · exact (steady_setMnu s (by rfl)).trans (steady_markDirty _ _)

theorem steady_refillNotices : Steady s (refillNotices s) :=
  ((steady_dropMenuFetch s _).trans (steady_dropMenuFetch _ _)).trans (steady_setNotices _ _ _)

theorem steady_withdrawMenuRequest : Steady s (withdrawMenuRequest s) := by
  unfold withdrawMenuRequest
  split
  · next waiting =>
    split
    · exact steady_setMnu s (by simp [waiting])
    · exact .refl s
  · exact steady_dropMenuFetch s _
  · exact .refl s

theorem steady_applyMenuRequest : Steady s (applyMenuRequest s) := by
  unfold applyMenuRequest
  dsimp only
  repeat' split
  · exact .refl s
  · exact steady_withdrawMenuRequest s
  · exact (steady_withdrawMenuRequest s).trans (steady_answerMenu _ _)
  · exact (steady_withdrawMenuRequest s).trans (steady_answerMenu _ _)

theorem steady_menuApply : Steady s (menuApply s) := by
  refine .trans (.trans (.trans ?_ (steady_refillNotices _)) (steady_applyMenuRequest _)) (steady_menuKick _)
  refine .trans (.trans ?_ (steady_setMnu _ (by rfl))) (steady_markDirty _ _)
  exact ((steady_dropMenuFetch s _).trans (steady_dropMenuFetch _ _)).trans (steady_dropMenuFetch _ _)

theorem steady_menuWarmReset : Steady s (menuWarmReset s) :=
  (steady_setMnu s (Claim.giveUp_isGranted _)).trans (steady_markDirty _ _)

theorem steady_menuRelease : Steady s (menuRelease s) :=
  ((steady_setMnu s (by rfl)).trans (steady_refillNotices _)).trans (steady_menuKick _)

/-! ### Layouts and the reverse view -/

theorem steady_setLyu {l : Lyu} (h : l.claim.isGranted = s.lyu.claim.isGranted) (hp : l.partState = s.lyu.partState) :
    Steady s (setLyu l s) := steady_withLyu s h hp

/-- A layout is applied: the map and the committed layout change, and the blocks take it (R29). -/
theorem steady_applyLayout (l : Layout) : Steady s (applyLayout l s) := by
  refine .trans (.trans (.trans (.trans (.trans ?_ (steady_menuApply _)) (steady_guideApply _)) (steady_chimeApply _))
    (steady_audioApply _)) (steady_markDirty _ _)
  exact (steady_withMap s _).trans (steady_setLyu _ (by rfl) (by rfl))

theorem steady_normalEntryNotice : Steady s (normalEntryNotice s) := by
  unfold normalEntryNotice
  split
  · exact (steady_applyLayout s _).trans (steady_raiseCause _ _)
  · exact .refl s

@[simp] theorem Lyu.kick_isGranted (l : Lyu) : l.kick.claim.isGranted = l.claim.isGranted := by
  unfold Lyu.kick
  split
  · next idle _ => simp [idle]
  · rfl

@[simp] theorem Lyu.kick_partState (l : Lyu) : l.kick.partState = l.partState := by
  unfold Lyu.kick
  split <;> rfl

theorem steady_requestLayoutCommit : Steady s (requestLayoutCommit s).1 := by
  unfold requestLayoutCommit
  split
  · exact steady_setLyu s (by simp) (by simp)
  · exact .refl s

theorem steady_rejectCommit (f : CheckFailure) (code : ResultCode) : Steady s (rejectCommit f code s) :=
  (((steady_reportPlain s _ _ _).trans (steady_setLyu _ (by rfl) (by rfl))).trans (steady_markDirty _ _)).trans (steady_giveResult _ _)

theorem steady_acceptCommit (l : Layout) : Steady s (acceptCommit l s) := by
  unfold acceptCommit
  dsimp only
  have taken : ∀ n, Steady s (markDirty .s0 (setLyu { s.lyu with commit := .none, lastCommitCheck := n } s)) := fun _ =>
    (steady_setLyu s (by rfl) (by rfl)).trans (steady_markDirty _ _)
  split
  · exact ((taken _).trans (steady_applyLayout _ _)).trans (steady_giveResult _ _)
  · exact ((taken _).trans (steady_setLyu _ (by rfl) (by rfl))).trans (steady_giveResult _ _)
  · exact ((taken _).trans (steady_setLyu _ (by rfl) (by rfl))).trans (steady_giveResult _ _)

theorem steady_handView (before : View) : Steady s (handView before s) :=
  ((steady_guideViewNotice s _ _).trans (steady_parkViewNotice _ _)).trans (steady_chuViewNotice _ _ _)

theorem steady_engageChime (cause : EngageCause) : Steady s (engageChime cause s) := by
  unfold engageChime
  split
  · exact steady_chimeEvent s _
  · exact .refl s

theorem steady_viewEngage (cause : EngageCause) : Steady s (viewEngage cause s) :=
  ((((steady_setRvc s _).trans (steady_startCapture _)).trans (steady_handView _ _)).trans (steady_raiseCause _ _)).trans
    (steady_engageChime _ _)

theorem steady_viewReengage (cause : EngageCause) : Steady s (viewReengage cause s) :=
  ((steady_setRvc s _).trans (steady_handView _ _)).trans (steady_engageChime _ _)

theorem steady_enterNormal : Steady s (enterNormal s) :=
  ((((steady_setRvc s _).trans (steady_stopCapture _)).trans (steady_handView _ _)).trans (steady_raiseCause _ _)).trans
    (steady_normalEntryNotice _)

theorem steady_viewHold : Steady s (viewHold s) := by
  unfold viewHold
  dsimp only
  split
  · exact steady_enterNormal s
  · exact (steady_setRvc s _).trans (steady_handView _ _)

theorem steady_evaluateDemand (cause : EngageCause) : Steady s (evaluateDemand cause s) := by
  unfold evaluateDemand
  split
  · exact steady_viewEngage s cause
  · exact steady_viewHold s
  · exact steady_viewReengage s cause
  all_goals exact .refl s

theorem steady_viewCameraOff : Steady s (viewCameraOff s) := by
  unfold viewCameraOff
  dsimp only
  split
  · exact steady_setRvc s _
  · exact steady_setRvc s _
  · exact (steady_setRvc s _).trans (steady_enterNormal _)
  · exact (steady_setRvc s _).trans (steady_enterNormal _)

theorem steady_requestViewCamera (argument : Nat) : Steady s (requestViewCamera argument s).1 := by
  unfold requestViewCamera
  split
  · exact steady_viewCameraOff s
  · exact (steady_setRvc s _).trans (steady_evaluateDemand _ _)
  · exact .refl s

theorem steady_beginActing : Steady s (beginActing s) := steady_setRvc s _

theorem steady_qualifyRev : Steady s (qualifyRev s) := by
  unfold qualifyRev
  repeat' split
  · exact .refl s
  · exact (steady_setRvc s _).trans (steady_evaluateDemand _ _)
  · exact .refl s

theorem steady_endHold : Steady s (endHold s) := by
  unfold endHold
  repeat' split
  · exact steady_enterNormal s
  · exact steady_withRvc s _
  · exact steady_withRvc s _
  · exact .refl s

theorem steady_enterLost (deadline : Bool) : Steady s (enterLost deadline s) :=
  (((steady_withRvc s _).trans (steady_reportPlain _ _ _ _)).trans (steady_chimeEvent _ _)).trans (steady_markDirty _ _)

theorem steady_reverseWarmReset : Steady s (reverseWarmReset s) := (steady_withRvc s _).trans (steady_markDirty _ _)

/-! ### The request ring -/

theorem steady_setRqe {r : Rqe} (h : r.claim.isGranted = s.rqe.claim.isGranted) : Steady s (setRqe r s) := steady_withRqe s h

/-- Raising RQE's next claim keeps whether it is granted (R43, R44). -/
@[simp] theorem Rqe.kick_isGranted (r : Rqe) : r.kick.claim.isGranted = r.claim.isGranted := by
  have started : r.start.claim = r.claim := by
    unfold Rqe.start
    split <;> rfl
  unfold Rqe.kick Rqe.raise
  split
  · next idle _ => simp [← started, idle]
  · rw [started]

@[simp] theorem Rqe.advance_isGranted (r : Rqe) : r.advance.claim.isGranted = r.claim.isGranted := Rqe.kick_isGranted _

theorem steady_producerBeat (bytes : List Byte) : Steady s (producerBeat bytes s) := by
  unfold producerBeat
  dsimp only
  repeat' split
  · exact .refl s
  · exact steady_setRqe s (by simp)
  · exact steady_reportPlain s _ _ _

theorem steady_filmRequest (channel : Nat) {act : Channel → State → State × ResultCode} (h : ∀ x, Steady s (act x s).1) :
    Steady s (filmRequest channel act s).1 := by
  unfold filmRequest
  repeat' split
  · exact .refl s
  · exact h .a
  · exact .refl s
  · exact h .b

theorem steady_changeChannel (x : Channel) (f : FilmChannel → FilmChannel) : Steady s (changeChannel x f s) := steady_setChannel s _ _

theorem steady_requestFilmPlay (x : Channel) : Steady s (requestFilmPlay x s).1 := by
  unfold requestFilmPlay
  repeat' split
  · exact .refl s
  · exact .refl s
  · exact (steady_changeChannel s _ _).trans (steady_aopKick _)

theorem steady_requestFilmPause (x : Channel) : Steady s (requestFilmPause x s).1 := steady_changeChannel s _ _

theorem steady_requestFilmStop (x : Channel) : Steady s (requestFilmStop x s).1 :=
  ((steady_changeChannel s _ _).trans (steady_markDirty _ _)).trans (steady_audioStop _ _)

theorem steady_requestFilmSeek (h m sec : Nat) (x : Channel) : Steady s (requestFilmSeek h m sec x s).1 := by
  unfold requestFilmSeek
  split
  · exact .refl s
  · exact (steady_changeChannel s _ _).trans (steady_markDirty _ _)

theorem steady_enterPhase (phase : EntryPhase) : Steady s (enterPhase phase s) := steady_setRqe s rfl

/-- Every request at its dispatch (R45 step 3). -/
theorem steady_dispatchKind {kind : Nat} {e : List Byte} {r : State × Option ResultCode} (h : dispatchKind kind e s = some r) :
    Steady s r.1 := by
  unfold dispatchKind at h
  dsimp only at h
  split at h
  all_goals cases h
  · exact steady_requestLayoutCommit s
  · exact steady_filmRequest s _ fun x => steady_requestFilmPlay s x
  · exact steady_filmRequest s _ fun x => steady_requestFilmPause s x
  · exact steady_filmRequest s _ fun x => steady_requestFilmStop s x
  · exact steady_filmRequest s _ fun x => steady_requestFilmSeek s _ _ _ x
  · exact steady_requestMenuPush s _ _
  · exact steady_requestMenuPop s _
  · exact steady_requestMenuReplace s _ _
  · exact steady_requestMenuClear s _
  · exact steady_requestMenuTouch s _
  · exact steady_requestViewCamera s _
  · exact steady_requestGuideBank s _
  · exact steady_requestChimePlay s _ _ _ _ _
  · exact steady_requestChimeStop s _
  · exact steady_requestFaultAck s _ _
  · exact steady_requestAttnAck s _
  · exact steady_requestResume s

theorem steady_judgeEntry (index : Count) (e : List Byte) : Steady s (judgeEntry index e s) := by
  unfold judgeEntry
  dsimp only
  split
  · exact (steady_reportPlain s _ _ _).trans (steady_giveResult _ _)
  · split
    · exact steady_giveResult s _
    · split
      · next r dispatched =>
        have begun := (steady_enterPhase s _).trans (steady_dispatchKind _ dispatched)
        unfold finishDispatch
        split
        · exact begun.trans (steady_giveResult _ _)
        · exact begun
      · exact .refl s

theorem steady_ringWarmReset : Steady s (ringWarmReset s) :=
  (steady_setRqe s (Claim.giveUp_isGranted _)).trans (steady_markDirty _ _)

/-! ### The warm reset -/

theorem steady_filmWarmReset : Steady s (filmWarmReset s) :=
  ((steady_withFsq s _).trans (steady_markDirty _ _)).trans (steady_markDirty _ _)

@[simp] theorem Stw.warmReset_isGranted (w : Stw) : w.warmReset.claim.isGranted = w.claim.isGranted := by
  unfold Stw.warmReset
  dsimp only
  rw [Stw.raise_isGranted]
  cases w.claim <;> rfl

/-- A warm reset runs the grant in progress on to its completion (R39, R20). -/
theorem steady_applyReset : Steady s (applyReset s) := by
  unfold applyReset
  dsimp only
  have lyu : Steady s (setLyu { s.lyu.discardStaged.abandonCommit with phase := .held, drainLimit := .stopped } s) :=
    steady_setLyu s (Claim.giveUp_isGranted _) rfl
  have shown := ((lyu.trans (steady_ringWarmReset _)).trans (steady_filmWarmReset _)).trans (steady_displayWarmReset _)
  have viewed := ((shown.trans (steady_menuWarmReset _)).trans (steady_reverseWarmReset _)).trans (steady_captureWarmReset _)
  have heard := (((viewed.trans (steady_guideWarmReset _)).trans (steady_parkWarmReset _)).trans (steady_chimeWarmReset _)).trans
    (steady_audioWarmReset _)
  revert heard
  generalize audioWarmReset _ = u
  exact fun heard => heard.trans ⟨rfl, rfl, rfl, rfl, by rintro ⟨⟩ <;> first | rfl | exact Stw.warmReset_isGranted _, id⟩

theorem steady_unhold : Steady s (unhold s) :=
  ⟨rfl, rfl, rfl, rfl, by rintro ⟨⟩ <;> rfl, id⟩

theorem steady_releaseReset : Steady s (releaseReset s) := by
  refine .trans (.trans (.trans (.trans (.trans ?_ (steady_unhold _)) (steady_displayRelease _)) (steady_menuRelease _))
    (steady_beginActing _)) (steady_raiseCause _ _)
  exact (steady_setLyu s (by rfl) (by rfl)).trans (steady_markDirty _ _)

theorem steady_resetNow : Steady s (resetNow s) := by
  unfold resetNow
  split
  · exact steady_applyReset s
  · exact (steady_applyReset s).trans (steady_releaseReset _)

theorem steady_checkDrain : Steady s (checkDrain s) := by
  unfold checkDrain
  split
  · exact steady_resetNow s
  · exact .refl s

theorem steady_startDrain : Steady s (startDrain s) := by
  refine .trans (.trans ?_ (steady_drainCapture _)) (steady_markDirty _ _)
  exact ⟨rfl, rfl, rfl, rfl, by rintro ⟨⟩ <;> rfl, id⟩

theorem steady_takeAssertion : Steady s (takeAssertion s) := by
  unfold takeAssertion
  split
  · exact steady_resetNow s
  · exact (steady_startDrain s).trans (steady_checkDrain _)

end Updates

end Sys2Proof.Machine
end

section
/-! SUPPORT. What each command does to the memory path: it is steady work, it ends the grant in progress, or it is one of the six commands
of the path itself, whose cases stand here too. -/

namespace Sys2Proof.Machine

/-! ## A grant begins and ends -/

/-- The grant in progress ends, and with it the claim of its port (R19, R20). -/
def endGrant (p : Port) (s : State) : State :=
  let t := freeFmc s
  match p with
  | .host => t
  | .rqe => { t with rqe := { t.rqe with claim := .idle } }
  | .lyu => { t with lyu := { t.lyu with claim := .idle } }
  | .stw => { t with stw := { t.stw with claim := .idle } }
  | .mnu => { t with mnu := { t.mnu with claim := .idle } }
  | .gdu => { t with gdu := { t.gdu with claim := .idle } }
  | .denRl => setEngine .rl { engine .rl t with claim := .idle } t
  | .denRr => setEngine .rr { engine .rr t with claim := .idle } t
  | .denC => setEngine .c { engine .c t with claim := .idle } t
  | .ccp => { t with ccp := { t.ccp with claim := .idle } }
  | .aop => { t with aop := { t.aop with claim := .idle } }
  | .chu => { t with chu := { t.chu with claim := .idle } }

/-- A port's claim becomes granted, with FMC as the grant leaves it (R19). -/
def startGrant (p : Port) (f : Fmc) (s : State) : State :=
  let t := { s with fmc := f }
  match p with
  | .host => t
  | .rqe => { t with rqe := { t.rqe with claim := .granted true } }
  | .lyu => { t with lyu := { t.lyu with claim := .granted true } }
  | .stw => { t with stw := { t.stw with claim := .sectionGranted } }
  | .mnu => { t with mnu := { t.mnu with claim := .granted true } }
  | .gdu => { t with gdu := { t.gdu with claim := .granted true } }
  | .denRl => setEngine .rl { engine .rl t with claim := .granted true } t
  | .denRr => setEngine .rr { engine .rr t with claim := .granted true } t
  | .denC => setEngine .c { engine .c t with claim := .granted true } t
  | .ccp => { t with ccp := { t.ccp with claim := .granted true } }
  | .aop => { t with aop := { t.aop with claim := .granted true } }
  | .chu => { t with chu := { t.chu with claim := .granted true } }

theorem grantedAt_endGrant (p q : Port) (s : State) : grantedAt (endGrant p s) q = (grantedAt s q && decide (q ≠ p)) := by
  cases p <;> cases q <;> first | rfl | exact (Bool.and_false _).symm | exact (Bool.and_true _).symm

theorem grantedAt_startGrant (p q : Port) (f : Fmc) (s : State) :
    grantedAt (startGrant p f s) q = (grantedAt s q || decide (q = p ∧ p ≠ .host)) := by
  cases p <;> cases q <;> first | rfl | exact (Bool.or_false _).symm | exact (Bool.or_true _).symm

theorem endGrant_keeps (p : Port) (s : State) :
    (endGrant p s).fmc = { s.fmc with busy := none } ∧ (endGrant p s).hlp = s.hlp ∧ (endGrant p s).pending = s.pending ∧
    (endGrant p s).lyu.partState = s.lyu.partState := by
  cases p <;> exact ⟨rfl, rfl, rfl, rfl⟩

theorem startGrant_keeps (p : Port) (f : Fmc) (s : State) :
    (startGrant p f s).fmc = f ∧ (startGrant p f s).hlp = s.hlp ∧ (startGrant p f s).pending = s.pending ∧
    (startGrant p f s).lyu.partState = s.lyu.partState := by
  cases p <;> exact ⟨rfl, rfl, rfl, rfl⟩

/-- The end of another port's grant leaves GDU. -/
theorem guideSafe_endGrant {p : Port} {s : State} (h : p ≠ .gdu) (safe : GuideSafe s) : GuideSafe (endGrant p s) := by
  cases p <;> first | exact safe | exact absurd rfl h

/-- A grant to GDU makes a claim that waits one that still counts. -/
theorem guideSafe_startGrant {p : Port} {f : Fmc} {s : State} (h : p = .gdu → s.gdu.claim ≠ .granted false) (safe : GuideSafe s) :
    GuideSafe (startGrant p f s) := by
  cases p
  case gdu =>
    obtain ⟨live, staged, caches, fetch, static, bucket⟩ := safe
    exact ⟨live, staged, caches, fun f hf up _ => fetch f hf up (h rfl), static, bucket⟩
  all_goals exact safe

/-! ## Completions -/

/-- A completion: the grant in progress was this port's and ends, and the rest is steady work. -/
structure Completes (p : Port) (s t : State) : Prop where
  internal : p ≠ .host
  busy : (s.fmc.busy.map fun g => g.kind.port) = some p
  rest : Steady (endGrant p s) t
  guide : GuideSafe s → GuideSafe t

/-- A completion at any port but GDU's. -/
theorem Completes.of_steady {p : Port} {s t : State} (internal : p ≠ .host) (other : p ≠ .gdu)
    (busy : (s.fmc.busy.map fun g => g.kind.port) = some p) (rest : Steady (endGrant p s) t) : Completes p s t :=
  ⟨internal, busy, rest, fun safe => rest.guide (guideSafe_endGrant other safe)⟩

section Completions

variable {s t : State}

theorem execEntryFetchComplete_cases (h : execEntryFetchComplete s = .next t) : t = s ∨ Completes .rqe s t := by
  unfold execEntryFetchComplete at h
  split at h
  · next beats busy =>
    cases h
    refine .inr (.of_steady (by decide) (by decide) (by rw [busy]; rfl) (.trans ?_ (steady_checkDrain _)))
    have ended : ∀ r : Rqe, r.claim.isGranted = false → Steady (endGrant .rqe s) (setRqe r (freeFmc s)) :=
      fun r hr => steady_withRqe (endGrant .rqe s) hr
    unfold entryFetched
    split
    · split
      · exact (ended _ rfl).trans (steady_giveResult _ _)
      · exact (ended _ rfl).trans (steady_judgeEntry _ _ _)
    · exact ended _ (by simp)
  · cases h; exact .inl rfl

theorem execLayoutFetchGrantComplete_cases (h : execLayoutFetchGrantComplete s = .next t) : t = s ∨ Completes .lyu s t := by
  unfold execLayoutFetchGrantComplete at h
  split at h
  · next beats busy =>
    have ended : Steady (endGrant .lyu s) (setLyu { s.lyu with claim := .idle } (freeFmc s)) := .refl _
    refine .inr (.of_steady (by decide) (by decide) (by rw [busy]; rfl) ?_)
    dsimp only at h
    repeat' split at h
    all_goals cases h
    · exact ended.trans (steady_rejectCommit _ _ _)
    · exact ended.trans (steady_setLyu _ (by simp) (by simp))
    · exact ended.trans (steady_rejectCommit _ _ _)
    · exact ended.trans (steady_setLyu _ (by rfl) (by rfl))
    · exact ended
    · exact ended
    · exact ended.trans (steady_setLyu _ (by simp) (by simp))
  · cases h; exact .inl rfl

theorem execResultWriteComplete_cases (h : execResultWriteComplete s = .next t) : t = s ∨ Completes .stw s t := by
  unfold execResultWriteComplete at h
  split at h
  · next beats busy =>
    cases h
    refine .inr (.of_steady (by decide) (by decide) (by rw [busy]; rfl) (.trans ?_ (steady_checkDrain _)))
    have ended : ∀ w : Stw, w.claim.isGranted = false → Steady (endGrant .stw s) { freeFmc s with stw := w } :=
      fun w hw => steady_withStw (endGrant .stw s) hw
    unfold resultWritten
    dsimp only
    split
    · exact ((ended _ rfl).trans (steady_setRqe _ (by simp))).trans (steady_markDirty _ _)
    · exact ended _ (by simp)
  · cases h; exact .inl rfl

theorem execStatusSectionWriteComplete_cases (h : execStatusSectionWriteComplete s = .next t) : t = s ∨ Completes .stw s t := by
  unfold execStatusSectionWriteComplete at h
  split at h
  · next beats busy =>
    cases h
    refine .inr (.of_steady (by decide) (by decide) (by rw [busy]; rfl) ?_)
    exact steady_withStw (endGrant .stw s) (Stw.raise_isGranted _)
  · cases h; exact .inl rfl

theorem execLineFetchGrantComplete_cases (h : execLineFetchGrantComplete s = .next t) : t = s ∨ ∃ p, Completes (scanPort p) s t := by
  have work : ∀ (p : Panel) (beats : List ReadBeat) (d : Den), (d.lineGrant p beats).claim.isGranted = false := fun p beats d => by
    unfold Den.lineGrant
    dsimp only
    split <;> simp
  unfold execLineFetchGrantComplete at h
  split at h
  · next p beats busy =>
    cases h
    refine .inr ⟨p, .of_steady (by cases p <;> decide) (by cases p <;> decide) (by rw [busy]; rfl) ?_⟩
    cases p
    · exact steady_setEngine (p := .rl) (endGrant .denRl s) (work .rl beats _)
    · exact steady_setEngine (p := .rr) (endGrant .denRr s) (work .rr beats _)
    · exact steady_setEngine (p := .c) (endGrant .denC s) (work .c beats _)
  · cases h; exact .inl rfl

theorem execDescriptorFetchComplete_cases (h : execDescriptorFetchComplete s = .next t) : t = s ∨ Completes .mnu s t := by
  unfold execDescriptorFetchComplete at h
  split at h
  · next beats busy =>
    have ended : Steady (endGrant .mnu s) (setMnu { s.mnu with fetch := none, claim := .idle } (freeFmc s)) :=
      steady_withMnu (endGrant .mnu s) rfl
    refine .inr (.of_steady (by decide) (by decide) (by rw [busy]; rfl) ?_)
    dsimp only at h
    repeat' split at h
    all_goals cases h
    · exact ((ended.trans (steady_judgeDescriptor _ _ _ _)).trans (steady_finishMenuFetch _ _ _)).trans (steady_menuKick _)
    · exact ended.trans (steady_menuKick _)
    · exact ended.trans (steady_menuKick _)
  · cases h; exact .inl rfl

theorem execCameraLineWriteComplete_cases (h : execCameraLineWriteComplete s = .next t) : t = s ∨ Completes .ccp s t := by
  unfold execCameraLineWriteComplete at h
  split at h
  · next beats busy =>
    cases h
    refine .inr (.of_steady (by decide) (by decide) (by rw [busy]; rfl) (.trans ?_ (steady_checkDrain _)))
    have ended : ∀ c : Ccp, c.claim.isGranted = false → Steady (endGrant .ccp s) (setCcp c (freeFmc s)) :=
      fun c hc => steady_withCcp (endGrant .ccp s) hc
    unfold lineWritten
    dsimp only
    repeat' split
    · exact ended _ rfl
    · exact ended _ (by simp)
    · exact ((ended _ (by simp)).trans (steady_closeIfWritten _)).trans (steady_ccpBoundary _)
    · exact ended _ (by simp)
  · cases h; exact .inl rfl

theorem execAudioBlockFetchComplete_cases (h : execAudioBlockFetchComplete s = .next t) : t = s ∨ Completes .aop s t := by
  unfold execAudioBlockFetchComplete at h
  split at h
  · next beats busy =>
    have ended : ∀ o : Aop, o.claim.isGranted = false → Steady (endGrant .aop s) (aopKick (setAop o (freeFmc s))) :=
      fun o ho => (steady_setAop (endGrant .aop s) ho).trans (steady_aopKick _)
    refine .inr (.of_steady (by decide) (by decide) (by rw [busy]; rfl) ?_)
    dsimp only at h
    repeat' split at h
    all_goals
      cases h
      exact ended _ rfl
  · cases h; exact .inl rfl

theorem execClipDirectoryFetchComplete_cases (h : execClipDirectoryFetchComplete s = .next t) : t = s ∨ Completes .chu s t := by
  unfold execClipDirectoryFetchComplete at h
  split at h
  · next beats busy =>
    have ended : ∀ c : Chu, c.claim.isGranted = false → Steady (endGrant .chu s) (settleChu c (freeFmc s)) :=
      fun c hc => steady_settleChu (endGrant .chu s) hc
    refine .inr (.of_steady (by decide) (by decide) (by rw [busy]; rfl) ?_)
    dsimp only at h
    repeat' split at h
    all_goals cases h
    · exact ended _ rfl
    · exact ended _ rfl
    · exact (ended _ (by simp)).trans (steady_reportPlain _ _ _ _)
    · exact ended _ rfl
  · cases h; exact .inl rfl

theorem execClipBlockFetchComplete_cases (h : execClipBlockFetchComplete s = .next t) : t = s ∨ Completes .chu s t := by
  unfold execClipBlockFetchComplete at h
  split at h
  · next beats busy =>
    have ended : ∀ c : Chu, c.claim.isGranted = false → Steady (endGrant .chu s) (settleChu c (freeFmc s)) :=
      fun c hc => steady_settleChu (endGrant .chu s) hc
    refine .inr (.of_steady (by decide) (by decide) (by rw [busy]; rfl) ?_)
    dsimp only at h
    repeat' split at h
    all_goals
      cases h
      exact ended _ rfl
  · cases h; exact .inl rfl

end Completions

/-! ## Guide lists -/

/-- A list is stored only with at most as many segments as its kind holds (R137). -/
theorem judgeGuideList_length {list : GuideList} {beats : List ReadBeat} {l : List Segment}
    (h : judgeGuideList list beats = .valid l) : l.length ≤ list.limit := by
  unfold judgeGuideList at h
  dsimp only at h
  repeat' split at h
  all_goals cases h
  next few _ _ =>
  simp only [List.length_map, List.length_take]
  omega

theorem Gdu.store_claim (g : Gdu) (list : GuideList) (v : GuideVerdict) : (g.store list v).claim = g.claim := by
  unfold Gdu.store
  split <;> rfl

namespace Gdu.Sound

variable {g : Gdu} (h : g.Sound)

include h

/-- With no fetch, the claim is free to change. -/
theorem unclaimed (gone : g.fetch = none) (c : Claim) : ({ g with claim := c } : Gdu).Sound :=
  .of_givenUp (fun _ hf => by rw [gone] at hf; cases hf) h.caches h.static h.bucket

theorem dropped (c : Claim) : ({ g with claim := c, fetch := none } : Gdu).Sound :=
  .of_givenUp (fun _ hf => by cases hf) h.caches h.static h.bucket

/-- A fetch that counts goes on with more beats. -/
theorem goesOn {f done : GuideFetch} (fetch : g.fetch = some f) (up : f.givenUp = false) (counts : g.claim ≠ .granted false)
    (bank : done.bank = f.bank) (list : done.list = f.list) (c : Claim) : ({ g with claim := c, fetch := some done } : Gdu).Sound := by
  refine ⟨h.caches, fun e he _ _ => ?_, h.static, h.bucket⟩
  cases he
  rw [bank, list]
  exact h.fetch f fetch up counts

/-- A judged list is stored where its kind says, within its limit, and the fetch ends (R137). -/
theorem judged {f : GuideFetch} (fetch : g.fetch = some f) (up : f.givenUp = false) (counts : g.claim ≠ .granted false) (c : Claim)
    (beats : List ReadBeat) : (({ g with claim := c, fetch := none } : Gdu).store f.list (judgeGuideList f.list beats)).Sound := by
  obtain ⟨-, live, -⟩ := h.fetch f fetch up counts
  have few : ∀ l, judgeGuideList f.list beats = .valid l → l.length ≤ f.list.limit := fun _ => judgeGuideList_length
  have dead : g.liveBank ≠ none := by simp [live]
  have ended : ∀ e, (none : Option GuideFetch) = some e → e.givenUp = true := fun _ he => by cases he
  generalize judgeGuideList f.list beats = v at few
  unfold Gdu.store
  split
  · next list => exact .of_givenUp ended (absurd · dead) (fun l hl => by cases hl; simpa [list, GuideList.limit] using few _ rfl) h.bucket
  · exact .of_givenUp ended (absurd · dead) (fun l hl => by cases hl) h.bucket
  · next list => exact .of_givenUp ended (absurd · dead) h.static (fun k l hl => by cases hl; simpa [list, GuideList.limit] using few _ rfl)
  · exact .of_givenUp ended (absurd · dead) h.static (fun k l hl => by cases hl)

end Gdu.Sound

/-- The end of a guide list's grant: an abandoned fetch is dropped, an unfinished one goes on, a whole one is judged (R136, R137). -/
theorem execGuideListGrantComplete_cases {s t : State} (h : execGuideListGrantComplete s = .next t) : t = s ∨ Completes .gdu s t := by
  unfold execGuideListGrantComplete at h
  split at h
  · next beats busy =>
    have ended : ∀ g : Gdu, g.claim.isGranted = false → ((endGrant .gdu s).gdu.Sound → g.Sound) →
        Steady (endGrant .gdu s) (setGdu g (freeFmc s)) := fun g hg sound => steady_setGdu (endGrant .gdu s) hg sound
    have port : (s.fmc.busy.map fun g => g.kind.port) = some Port.gdu := by rw [busy]; rfl
    have free : (endGrant .gdu s).gdu.claim ≠ .granted false := by simp [endGrant]
    dsimp only at h
    split at h
    · next gone =>
      cases h
      exact .inr ⟨by decide, port, ended _ (by simp) fun sound => (sound.unclaimed gone _).kick _,
        fun safe => guideSafe_setGdu ((safe.sound.unclaimed gone _).kick _)⟩
    · next f fetch =>
      split at h
      · cases h
        exact .inr ⟨by decide, port, ended _ (by simp) fun sound => (sound.dropped _).kick _,
          fun safe => guideSafe_setGdu ((safe.sound.dropped _).kick _)⟩
      · next wanted =>
        obtain ⟨up, live⟩ : f.givenUp = false ∧ s.gdu.claim.live = true := by simpa using wanted
        have counts : s.gdu.claim ≠ .granted false := fun hc => by rw [hc] at live; cases live
        split at h
        · cases h
          exact .inr ⟨by decide, port, ended _ (by simp) fun sound => (sound.goesOn fetch up free (by rfl) (by rfl) _).kick _,
            fun safe => guideSafe_setGdu ((safe.sound.goesOn fetch up counts (by rfl) (by rfl) _).kick _)⟩
        · cases h
          have reported := fun done v u => (steady_markDirty u .s3).trans (steady_reportList _ done v)
          exact .inr ⟨by decide, port,
            (ended _ (by simp [Gdu.store_claim]) fun sound => (sound.judged fetch up free _ _).kick _).trans (reported _ _ _),
            fun safe => (reported _ _ _).guide (guideSafe_setGdu ((safe.sound.judged fetch up counts _ _).kick _))⟩
  · cases h; exact .inl rfl

end Sys2Proof.Machine
end

section
/-! SUPPORT. The arbiter's grant and the other commands of the memory path; then the statements that follow from the frame alone. -/

namespace Sys2Proof.Machine

/-! ## The arbiter's grant -/

/-- The tier's rotation position becomes the port, which the arbiter does before it grants (R18). -/
def turned (k : Nat) (p : Port) (s : State) : State := { s with fmc := s.fmc.setRotation k p }

theorem setRotation_keeps (f : Fmc) (k : Nat) (p : Port) :
    (f.setRotation k p).cells = f.cells ∧ (f.setRotation k p).marks = f.marks ∧ (f.setRotation k p).busy = f.busy := by
  unfold Fmc.setRotation
  split <;> exact ⟨rfl, rfl, rfl⟩

/-- A grant has begun at a port: FMC is busy with it, in canonical form if it was, and the rest is steady work. -/
structure Begins (p : Port) (s t : State) : Prop where
  frame : ∃ f : Fmc, (s.fmc.wf = true → f.wf = true) ∧ (f.busy.map fun g => g.kind.port) = some p ∧ Steady (startGrant p f s) t
  waited : waiting s p = true

/-- What the arbiter's grant to a port can do. -/
inductive GrantOutcome (p : Port) (s t : State) : Prop where
  | begun (h : Begins p s t)
  | answered (r : Response) (u : State) (host : p = .host) (head : s.hlp.queue ≠ []) (work : Steady s u) (sent : t = sendResponse r u)
  | nothing (h : t = s)

/-- The canonical forms do not speak of the grant in progress. -/
theorem Fmc.wf_withBusy (f : Fmc) (b : Option Grant) : ({ f with busy := b } : Fmc).wf = f.wf := rfl

theorem insideMemory_iff (a n : Nat) : insideMemory a n = true ↔ a + 16 * n ≤ Config.memoryEnd := by simp [insideMemory]

section Grants

variable {s t : State}

/-- A grant has begun once FMC has moved its beats, its claim is granted and the rest of the state is as good as it was (R19). -/
theorem beginGrant_begins {p : Port} {kind : GrantKind} {m : Moved} {u : State} (port : kind.port = p)
    (wf : s.fmc.wf = true → m.fmc.wf = true) (start : ∀ f : Fmc, Steady (startGrant p f s) { u with fmc := f })
    (waits : waiting s p = true) : GrantOutcome p s (beginGrant p kind m u) :=
  .begun ⟨⟨{ m.fmc with busy := some ⟨kind, m.beats⟩ }, wf, by rw [← port]; rfl,
    (start _).trans (steady_reportMemoryFor _ _ _)⟩, waits⟩

theorem grantRead_cases {p : Port} {kind : GrantKind} {r : Req} {granted : State → State} (port : kind.port = p)
    (start : ∀ f : Fmc, Steady (startGrant p f s) { granted s with fmc := f }) (waits : waiting s p = true)
    (h : grantRead p kind r granted s = .next t) : GrantOutcome p s t := by
  unfold grantRead at h
  split at h
  · next inside =>
    cases h
    exact beginGrant_begins port (fun wf => readBeats_wf wf ((insideMemory_iff _ _).mp inside)) start waits
  · cases h

/-- A claim that does not wait is not granted. -/
theorem withClaim_cases {c : Claim} {p : Port} {f : Req → Host.Outcome State Fault Refusal}
    (grant : ∀ r, c = .waiting r → f r = .next t → GrantOutcome p s t) (h : withClaim c s f = .next t) : GrantOutcome p s t := by
  unfold withClaim at h
  split at h
  · next r => exact grant r rfl h
  · cases h; exact .nothing rfl
  · cases h; exact .nothing rfl

theorem fullBeats_length (n : Nat) (bytes : List Byte) : (fullBeats n bytes).length = n := by
  induction n generalizing bytes with
  | zero => rfl
  | succ n ih => simp [fullBeats, ih]

theorem StatusSection.index_le (k : StatusSection) : k.index ≤ 7 := by cases k <;> decide

/-- The grant of a capture claim writes inside frame memory (R121). -/
theorem grantCapture_cases {r : Req} (waits : waiting s .ccp = true) (h : grantCapture r s = .next t) : GrantOutcome .ccp s t := by
  have begun : ∀ beats : List (BitVec 16 × List Byte), insideMemory r.address (max r.beats beats.length) = true →
      GrantOutcome .ccp s (beginGrant .ccp .cameraWrite (s.fmc.writeBeats r.address beats)
        { s with ccp := { s.ccp with claim := .granted true } }) := fun beats inside => by
    have := (insideMemory_iff _ _).mp inside
    exact beginGrant_begins rfl (fun wf => writeBeats_wf wf (by omega)) (fun f => .refl _) waits
  unfold grantCapture at h
  dsimp only at h
  split at h <;> split at h
  · next inside => cases h; exact begun _ inside
  · cases h
  · next inside => cases h; exact begun _ inside
  · cases h

/-- The grant of a section claim writes the status block (R36). -/
theorem grantSection_begins {k : StatusSection} (waits : waiting s .stw = true) : GrantOutcome .stw s (grantSection k s) := by
  refine beginGrant_begins rfl (fun wf => writeBeats_wf wf ?_) (fun f => ⟨rfl, rfl, rfl, rfl, by rintro ⟨⟩ <;> rfl, id⟩) waits
  have := k.index_le
  simp only [fullBeats_length, sectionAddress, Config.statusBase, Config.memoryEnd]
  omega

/-- The grant of a result claim writes the result field of an entry of the ring (R37). -/
theorem grantResult_begins {r : ResultWrite} (waits : waiting s .stw = true) : GrantOutcome .stw s (grantResult r s) := by
  refine beginGrant_begins rfl (fun wf => writeBeat_wf wf ?_) (fun f => ⟨rfl, rfl, rfl, rfl, by rintro ⟨⟩ <;> rfl, id⟩) waits
  simp only [Config.ringBase, Config.memoryEnd]
  omega

theorem grantStatus_cases (h : grantStatus s = .next t) : GrantOutcome .stw s t := by
  unfold grantStatus at h
  split at h
  · next claim => cases h; exact grantSection_begins (by simp [waiting, claim])
  · next claim _ => cases h; exact grantResult_begins (by simp [waiting, claim])
  all_goals
    cases h
    exact .nothing rfl

/-! ### The host's take -/

theorem steady_takeTrailer (x : Channel) (bytes : List Byte) (s : State) : Steady s (takeTrailer x bytes s) := by
  unfold takeTrailer
  dsimp only
  split
  · exact steady_reportPlain s _ _ _
  · exact steady_setChannel s _ _
  · exact .refl s

theorem steady_takeWatched (s : State) (w : Nat × List Byte) : Steady s (takeWatched s w) := by
  unfold takeWatched
  repeat' split
  · exact steady_producerBeat s _
  · exact steady_steeringBeat s _
  · exact steady_distanceBeat s _
  · exact steady_audioProducerBeat s _ _
  · exact steady_audioProducerBeat s _ _
  · exact steady_uiBaseBeat s _
  · exact .refl s

theorem steady_foldl_takeWatched (ws : List (Nat × List Byte)) (s : State) : Steady s (ws.foldl takeWatched s) := by
  induction ws generalizing s with
  | nil => exact .refl s
  | cons w ws ih => exact (steady_takeWatched s w).trans (ih _)

/-- What a performed WRITE hands on leaves the memory path (R9, R12). -/
theorem steady_handOn (window : Option Channel) (p : HostRequest) (s : State) : Steady s (handOn window p s) := by
  unfold handOn
  split
  · exact .refl s
  · unfold handTrailer
    dsimp only
    split
    · exact steady_takeTrailer _ _ s
    · exact .refl s
  · exact steady_foldl_takeWatched _ s

theorem moveHost_wf {p : HostRequest} {target : Nat} {f : Fmc} (wf : f.wf = true)
    (inside : target + 16 * max p.beatCount.toNat p.elements.length ≤ Config.memoryEnd) : (moveHost p target f).fmc.wf = true := by
  unfold moveHost
  split
  · exact readBeats_wf wf (by omega)
  · exact writeBeats_wf wf (by simp only [List.length_map]; omega)

/-- The grant of the HOST claim performs the take or answers it (R4). -/
theorem grantHost_cases {p : HostRequest} {rest : List HostRequest} (head : s.hlp.queue = p :: rest) (h : grantHost p s = .next t) :
    GrantOutcome .host s t := by
  unfold grantHost at h
  split at h
  · cases h
    exact .answered _ _ rfl (by simp [head]) (steady_reportHost s _ _ _ _) rfl
  · split at h
    · next inside =>
      cases h
      refine .begun ⟨⟨_, fun wf => ?_, ?_, Steady.trans (Steady.trans (.refl _) (steady_reportMemoryHost _ _ _ _)) (steady_handOn _ _ _)⟩,
        by simp [waiting, head]⟩
      · rw [Fmc.wf_withBusy]
        exact moveHost_wf wf ((insideMemory_iff _ _).mp inside)
      · rfl
    · cases h

/-- What the grant to a port can do (R18, R19). -/
theorem grantTo_cases {p : Port} (h : grantTo p s = .next t) : GrantOutcome p s t := by
  have refl : ∀ u : State, Steady u u := .refl
  unfold grantTo at h
  split at h
  · split at h
    · next head => exact grantHost_cases head h
    · cases h; exact .nothing rfl
  · exact grantStatus_cases h
  · exact withClaim_cases (fun r hc hr => grantRead_cases rfl (fun f => refl _) (by simp [waiting, hc, Claim.req]) hr) h
  · exact withClaim_cases (fun r hc hr => grantRead_cases rfl (fun f => refl _) (by simp [waiting, hc, Claim.req]) hr) h
  · exact withClaim_cases (fun r hc hr => grantRead_cases rfl (fun f => refl _) (by simp [waiting, hc, Claim.req]) hr) h
  · exact withClaim_cases (fun r hc hr => grantRead_cases rfl (fun f => refl _) (by simp [waiting, hc, Claim.req]) hr) h
  · exact withClaim_cases (fun r hc hr => grantRead_cases rfl (fun f => refl _) (by simp [waiting, hc, Claim.req]) hr) h
  · exact withClaim_cases (fun r hc hr => grantRead_cases rfl (fun f => refl _) (by simp [waiting, hc, Claim.req]) hr) h
  · exact withClaim_cases (fun r hc hr => grantRead_cases rfl (fun f => refl _) (by simp [waiting, hc, Claim.req]) hr) h
  · exact withClaim_cases (fun r hc hr => grantCapture_cases (by simp [waiting, hc, Claim.req]) hr) h
  · exact withClaim_cases (fun r hc hr => grantRead_cases rfl (fun f => refl _) (by simp [waiting, hc, Claim.req]) hr) h
  · refine withClaim_cases (fun r hc hr => grantRead_cases ?_ (fun f => refl _) (by simp [waiting, hc, Claim.req]) hr) h
    unfold Chu.grantKind
    repeat' split
    all_goals rfl

/-- ARBITER_GRANT grants nothing, or makes one grant in RUNNING with FMC free to the port chosen, whose tier's rotation turns (R18, R19). -/
theorem execArbiterGrant_cases (h : execArbiterGrant s = .next t) :
    t = s ∨ (s.lyu.partState = .running ∧ s.fmc.busy = none ∧ ∃ k p, choosePort s = some (k, p) ∧ GrantOutcome p (turned k p s) t) := by
  unfold execArbiterGrant at h
  split at h
  · next running free chosen => exact .inr ⟨running, free, _, _, chosen, grantTo_cases h⟩
  all_goals
    cases h
    exact .inl rfl

end Grants

/-! ## The other commands -/

/-- The commands of the memory path itself: the resets, the host link's, the grant and the disturbance of a cell. -/
def onPath : Instr → Bool
  | .powerOnReset | .initEnd | .memoryCellDisturbance _ _ | .hostRequestPacket _ | .arbiterGrant | .hostGrantComplete => true
  | _ => false

/-! ### Commands that are steady work -/

section Steadily

variable {s t : State}

theorem steady_of_next {u : State} (h : Host.Outcome.next u = Host.Outcome.next (φ := Fault) (ρ := Refusal) t) (work : Steady s u) :
    Steady s t := by
  cases h
  exact work

theorem steady_execValidationEnd (h : execValidationEnd s = .next t) : Steady s t := by
  simp only [execValidationEnd] at h
  repeat' split at h
  · exact steady_of_next h (steady_rejectCommit s _ _)
  · exact steady_of_next h (steady_acceptCommit s _)
  all_goals exact steady_of_next h (.refl s)


theorem steady_execWrstAssert (h : execWrstAssert s = .next t) : Steady s t := by
  simp only [execWrstAssert] at h
  repeat' split at h
  · exact steady_of_next h (.refl s)
  · exact steady_of_next h ((steady_withPins s _).trans (steady_takeAssertion _))
  all_goals exact steady_of_next h (steady_withPins s _)


theorem steady_execDrainLimitExpiry (h : execDrainLimitExpiry s = .next t) : Steady s t := by
  simp only [execDrainLimitExpiry] at h
  split at h
  · exact steady_of_next h (steady_resetNow s)
  · exact steady_of_next h (.refl s)


theorem steady_execWrstDeassert (h : execWrstDeassert s = .next t) : Steady s t := by
  simp only [execWrstDeassert] at h
  repeat' split at h
  · exact steady_of_next h (.refl s)
  · exact steady_of_next h ((steady_withPins s _).trans (steady_releaseReset _))
  all_goals exact steady_of_next h (steady_withPins s _)


theorem steady_execRefreshStart (p : Panel) (h : execRefreshStart p s = .next t) : Steady s t := by
  simp only [execRefreshStart] at h
  repeat' split at h
  · exact steady_of_next h (steady_rearRefresh s _)
  · exact steady_of_next h (steady_rearRefresh s _)
  · exact steady_of_next h (steady_centreRefresh s)
  · exact steady_of_next h (.refl s)


theorem steady_execLineDue (p : Panel) (h : execLineDue p s = .next t) : Steady s t := by
  simp only [execLineDue] at h
  repeat' split at h
  · exact steady_of_next h (.refl s)
  · exact steady_of_next h (steady_setEngine s (by simp [Den.outputLine]))
  · exact steady_of_next h (steady_setEngine s (by simp [Den.late]))
  · exact steady_of_next h ((steady_setEngine s (by simp [Den.late])).trans (steady_reportPlain _ _ _ _))


theorem steady_execIdleTimerExpiry (p : Panel) (h : execIdleTimerExpiry p s = .next t) : Steady s t := by
  simp only [execIdleTimerExpiry] at h
  repeat' split at h
  · exact steady_of_next h (steady_restartIdle s _)
  · exact steady_of_next h (steady_setMenuPanel s _ _)
  · exact steady_of_next h (steady_changeStack s _ _ _)
  · exact steady_of_next h ((steady_setMenuPanel s _ _).trans (steady_menuKick _))
  · exact steady_of_next h (.refl s)


theorem steady_execRevEdge (level : Level) (h : execRevEdge level s = .next t) : Steady s t := by
  simp only [execRevEdge] at h
  repeat' split at h
  · exact steady_of_next h (.refl s)
  · exact steady_of_next h ((steady_withPins s _).trans (steady_setRvc _ _))
  · exact steady_of_next h (steady_withPins s _)


theorem steady_execFirstFrameDeadlineExpiry (h : execFirstFrameDeadlineExpiry s = .next t) : Steady s t := by
  simp only [execFirstFrameDeadlineExpiry] at h
  repeat' split at h
  · exact steady_of_next h (steady_enterLost s _)
  · exact steady_of_next h (steady_withRvc s _)
  · exact steady_of_next h (steady_withRvc s _)
  · exact steady_of_next h (.refl s)


theorem steady_execLostTimerExpiry (h : execLostTimerExpiry s = .next t) : Steady s t := by
  simp only [execLostTimerExpiry] at h
  repeat' split at h
  · exact steady_of_next h (steady_enterLost s _)
  · exact steady_of_next h (steady_withRvc s _)
  · exact steady_of_next h (steady_withRvc s _)
  · exact steady_of_next h (.refl s)


theorem steady_execUnknownCameraPacket (typeCode : Byte) (h : execUnknownCameraPacket typeCode s = .next t) : Steady s t := by
  simp only [execUnknownCameraPacket] at h
  split at h
  · exact steady_of_next h (.refl s)
  · cases h


theorem steady_execStaleTimerExpiry (h : execStaleTimerExpiry s = .next t) : Steady s t := by
  simp only [execStaleTimerExpiry] at h
  split at h
  · have stale := steady_withGdu s (g := { s.gdu with staleTimer := .stopped, steeringState := .stale }) rfl rfl rfl
      fun sound => ⟨sound.caches, sound.fetch, sound.static, sound.bucket⟩
    exact steady_of_next h ((stale.trans (steady_markDirty _ _)).trans (steady_staleCheck _))
  · exact steady_of_next h (.refl s)


theorem steady_execDistanceTimerExpiry (h : execDistanceTimerExpiry s = .next t) : Steady s t := by
  simp only [execDistanceTimerExpiry] at h
  repeat' split at h
  · exact steady_of_next h (steady_withPdu s _)
  · exact steady_of_next h ((steady_withPdu s _).trans (steady_enterSensorFault _ _ _))
  · exact steady_of_next h (.refl s)


theorem steady_execTonePeriodWrap (h : execTonePeriodWrap s = .next t) : Steady s t := by
  simp only [execTonePeriodWrap] at h
  split at h
  · exact steady_of_next h (steady_setChu s rfl)
  · exact steady_of_next h (.refl s)


theorem steady_execPartTimeTick (h : execPartTimeTick s = .next t) : Steady s t := by
  simp only [execPartTimeTick] at h
  split at h
  · exact steady_of_next h (.refl s)
  · exact steady_of_next h ((steady_withLyu s (by rfl) (by rfl)).trans (steady_setChu _ (by rfl)))

end Steadily

/-- A command off the memory path is steady work, or ends the grant in progress of a port of the part's own. -/
theorem exec_cases {c : Instr} {s t : State} (off : onPath c = false) (h : exec c s = .next t) :
    Steady s t ∨ ∃ p : Port, Completes p s t := by
  have same : t = s → Steady s t := fun e => e ▸ .refl s
  have ended : ∀ {p : Port}, t = s ∨ Completes p s t → Steady s t ∨ ∃ p : Port, Completes p s t :=
    fun e => e.imp same fun d => ⟨_, d⟩
  have steady : ∀ {u : State}, Host.Outcome.next u = Host.Outcome.next (φ := Fault) (ρ := Refusal) t → Steady s u →
      Steady s t ∨ ∃ p : Port, Completes p s t := fun next work => .inl (steady_of_next next work)
  cases c
  case powerOnReset | initEnd | memoryCellDisturbance | hostRequestPacket | arbiterGrant | hostGrantComplete => cases off
  case entryFetchComplete => exact ended (execEntryFetchComplete_cases h)
  case layoutFetchGrantComplete => exact ended (execLayoutFetchGrantComplete_cases h)
  case resultWriteComplete => exact ended (execResultWriteComplete_cases h)
  case statusSectionWriteComplete => exact ended (execStatusSectionWriteComplete_cases h)
  case descriptorFetchComplete => exact ended (execDescriptorFetchComplete_cases h)
  case cameraLineWriteComplete => exact ended (execCameraLineWriteComplete_cases h)
  case guideListGrantComplete => exact ended (execGuideListGrantComplete_cases h)
  case clipDirectoryFetchComplete => exact ended (execClipDirectoryFetchComplete_cases h)
  case clipBlockFetchComplete => exact ended (execClipBlockFetchComplete_cases h)
  case audioBlockFetchComplete => exact ended (execAudioBlockFetchComplete_cases h)
  case lineFetchGrantComplete => exact (execLineFetchGrantComplete_cases h).imp same fun ⟨_, d⟩ => ⟨_, d⟩
  case frameStart => exact steady h ((steady_takeFrameStart s _).trans (steady_checkDrain _))
  case line => exact steady h ((steady_takeLine s _ _ _).trans (steady_checkDrain _))
  case frameEnd => exact steady h ((steady_takeFrameEnd s).trans (steady_checkDrain _))
  case revPendingExpiry => exact steady h ((steady_qualifyRev s).trans (steady_checkDrain _))
  case holdTimerExpiry => exact steady h ((steady_endHold s).trans (steady_checkDrain _))
  case blockBoundary => exact steady h ((steady_blockBoundary s).trans (steady_checkDrain _))
  case validationEnd => exact .inl (steady_execValidationEnd h)
  case wrstAssert => exact .inl (steady_execWrstAssert h)
  case drainLimitExpiry => exact .inl (steady_execDrainLimitExpiry h)
  case wrstDeassert => exact .inl (steady_execWrstDeassert h)
  case refreshStart => exact .inl (steady_execRefreshStart _ h)
  case lineDue => exact .inl (steady_execLineDue _ h)
  case idleTimerExpiry => exact .inl (steady_execIdleTimerExpiry _ h)
  case revEdge => exact .inl (steady_execRevEdge _ h)
  case firstFrameDeadlineExpiry => exact .inl (steady_execFirstFrameDeadlineExpiry h)
  case lostTimerExpiry => exact .inl (steady_execLostTimerExpiry h)
  case unknownCameraPacket => exact .inl (steady_execUnknownCameraPacket _ h)
  case staleTimerExpiry => exact .inl (steady_execStaleTimerExpiry h)
  case distanceTimerExpiry => exact .inl (steady_execDistanceTimerExpiry h)
  case tonePeriodWrap => exact .inl (steady_execTonePeriodWrap h)
  case partTimeTick => exact .inl (steady_execPartTimeTick h)

/-- The end of INIT fills memory, and the rest is steady work (R35). -/
theorem execInitEnd_cases {s t : State} (h : execInitEnd s = .next t) :
    t = s ∨ (s.lyu.partState = .init ∧ Steady (enterRunning s) t) := by
  have begun : Steady (enterRunning s) (beginActing (raiseCause .resetDone (markDirty .s0 (enterRunning s)))) :=
    ((steady_markDirty _ _).trans (steady_raiseCause _ _)).trans (steady_beginActing _)
  unfold execInitEnd at h
  dsimp only at h
  repeat' split at h
  all_goals cases h
  · exact .inl rfl
  · exact .inr ⟨‹_›, begun⟩
  · exact .inr ⟨‹_›, begun.trans (steady_takeAssertion _)⟩

/-- A packet takes a credit or is reported (R1). -/
theorem execHostRequestPacket_cases {p : HostRequest} {s t : State} (h : execHostRequestPacket p s = .next t) :
    (0 < s.hlp.credits ∧ t = { s with hlp := { s.hlp with queue := s.hlp.queue ++ [p], credits := s.hlp.credits - 1 } }) ∨
    (s.hlp.credits = 0 ∧ Steady s t) := by
  unfold execHostRequestPacket at h
  repeat' split at h
  all_goals cases h
  · exact .inl ⟨‹_›, rfl⟩
  · exact .inr ⟨by omega, steady_reportHost s _ _ _ _⟩

/-- The end of the host's grant sends its response (R2). -/
theorem execHostGrantComplete_cases {s t : State} (h : execHostGrantComplete s = .next t) :
    t = s ∨ ((s.fmc.busy.map fun g => g.kind.port) = some .host ∧ ∃ r : Response, t = sendResponse r (endGrant .host s)) := by
  unfold execHostGrantComplete at h
  split at h
  · next r _ busy =>
    cases h
    exact .inr ⟨by rw [busy]; rfl, r, rfl⟩
  · cases h; exact .inl rfl

end Sys2Proof.Machine
end

section
/-! The statements of the memory path that follow from its frame: the canonical forms, credits and grants, GDU's lists, what changes
memory and the queues, and which commands complete. -/

namespace Sys2Proof.Machine

/-- A step keeps what does not speak of the queue of commands and every command keeps. -/
theorem step_keeps {P : State → Prop} (queue : ∀ (s : State) (rest : List Instr), P s → P { s with pending := rest })
    (keeps : ∀ (c : Instr) (s t : State), P s → exec c s = .next t → P t) (s t : State) (safe : P s) (h : step s = .next t) : P t := by
  unfold step at h
  split at h
  · cases h; exact safe
  · exact keeps _ _ t (queue s _ safe) h

/-! ## The canonical forms (R14 to R16) -/

theorem Steady.memorySafe {s t : State} (h : Steady s t) (safe : MemorySafe s) : MemorySafe t := by
  unfold MemorySafe
  rw [h.fmc]
  exact safe

theorem setRotation_wf {f : Fmc} {k : Nat} {p : Port} (wf : f.wf = true) : (f.setRotation k p).wf = true := by
  obtain ⟨cells, marks, -⟩ := setRotation_keeps f k p
  unfold Fmc.wf
  rw [cells, marks]
  exact wf

theorem GrantOutcome.memorySafe {p : Port} {s t : State} (h : GrantOutcome p s t) (safe : MemorySafe s) : MemorySafe t := by
  cases h with
  | begun begins =>
    obtain ⟨⟨f, wf, -, rest⟩, -⟩ := begins
    refine rest.memorySafe ?_
    unfold MemorySafe
    rw [(startGrant_keeps p f s).1]
    exact wf safe
  | answered r u host head work sent => rw [sent]; exact work.memorySafe safe
  | nothing same => rw [same]; exact safe

/-- Every command keeps the canonical forms. -/
theorem exec_memorySafe (c : Instr) (s t : State) (safe : MemorySafe s) (h : exec c s = .next t) : MemorySafe t := by
  by_cases off : onPath c = false
  · rcases exec_cases off h with work | ⟨p, done⟩
    · exact work.memorySafe safe
    · refine done.rest.memorySafe ?_
      unfold MemorySafe
      rw [(endGrant_keeps p s).1]
      exact safe
  · cases c <;> first | exact absurd rfl off | skip
    case powerOnReset => cases h; exact safe
    case initEnd =>
      rcases execInitEnd_cases h with same | ⟨-, work⟩
      · exact same ▸ safe
      · exact work.memorySafe rfl
    case memoryCellDisturbance beat flips =>
      cases h
      exact disturb_wf safe (by have := beat.isLt; simp only [Config.memoryEnd]; omega)
    case hostRequestPacket =>
      rcases execHostRequestPacket_cases h with ⟨-, taken⟩ | ⟨-, work⟩
      · rw [taken]; exact safe
      · exact work.memorySafe safe
    case arbiterGrant =>
      rcases execArbiterGrant_cases h with same | ⟨-, -, k, p, -, outcome⟩
      · exact same ▸ safe
      · exact outcome.memorySafe (s := turned k p s) (setRotation_wf safe)
    case hostGrantComplete =>
      rcases execHostGrantComplete_cases h with same | ⟨-, r, sent⟩
      · exact same ▸ safe
      · rw [sent]; exact safe

/-- Settles O5: memory moves only inside its bounds, and each move keeps the canonical form. -/
theorem memoryKeepsItsForm : Obligations.MemoryKeepsItsForm :=
  step_keeps (fun _ _ => id) exec_memorySafe

/-- A disturbance leaves the grant in progress. -/
theorem Fmc.disturb_busy (f : Fmc) (a : Nat) (flips : Beat) : (f.disturb a flips).busy = f.busy := by
  unfold Fmc.disturb
  dsimp only
  repeat' split
  all_goals rfl

/-! ## Credits and grants (R1 to R3, R19, R20) -/

theorem Steady.creditsSafe {s t : State} (h : Steady s t) (safe : CreditsSafe s) : CreditsSafe t := by
  unfold CreditsSafe
  rw [h.fmc, h.hlp, h.partState]
  exact safe

theorem Steady.grantsSafe {s t : State} (h : Steady s t) (safe : GrantsSafe s) : GrantsSafe t := by
  intro p hp internal
  rw [h.granted, h.fmc]
  exact safe p hp internal

/-- A response sent returns the credit of the head, whose request leaves the queue (R2). -/
theorem creditsSafe_sendResponse {r : Response} {u : State} (running : u.lyu.partState = .running) (head : u.hlp.queue ≠ [])
    (free : u.fmc.busy = none) (safe : CreditsSafe u) : CreditsSafe (sendResponse r u) := by
  have law := safe.2.1 running
  have some := List.length_pos_iff.mpr head
  refine ⟨fun init => ?_, fun _ => ?_, fun busy => ?_⟩
  · exact absurd (running.symm.trans init) (by decide)
  · simp only [sendResponse, List.length_drop]
    omega
  · simp [sendResponse, free] at busy

theorem GrantOutcome.creditsSafe {p : Port} {s t : State} (h : GrantOutcome p s t) (running : s.lyu.partState = .running)
    (free : s.fmc.busy = none) (safe : CreditsSafe s) : CreditsSafe t := by
  cases h with
  | begun begins =>
    obtain ⟨⟨f, -, port, rest⟩, waited⟩ := begins
    obtain ⟨fmc, hlp, -, partState⟩ := startGrant_keeps p f s
    refine rest.creditsSafe ?_
    unfold CreditsSafe
    rw [fmc, hlp, partState, port]
    refine ⟨fun init => absurd (running.symm.trans init) (by decide), safe.2.1, fun host => ?_⟩
    cases host
    simpa [waiting] using waited
  | answered r u host head work sent =>
    rw [sent]
    exact creditsSafe_sendResponse (work.partState.trans running) (by rw [work.hlp]; exact head) (by rw [work.fmc]; exact free)
      (work.creditsSafe safe)
  | nothing same => rw [same]; exact safe

theorem exec_creditsSafe (c : Instr) (s t : State) (safe : CreditsSafe s) (h : exec c s = .next t) : CreditsSafe t := by
  obtain ⟨init, running, head⟩ := safe
  by_cases off : onPath c = false
  · rcases exec_cases off h with work | ⟨p, done⟩
    · exact work.creditsSafe ⟨init, running, head⟩
    · obtain ⟨fmc, hlp, -, partState⟩ := endGrant_keeps p s
      refine done.rest.creditsSafe ?_
      unfold CreditsSafe
      rw [fmc, hlp, partState]
      exact ⟨fun hi => ⟨(init hi).1, (init hi).2.1, rfl⟩, running, fun hb => by cases hb⟩
  · cases c <;> first | exact absurd rfl off | skip
    case powerOnReset => cases h; exact ⟨fun _ => ⟨rfl, rfl, rfl⟩, fun hr => (by cases hr), fun hb => (by cases hb)⟩
    case initEnd =>
      rcases execInitEnd_cases h with same | ⟨hi, work⟩
      · exact same ▸ ⟨init, running, head⟩
      · obtain ⟨-, empty, free⟩ := init hi
        refine work.creditsSafe ⟨fun hi => (by cases hi), fun _ => ?_, fun hb => ?_⟩
        · simp [enterRunning, empty]
        · simp [enterRunning, free] at hb
    case memoryCellDisturbance beat flips =>
      cases h
      have busy := s.fmc.disturb_busy (16 * beat.toNat) flips
      exact ⟨fun hi => by simpa only [busy] using init hi, running, by simpa only [busy] using head⟩
    case hostRequestPacket =>
      rcases execHostRequestPacket_cases h with ⟨credit, taken⟩ | ⟨-, work⟩
      · rw [taken]
        refine ⟨fun hi => absurd (init hi).1 (by omega), fun hr => ?_, fun _ => by simp⟩
        have := running hr
        simp only [List.length_append, List.length_singleton]
        omega
      · exact work.creditsSafe ⟨init, running, head⟩
    case arbiterGrant =>
      rcases execArbiterGrant_cases h with same | ⟨hr, free, k, p, -, outcome⟩
      · exact same ▸ ⟨init, running, head⟩
      · have busy := (setRotation_keeps s.fmc k p).2.2
        refine outcome.creditsSafe hr (busy.trans free) ⟨fun hi => ?_, running, fun hb => ?_⟩
        · exact absurd (hr.symm.trans hi) (by decide)
        · rw [show (turned k p s).fmc.busy = none from busy.trans free] at hb
          cases hb
    case hostGrantComplete =>
      rcases execHostGrantComplete_cases h with same | ⟨port, r, sent⟩
      · exact same ▸ ⟨init, running, head⟩
      · have hr : s.lyu.partState = .running := by
          cases hp : s.lyu.partState with
          | running => rfl
          | init => rw [(init hp).2.2] at port; cases port
        rw [sent]
        exact creditsSafe_sendResponse hr (head port) rfl
          ⟨fun hi => absurd (hr.symm.trans hi) (by decide), running, fun hb => by cases hb⟩

/-- While one port's grant runs, no other port's claim is granted (R19). -/
theorem GrantsSafe.other_ungranted {s : State} (safe : GrantsSafe s) {p q : Port} (busy : (s.fmc.busy.map fun g => g.kind.port) = some p)
    (other : q ≠ p) : grantedAt s q = false := by
  by_cases host : q = .host
  · subst host; rfl
  · refine Bool.eq_false_iff.mpr fun granted => other ?_
    have := (safe q (by cases q <;> decide) host).mp granted
    rw [busy] at this
    exact (Option.some.inj this).symm

/-- While FMC is free, no claim is granted (R19). -/
theorem GrantsSafe.none_granted {s : State} (safe : GrantsSafe s) (free : s.fmc.busy = none) (p : Port) : grantedAt s p = false := by
  by_cases host : p = .host
  · subst host; rfl
  · have := safe p (by cases p <;> decide) host
    rw [free] at this
    simpa using this

theorem grantsSafe_of_none {s : State} (free : s.fmc.busy = none) (none : ∀ p, grantedAt s p = false) : GrantsSafe s := by
  intro p _ _
  rw [free, none]
  simp

theorem GrantOutcome.grantsSafe {p : Port} {s t : State} (h : GrantOutcome p s t) (free : s.fmc.busy = none) (safe : GrantsSafe s) :
    GrantsSafe t := by
  have idle := safe.none_granted free
  cases h with
  | begun begins =>
    obtain ⟨⟨f, -, port, rest⟩, -⟩ := begins
    refine rest.grantsSafe fun q _ internal => ?_
    rw [grantedAt_startGrant, idle, (startGrant_keeps p f s).1, port]
    simp only [Bool.false_or, decide_eq_true_eq, Option.some.injEq]
    exact ⟨fun ⟨same, _⟩ => same.symm, fun same => ⟨same.symm, same ▸ internal⟩⟩
  | answered r u host head work sent => rw [sent]; exact work.grantsSafe safe
  | nothing same => rw [same]; exact safe

theorem exec_grantsSafe (c : Instr) (s t : State) (safe : GrantsSafe s) (h : exec c s = .next t) : GrantsSafe t := by
  by_cases off : onPath c = false
  · rcases exec_cases off h with work | ⟨p, done⟩
    · exact work.grantsSafe safe
    · refine done.rest.grantsSafe (grantsSafe_of_none (by rw [(endGrant_keeps p s).1]) fun q => ?_)
      rw [grantedAt_endGrant]
      by_cases same : q = p
      · simp [same]
      · rw [safe.other_ungranted done.busy same]
        rfl
  · cases c <;> first | exact absurd rfl off | skip
    case powerOnReset => cases h; exact grantsSafe_of_none rfl (by rintro ⟨⟩ <;> rfl)
    case initEnd =>
      rcases execInitEnd_cases h with same | ⟨-, work⟩
      · exact same ▸ safe
      · exact work.grantsSafe fun p => by cases p <;> exact safe _
    case memoryCellDisturbance beat flips =>
      cases h
      have busy := s.fmc.disturb_busy (16 * beat.toNat) flips
      intro p hp internal
      have := safe p hp internal
      dsimp only
      rw [busy, ← this]
      cases p <;> rfl
    case hostRequestPacket =>
      rcases execHostRequestPacket_cases h with ⟨-, taken⟩ | ⟨-, work⟩
      · rw [taken]; exact fun p => by cases p <;> exact safe _
      · exact work.grantsSafe safe
    case arbiterGrant =>
      rcases execArbiterGrant_cases h with same | ⟨-, free, k, p, -, outcome⟩
      · exact same ▸ safe
      · have busy : (turned k p s).fmc.busy = none := (setRotation_keeps s.fmc k p).2.2.trans free
        exact outcome.grantsSafe busy (grantsSafe_of_none busy fun q => by
          rw [← safe.none_granted free q]; cases q <;> rfl)
    case hostGrantComplete =>
      rcases execHostGrantComplete_cases h with same | ⟨port, r, sent⟩
      · exact same ▸ safe
      · rw [sent]
        refine grantsSafe_of_none rfl fun q => ?_
        by_cases host : q = .host
        · subst host; rfl
        · rw [← safe.other_ungranted port host]; cases q <;> rfl

/-- Settles O6: credits move by acceptance and response alone, and a claim is granted exactly while its grant runs. -/
theorem creditsAndGrantsAgree : Obligations.CreditsAndGrantsAgree :=
  ⟨step_keeps (fun _ _ => id) exec_creditsSafe,
    step_keeps (fun _ _ safe p => by cases p <;> exact safe _) exec_grantsSafe⟩

/-! ## GDU's lists (R11, R133 to R138) -/

theorem GrantOutcome.guideSafe {p : Port} {s t : State} (h : GrantOutcome p s t) (safe : GuideSafe s) : GuideSafe t := by
  cases h with
  | begun begins =>
    obtain ⟨⟨f, -, -, rest⟩, waited⟩ := begins
    refine rest.guide (guideSafe_startGrant (fun gdu hc => ?_) safe)
    subst gdu
    simp [waiting, hc, Claim.req] at waited
  | answered r u host head work sent => rw [sent]; exact work.guide safe
  | nothing same => rw [same]; exact safe

theorem exec_guideSafe (c : Instr) (s t : State) (safe : GuideSafe s) (h : exec c s = .next t) : GuideSafe t := by
  by_cases off : onPath c = false
  · rcases exec_cases off h with work | ⟨p, done⟩
    · exact work.guide safe
    · exact done.guide safe
  · cases c <;> first | exact absurd rfl off | skip
    case powerOnReset =>
      cases h
      exact (guideSafe_iff _).mpr ⟨rfl, rfl, .of_givenUp (fun _ hf => by cases hf) (fun _ => ⟨rfl, rfl⟩) (fun _ hl => by cases hl)
        (fun _ _ hl => by cases hl)⟩
    case initEnd =>
      rcases execInitEnd_cases h with same | ⟨-, work⟩
      · exact same ▸ safe
      · exact work.guide safe
    case memoryCellDisturbance => cases h; exact safe
    case hostRequestPacket =>
      rcases execHostRequestPacket_cases h with ⟨-, taken⟩ | ⟨-, work⟩
      · rw [taken]; exact safe
      · exact work.guide safe
    case arbiterGrant =>
      rcases execArbiterGrant_cases h with same | ⟨-, -, k, p, -, outcome⟩
      · exact same ▸ safe
      · exact outcome.guideSafe (s := turned k p s) safe
    case hostGrantComplete =>
      rcases execHostGrantComplete_cases h with same | ⟨-, r, sent⟩
      · exact same ▸ safe
      · rw [sent]; exact safe

/-- Settles O14: WDC is told the banks with every change, and a change of bank or bucket gives up the fetch of the other. -/
theorem guideListsAreLive : Obligations.GuideListsAreLive := step_keeps (fun _ _ => id) exec_guideSafe

/-! ## What changes memory and the queues (R14, R19) -/

theorem Steady.memoryKept {s t : State} (h : Steady s t) : MemoryKept s t := by
  unfold MemoryKept
  rw [h.fmc]
  exact ⟨rfl, rfl⟩

theorem GrantOutcome.pending {p : Port} {s t : State} (h : GrantOutcome p s t) : t.pending = s.pending := by
  cases h with
  | begun begins =>
    obtain ⟨⟨f, -, -, rest⟩, -⟩ := begins
    exact rest.pending.trans (startGrant_keeps p f s).2.2.1
  | answered r u host head work sent => rw [sent]; exact work.pending
  | nothing same => rw [same]

/-- Settles O18: every other command is steady work on memory and the host's queue. -/
theorem memoryChangesOnlyByGrants : Obligations.MemoryChangesOnlyByGrants := by
  intro c s t h
  by_cases off : onPath c = false
  · rcases exec_cases off h with work | ⟨p, done⟩
    · exact ⟨work.pending, fun _ _ _ => work.memoryKept, fun _ _ _ _ => by rw [work.hlp]⟩
    · obtain ⟨fmc, hlp, pending, -⟩ := endGrant_keeps p s
      refine ⟨done.rest.pending.trans pending, fun _ _ _ => ?_, fun _ _ _ _ => by rw [done.rest.hlp, hlp]⟩
      unfold MemoryKept
      rw [done.rest.fmc, fmc]
      exact ⟨rfl, rfl⟩
  · cases c <;> first | exact absurd rfl off | skip
    case powerOnReset => cases h; exact ⟨rfl, fun _ _ _ => ⟨rfl, rfl⟩, fun _ _ no => absurd rfl no⟩
    case initEnd =>
      rcases execInitEnd_cases h with rfl | ⟨-, work⟩
      · exact ⟨rfl, fun _ no => absurd rfl no, fun _ _ _ _ => rfl⟩
      · exact ⟨work.pending, fun _ no => absurd rfl no, fun _ _ _ _ => by rw [work.hlp]; rfl⟩
    case memoryCellDisturbance beat flips => cases h; exact ⟨rfl, fun _ _ no => absurd rfl (no beat flips), fun _ _ _ _ => rfl⟩
    case hostRequestPacket p =>
      rcases execHostRequestPacket_cases h with ⟨-, rfl⟩ | ⟨-, work⟩
      · exact ⟨rfl, fun _ _ _ => ⟨rfl, rfl⟩, fun _ _ _ no => absurd rfl (no p)⟩
      · exact ⟨work.pending, fun _ _ _ => work.memoryKept, fun _ _ _ _ => by rw [work.hlp]⟩
    case arbiterGrant =>
      refine ⟨?_, fun no => absurd rfl no, fun no => absurd rfl no⟩
      rcases execArbiterGrant_cases h with rfl | ⟨-, -, k, p, -, outcome⟩
      · rfl
      · exact outcome.pending
    case hostGrantComplete =>
      rcases execHostGrantComplete_cases h with rfl | ⟨-, r, rfl⟩
      · exact ⟨rfl, fun _ _ _ => ⟨rfl, rfl⟩, fun _ _ _ _ => rfl⟩
      · exact ⟨rfl, fun _ _ _ => ⟨rfl, rfl⟩, fun _ no => absurd rfl no⟩

/-! ## Which commands complete -/

/-- A command answers a next state. -/
def Answers (o : Host.Outcome State Fault Refusal) : Prop := ∃ t : State, o = .next t

/-- A grant answers a next state, or stops outside frame memory (log 21). -/
def GrantAnswers (o : Host.Outcome State Fault Refusal) : Prop := Answers o ∨ o = .fault .accessOutsideMemory

theorem answers_next (t : State) : Answers (.next t) := ⟨t, rfl⟩

/-- Every command but the grant answers a next state when its term is one of the tables' (log 1, log 22). -/
theorem exec_answers {c : Instr} {s : State} (formed : c.wellFormed = true) (other : c ≠ .arbiterGrant) : Answers (exec c s) := by
  cases c
  case arbiterGrant => exact absurd rfl other
  case hostRequestPacket p =>
    have wf : p.wellFormed = true := formed
    simp only [exec, execHostRequestPacket, if_pos wf]
    split <;> exact answers_next _
  case unknownCameraPacket code =>
    have unknown : unknownTypeCode code = true := formed
    simp only [exec, execUnknownCameraPacket, if_pos unknown]
    exact answers_next _
  all_goals
    simp only [exec, execPowerOnReset, execInitEnd, execMemoryCellDisturbance, execHostGrantComplete, execEntryFetchComplete,
      execLayoutFetchGrantComplete, execValidationEnd, execResultWriteComplete, execStatusSectionWriteComplete, execWrstAssert,
      execDrainLimitExpiry, execWrstDeassert, execRefreshStart, execLineDue, execLineFetchGrantComplete, execDescriptorFetchComplete,
      execIdleTimerExpiry, execRevEdge, execRevPendingExpiry, execHoldTimerExpiry, execFirstFrameDeadlineExpiry, execLostTimerExpiry,
      execFrameStart, execLine, execFrameEnd, execCameraLineWriteComplete, execStaleTimerExpiry, execGuideListGrantComplete,
      execDistanceTimerExpiry, execClipDirectoryFetchComplete, execClipBlockFetchComplete, execTonePeriodWrap, execBlockBoundary,
      execAudioBlockFetchComplete, execPartTimeTick]
    repeat' split
    all_goals exact answers_next _

theorem grantRead_answers (p : Port) (kind : GrantKind) (r : Req) (granted : State → State) (s : State) :
    GrantAnswers (grantRead p kind r granted s) := by
  unfold grantRead
  split
  · exact .inl (answers_next _)
  · exact .inr rfl

theorem grantCapture_answers (r : Req) (s : State) : GrantAnswers (grantCapture r s) := by
  unfold grantCapture
  dsimp only
  split <;> split
  · exact .inl (answers_next _)
  · exact .inr rfl
  · exact .inl (answers_next _)
  · exact .inr rfl

theorem grantStatus_answers (s : State) : GrantAnswers (grantStatus s) := by
  unfold grantStatus
  split <;> exact .inl (answers_next _)

theorem grantHost_answers (p : HostRequest) (s : State) : GrantAnswers (grantHost p s) := by
  unfold grantHost
  split
  · exact .inl (answers_next _)
  · split
    · exact .inl (answers_next _)
    · exact .inr rfl

theorem withClaim_answers {c : Claim} {s : State} {f : Req → Host.Outcome State Fault Refusal} (h : ∀ r, GrantAnswers (f r)) :
    GrantAnswers (withClaim c s f) := by
  unfold withClaim
  split
  · exact h _
  · exact .inl (answers_next _)
  · exact .inl (answers_next _)

theorem grantTo_answers (p : Port) (s : State) : GrantAnswers (grantTo p s) := by
  unfold grantTo
  split
  · split
    · exact grantHost_answers _ _
    · exact .inl (answers_next _)
  · exact grantStatus_answers s
  case h_10 => exact withClaim_answers fun r => grantCapture_answers r s
  all_goals exact withClaim_answers fun r => grantRead_answers _ _ r _ s

theorem execArbiterGrant_answers (s : State) : GrantAnswers (execArbiterGrant s) := by
  unfold execArbiterGrant
  split
  · exact grantTo_answers _ _
  all_goals exact .inl (answers_next _)

/-- Settles O21: only the two packet commands ask for the form of their term, and only a grant can stop. -/
theorem commandsComplete : Obligations.CommandsComplete := by
  refine ⟨fun c s => exec_answers, execArbiterGrant_answers, fun c s bad => ?_⟩
  cases c <;> first | cases bad | skip
  case hostRequestPacket p =>
    have ill : ¬ p.wellFormed = true := Bool.eq_false_iff.mp bad
    exact ⟨_, if_neg ill⟩
  case unknownCameraPacket code =>
    have known : ¬ unknownTypeCode code = true := Bool.eq_false_iff.mp bad
    exact ⟨_, if_neg known⟩

end Sys2Proof.Machine
end

section
/-! SUPPORT. Beats of frame memory, said once: what a byte and a check state read after a disturbance, after the read of beats with its
write back, and after the write of beats with its merge (R14 to R16). -/

namespace Sys2Proof.Machine

/-! ## Bytes -/

theorem Fmc.wf_cells {f : Fmc} (wf : f.wf = true) : Memory.wf f.cells = true := by
  simp only [Fmc.wf, Bool.and_eq_true] at wf
  exact wf.1

theorem Fmc.wf_marks {f : Fmc} (wf : f.wf = true) : Marks.wf f.marks = true := by
  simp only [Fmc.wf, Bool.and_eq_true] at wf
  exact wf.2

theorem readBytes_getD (m : List Host.Cell) (a : Nat) {n i : Nat} (h : i < n) : (readBytes m a n).getD i 0 = readByte m (a + i) := by
  simp [readBytes, h]

theorem readBytes_congr {m m' : List Host.Cell} {a n : Nat} (h : ∀ i, i < n → readByte m' (a + i) = readByte m (a + i)) :
    readBytes m' a n = readBytes m a n :=
  List.map_congr_left fun i hi => h i (List.mem_range.mp hi)

/-- Bytes written are read back. -/
theorem readBytes_writeBytes {m : List Host.Cell} {a n : Nat} {bytes : List Byte} (wf : Memory.wf m = true) (len : bytes.length = n)
    (inside : a + n ≤ Config.memoryEnd) : readBytes (writeBytes m a bytes) a n = bytes := by
  refine List.ext_getElem (by simp [len]) fun i hi _ => ?_
  have hi : i < bytes.length := by simpa [len] using hi
  simp only [readBytes, List.getElem_map, List.getElem_range]
  rw [readByte_writeBytes_same wf (by omega) hi]
  simp [hi]

/-! ## Check states -/

theorem mark_setMark {f : Fmc} {a b : Nat} {c : CheckState} (wf : f.wf = true) :
    (f.setMark a c).mark b = if b / 16 = a / 16 then c else f.mark b := by
  have canonical := Fmc.wf_marks wf
  unfold Fmc.mark Fmc.setMark
  split
  · next same => rw [same]; exact lookupD_storeD_same canonical
  · next other => exact lookupD_storeD_other canonical other

theorem mark_setMark_same {f : Fmc} {a : Nat} {c : CheckState} (wf : f.wf = true) : (f.setMark a c).mark a = c := by
  rw [mark_setMark wf, if_pos rfl]

theorem mark_setMark_other {f : Fmc} {a b : Nat} {c : CheckState} (wf : f.wf = true) (other : b / 16 ≠ a / 16) :
    (f.setMark a c).mark b = f.mark b := by
  rw [mark_setMark wf, if_neg other]

@[simp] theorem setMark_cells (f : Fmc) (a : Nat) (c : CheckState) : (f.setMark a c).cells = f.cells := rfl

/-- The check state does not speak of the bytes. -/
@[simp] theorem mark_withCells (f : Fmc) (m : List Host.Cell) (a : Nat) : ({ f with cells := m } : Fmc).mark a = f.mark a := rfl

/-! ## A stretch of beats moved -/

/-- FMC after a stretch of n beats has moved: what each byte of it reads and each beat's check state; outside it nothing changes, and of FMC
nothing but the tables. -/
structure BeatsMoved (f f' : Fmc) (a n : Nat) (byte : Nat → Nat → Byte) (state : Nat → CheckState) : Prop where
  bytes : ∀ i, i < n → ∀ k, k < 16 → readByte f'.cells (a + 16 * i + k) = byte i k
  marks : ∀ i, i < n → f'.mark (a + 16 * i) = state i
  outside : ∀ b, b < a ∨ a + 16 * n ≤ b → readByte f'.cells b = readByte f.cells b ∧ f'.mark b = f.mark b
  wf : f'.wf = true
  rest : f' = { f with cells := f'.cells, marks := f'.marks }

theorem BeatsMoved.none {f : Fmc} {a : Nat} {byte : Nat → Nat → Byte} {state : Nat → CheckState} (wf : f.wf = true) :
    BeatsMoved f f a 0 byte state :=
  ⟨fun _ hi => absurd hi (Nat.not_lt_zero _), fun _ hi => absurd hi (Nat.not_lt_zero _), fun _ _ => ⟨rfl, rfl⟩, wf, rfl⟩

/-- A stretch moves beat by beat, lowest address first. -/
theorem BeatsMoved.cons {f f₁ f' : Fmc} {a n : Nat} {byte : Nat → Nat → Byte} {state : Nat → CheckState}
    (one : BeatsMoved f f₁ a 1 byte state)
    (more : BeatsMoved f₁ f' (a + 16) n (fun i => byte (i + 1)) (fun i => state (i + 1))) : BeatsMoved f f' a (n + 1) byte state := by
  have shift : ∀ i, a + 16 * (i + 1) = a + 16 + 16 * i := fun i => by omega
  refine ⟨fun i hi k hk => ?_, fun i hi => ?_, fun b hb => ?_, more.wf, ?_⟩
  · cases i with
    | zero => rw [(more.outside _ (by omega)).1]; exact one.bytes 0 (by omega) k hk
    | succ i => rw [shift]; exact more.bytes i (by omega) k hk
  · cases i with
    | zero => rw [(more.outside _ (by omega)).2]; exact one.marks 0 (by omega)
    | succ i => rw [shift]; exact more.marks i (by omega)
  · obtain ⟨byte', mark'⟩ := more.outside b (by omega)
    obtain ⟨byte₁, mark₁⟩ := one.outside b (by omega)
    exact ⟨byte'.trans byte₁, mark'.trans mark₁⟩
  · rw [more.rest, one.rest]

theorem BeatsMoved.congr {f f' : Fmc} {a n : Nat} {byte byte' : Nat → Nat → Byte} {state state' : Nat → CheckState}
    (h : BeatsMoved f f' a n byte state) (bytes : ∀ i, i < n → ∀ k, k < 16 → byte i k = byte' i k)
    (marks : ∀ i, i < n → state i = state' i) : BeatsMoved f f' a n byte' state' :=
  ⟨fun i hi k hk => (h.bytes i hi k hk).trans (bytes i hi k hk), fun i hi => (h.marks i hi).trans (marks i hi), h.outside, h.wf, h.rest⟩

/-! ## What a read delivers -/

/-- What the read of a beat delivers (R15): the stored bytes, corrected where the beat is CORRECTABLE. -/
def Fmc.delivers (f : Fmc) (a : Nat) : List Byte :=
  match f.mark a with
  | .clean => readBytes f.cells a 16
  | .correctable bit => flipBit (readBytes f.cells a 16) bit
  | .uncorrectable => readBytes f.cells a 16

theorem delivered_eq (s : State) (a : Nat) : delivered s a = s.fmc.delivers a := by
  unfold delivered Fmc.delivers
  rfl

@[simp] theorem Fmc.delivers_length (f : Fmc) (a : Nat) : (f.delivers a).length = 16 := by
  unfold Fmc.delivers
  split <;> simp

/-- What a read delivers is decided by the bytes and the check state of its beat. -/
theorem Fmc.delivers_congr {f f' : Fmc} {a : Nat} (bytes : ∀ k, k < 16 → readByte f'.cells (a + k) = readByte f.cells (a + k))
    (mark : f'.mark a = f.mark a) : f'.delivers a = f.delivers a := by
  unfold Fmc.delivers
  rw [mark, readBytes_congr bytes]

theorem Fmc.delivers_clean {f : Fmc} {a : Nat} (clean : f.mark a = .clean) : f.delivers a = readBytes f.cells a 16 := by
  simp [Fmc.delivers, clean]

/-- The check state that a read leaves: poison persists, all else is CLEAN (R15). -/
def CheckState.afterRead : CheckState → CheckState
  | .uncorrectable => .uncorrectable
  | .clean => .clean
  | .correctable _ => .clean

theorem CheckState.afterRead_eq (c : CheckState) : c.afterRead = if c = .uncorrectable then .uncorrectable else .clean := by
  cases c <;> rfl

/-- A beat with poison. -/
def CheckState.isPoisoned (c : CheckState) : Bool := decide (c = .uncorrectable)

/-- The places, in a stretch of n beats, of the beats that are read and whose check state passes a test, lowest first. -/
def Fmc.found (f : Fmc) (a n : Nat) (read : Nat → Bool) (test : CheckState → Bool) : List Nat :=
  (List.range n).filter fun j => read j && test (f.mark (a + 16 * j))

theorem beatsFound_eq (s : State) (a n : Nat) (read : Nat → Bool) (test : CheckState → Bool) :
    beatsFound s a n read test = s.fmc.found a n read test := rfl

/-- The places found, beat by beat. -/
theorem Fmc.found_succ {f f' : Fmc} {a n : Nat} {read : Nat → Bool} {test : CheckState → Bool}
    (same : ∀ b, a + 16 ≤ b → f'.mark b = f.mark b) :
    f.found a (n + 1) read test =
      (if read 0 && test (f.mark a) then [0] else []) ++ (f'.found (a + 16) n (fun j => read (j + 1)) test).map (· + 1) := by
  have shift : ∀ j, f'.mark (a + 16 + 16 * j) = f.mark (a + 16 * (j + 1)) := fun j => by
    rw [same _ (by omega)]; congr 1; omega
  simp only [Fmc.found, List.range_succ_eq_map, List.filter_cons, Nat.mul_zero, Nat.add_zero, List.filter_map, shift]
  split <;> rfl

/-- The addresses of the beats at these places. -/
def addressesOf (a : Nat) (places : List Nat) : List Nat := places.map fun j => a + 16 * j

theorem addressesOf_succ (a : Nat) (places : List Nat) : addressesOf a (places.map (· + 1)) = addressesOf (a + 16) places := by
  simp only [addressesOf, List.map_map]
  refine List.map_congr_left fun j _ => ?_
  simp only [Function.comp]
  omega

/-! ## Reads -/

/-- The read of a beat (R15): corrected data is written back and the beat is CLEAN; poison stays. -/
theorem readBeat_moved {f : Fmc} {a : Nat} (wf : f.wf = true) (aligned : a % 16 = 0) (inside : a + 16 ≤ Config.memoryEnd) :
    BeatsMoved f (f.readBeat a).fmc a 1 (fun _ k => (f.delivers a).getD k 0) (fun _ => (f.mark a).afterRead) := by
  have stays : (f.mark a).afterRead = f.mark a → (f.delivers a = readBytes f.cells a 16) →
      BeatsMoved f f a 1 (fun _ k => (f.delivers a).getD k 0) (fun _ => (f.mark a).afterRead) := fun mark bytes =>
    ⟨fun i hi k hk => by rw [bytes, readBytes_getD _ _ hk, show a + 16 * i = a by omega],
      fun i hi => by rw [mark, show a + 16 * i = a by omega], fun _ _ => ⟨rfl, rfl⟩, wf, rfl⟩
  have kept := readBeat_wf wf inside
  unfold Fmc.readBeat at kept ⊢
  dsimp only at kept ⊢
  split
  · next clean => exact stays (by rw [clean]; rfl) (Fmc.delivers_clean clean)
  · next bit marked =>
    simp only [marked] at kept
    have written := writeCells_wf (bytes := flipBit (readBytes f.cells a 16) bit) wf (by simpa using inside)
    have good : f.delivers a = flipBit (readBytes f.cells a 16) bit := by simp [Fmc.delivers, marked]
    refine ⟨fun i hi k hk => ?_, fun i hi => ?_, fun b hb => ⟨?_, ?_⟩, kept, rfl⟩
    · rw [show a + 16 * i = a by omega, good, setMark_cells]
      exact readByte_writeBytes_same (Fmc.wf_cells wf) (by simpa using inside) (by simpa using hk)
    · rw [show a + 16 * i = a by omega, marked]
      exact mark_setMark_same written
    · rw [setMark_cells]
      exact readByte_writeBytes_other (Fmc.wf_cells wf) (by simpa using inside) (by simpa using hb)
    · exact mark_setMark_other written (by omega)
  · next marked => exact stays (by rw [marked]; rfl) (by simp [Fmc.delivers, marked])

/-- What the read of a beat answers (R15). -/
theorem readBeat_answers (f : Fmc) (a : Nat) :
    (f.readBeat a).beats = [⟨f.delivers a, (f.mark a).isPoisoned⟩] ∧
    (f.readBeat a).corrected = (if (f.mark a).isCorrectable then [a] else []) ∧
    (f.readBeat a).poisoned = (if (f.mark a).isPoisoned then [a] else []) := by
  unfold Fmc.readBeat Fmc.delivers
  dsimp only
  split
  · next marked => rw [marked]; exact ⟨rfl, rfl, rfl⟩
  · next marked => rw [marked]; exact ⟨rfl, rfl, rfl⟩
  · next marked => rw [marked]; exact ⟨rfl, rfl, rfl⟩

/-- The read of a stretch of beats (R15). -/
theorem readBeats_moved {f : Fmc} {a n : Nat} (wf : f.wf = true) (aligned : a % 16 = 0) (inside : a + 16 * n ≤ Config.memoryEnd) :
    BeatsMoved f (f.readBeats a n).fmc a n (fun i k => (f.delivers (a + 16 * i)).getD k 0)
      (fun i => (f.mark (a + 16 * i)).afterRead) := by
  induction n generalizing f a with
  | zero => exact .none wf
  | succ n ih =>
    have one := readBeat_moved wf aligned (by omega)
    have shift : ∀ i, a + 16 * (i + 1) = a + 16 + 16 * i := fun i => by omega
    refine .cons (one.congr (fun i hi _ _ => ?_) (fun i hi => ?_))
      ((ih one.wf (by omega) (by omega)).congr (fun i hi k hk => ?_) (fun i hi => ?_))
    · rw [show a + 16 * i = a by omega]
    · rw [show a + 16 * i = a by omega]
    · rw [shift, Fmc.delivers_congr (fun k hk => (one.outside _ (by omega)).1) (one.outside _ (by omega)).2]
    · rw [shift, (one.outside _ (by omega)).2]

/-- What the read of a stretch of beats answers (R15). -/
theorem readBeats_answers {f : Fmc} {a n : Nat} (wf : f.wf = true) (aligned : a % 16 = 0) (inside : a + 16 * n ≤ Config.memoryEnd) :
    (f.readBeats a n).beats = (List.range n).map (fun i => ⟨f.delivers (a + 16 * i), (f.mark (a + 16 * i)).isPoisoned⟩) ∧
    (f.readBeats a n).corrected = addressesOf a (f.found a n (fun _ => true) CheckState.isCorrectable) ∧
    (f.readBeats a n).poisoned = addressesOf a (f.found a n (fun _ => true) CheckState.isPoisoned) := by
  induction n generalizing f a with
  | zero => exact ⟨rfl, rfl, rfl⟩
  | succ n ih =>
    have one := readBeat_moved wf aligned (by omega)
    have same : ∀ b, a + 16 ≤ b → (f.readBeat a).fmc.mark b = f.mark b := fun b hb => (one.outside b (by omega)).2
    obtain ⟨beats₁, corrected₁, poisoned₁⟩ := readBeat_answers f a
    obtain ⟨beats, corrected, poisoned⟩ := ih one.wf (a := a + 16) (by omega) (by omega)
    have shift : ∀ i, a + 16 * (i + 1) = a + 16 + 16 * i := fun i => by omega
    refine ⟨?_, ?_, ?_⟩
    · simp only [Fmc.readBeats, beats₁, beats, List.range_succ_eq_map, List.map_cons, List.map_map, Nat.mul_zero, Nat.add_zero,
        List.singleton_append]
      refine congrArg _ (List.map_congr_left fun i _ => ?_)
      simp only [Function.comp, shift]
      rw [same _ (by omega), Fmc.delivers_congr (fun k hk => (one.outside _ (by omega)).1) (same _ (by omega))]
    · simp only [Fmc.readBeats, corrected₁, corrected, Fmc.found_succ same, Bool.true_and, addressesOf, List.map_append]
      congr 1
      · split <;> rfl
      · exact (addressesOf_succ a _).symm
    · simp only [Fmc.readBeats, poisoned₁, poisoned, Fmc.found_succ same, Bool.true_and, addressesOf, List.map_append]
      congr 1
      · split <;> rfl
      · exact (addressesOf_succ a _).symm

/-! ## Writes -/

/-- A write of a beat that enables some bytes and not all (R16). -/
def isPartial (mask : BitVec 16) : Bool := decide (mask ≠ 0) && decide (mask ≠ fullMask)

/-- What a byte reads after the write of its beat: the new byte where it is enabled, the stored one under an empty mask, and otherwise
what the read of the beat delivers (R6, R16). -/
def writtenByte (f : Fmc) (a : Nat) (mask : BitVec 16) (bytes : List Byte) (k : Nat) : Byte :=
  if mask.getLsbD k then bytes.getD k 0 else if mask = 0 then readByte f.cells (a + k) else (f.delivers a).getD k 0

/-- The check state after the write of a beat: an empty mask touches nothing, and poison survives a merge (R14, R16). -/
def CheckState.afterWrite (mask : BitVec 16) (c : CheckState) : CheckState :=
  if mask = 0 then c else if mask = fullMask then .clean else c.afterRead

theorem fullMask_getLsbD {k : Nat} (hk : k < 16) : fullMask.getLsbD k = true := by
  have : fullMask = BitVec.allOnes 16 := by decide
  rw [this, BitVec.getLsbD_allOnes]
  exact decide_eq_true hk

theorem mergeBytes_getD (mask : BitVec 16) (old new : List Byte) {k : Nat} (hk : k < 16) :
    (mergeBytes mask old new).getD k 0 = if mask.getLsbD k then new.getD k 0 else old.getD k 0 := by
  simp [mergeBytes, hk]

/-- Bytes written over a beat that has just been read (R16). -/
theorem BeatsMoved.merged {f g : Fmc} {a : Nat} {byte : Nat → Nat → Byte} {state : Nat → CheckState} {new : List Byte}
    (read : BeatsMoved f g a 1 byte state) (inside : a + 16 ≤ Config.memoryEnd) (len : new.length = 16) :
    BeatsMoved f { g with cells := writeBytes g.cells a new } a 1 (fun _ k => new.getD k 0) state := by
  refine ⟨fun i hi k hk => ?_, read.marks, fun b hb => ⟨?_, (read.outside b hb).2⟩, writeCells_wf read.wf (by omega), ?_⟩
  · rw [show a + 16 * i = a by omega]
    exact readByte_writeBytes_same (Fmc.wf_cells read.wf) (by omega) (by omega)
  · rw [← (read.outside b hb).1]
    exact readByte_writeBytes_other (Fmc.wf_cells read.wf) (by omega) (by omega)
  · dsimp only
    rw [read.rest]

/-- The write of a beat by its mask (R6, R14, R16). -/
theorem writeBeat_moved {f : Fmc} {a : Nat} {mask : BitVec 16} {bytes : List Byte} (wf : f.wf = true) (aligned : a % 16 = 0)
    (inside : a + 16 ≤ Config.memoryEnd) (len : bytes.length = 16) :
    BeatsMoved f (f.writeBeat a mask bytes).fmc a 1 (fun _ => writtenByte f a mask bytes) (fun _ => (f.mark a).afterWrite mask) := by
  have kept := writeBeat_wf (mask := mask) (bytes := bytes) wf inside
  unfold Fmc.writeBeat at kept ⊢
  dsimp only at kept ⊢
  split
  · next empty =>
    refine ⟨fun i hi k hk => ?_, fun i hi => ?_, fun _ _ => ⟨rfl, rfl⟩, wf, rfl⟩
    · simp [writtenByte, empty, show a + 16 * i = a by omega]
    · simp [CheckState.afterWrite, empty, show a + 16 * i = a by omega]
  · next enabled =>
    split
    · next full =>
      simp only [if_neg enabled, if_pos full] at kept
      have taken : bytes.take 16 = bytes := List.take_of_length_le (by omega)
      have written := writeCells_wf (a := a) (bytes := bytes) wf (by omega)
      rw [taken] at kept ⊢
      refine ⟨fun i hi k hk => ?_, fun i hi => ?_, fun b hb => ⟨?_, ?_⟩, kept, rfl⟩
      · rw [show a + 16 * i = a by omega, setMark_cells, writtenByte, full, if_pos (fullMask_getLsbD hk)]
        exact readByte_writeBytes_same (Fmc.wf_cells wf) (by omega) (by omega)
      · rw [show a + 16 * i = a by omega, CheckState.afterWrite, if_neg enabled, if_pos full]
        exact mark_setMark_same written
      · rw [setMark_cells]
        exact readByte_writeBytes_other (Fmc.wf_cells wf) (by omega) (by omega)
      · exact mark_setMark_other written (by omega)
    · next part =>
      have old : ((f.readBeat a).beats.map ReadBeat.bytes).flatten = f.delivers a := by simp [(readBeat_answers f a).1]
      rw [old]
      refine ((readBeat_moved wf aligned inside).merged inside (mergeBytes_length mask (f.delivers a) bytes)).congr
        (fun _ _ k hk => ?_) (fun _ _ => ?_)
      · rw [mergeBytes_getD _ _ _ hk, writtenByte, if_neg enabled]
      · rw [CheckState.afterWrite, if_neg enabled, if_neg part]

/-- What the write of a beat answers: the read of a merge is corrected or poisoned (R16). -/
theorem writeBeat_answers (f : Fmc) (a : Nat) (mask : BitVec 16) (bytes : List Byte) :
    (f.writeBeat a mask bytes).corrected = (if isPartial mask && (f.mark a).isCorrectable then [a] else []) ∧
    (f.writeBeat a mask bytes).poisoned = (if isPartial mask && (f.mark a).isPoisoned then [a] else []) := by
  obtain ⟨-, corrected, poisoned⟩ := readBeat_answers f a
  unfold Fmc.writeBeat
  split
  · next empty => rw [empty]; exact ⟨rfl, rfl⟩
  · next enabled =>
    split
    · next full => rw [full]; exact ⟨rfl, rfl⟩
    · next part =>
      have merges : isPartial mask = true := by
        simp only [isPartial, Bool.and_eq_true, decide_eq_true_eq]
        exact ⟨enabled, part⟩
      rw [merges, Bool.true_and, Bool.true_and]
      exact ⟨corrected, poisoned⟩

/-- The mask of an element of a WRITE at a place, empty beyond its end. -/
def maskAt (beats : List (BitVec 16 × List Byte)) (i : Nat) : BitVec 16 := (beats.getD i (0, [])).1

/-- The bytes of an element of a WRITE at a place. -/
def bytesAt (beats : List (BitVec 16 × List Byte)) (i : Nat) : List Byte := (beats.getD i (0, [])).2

/-- The write of a stretch of beats (R6, R14, R16). -/
theorem writeBeats_moved {f : Fmc} {a : Nat} {beats : List (BitVec 16 × List Byte)} (wf : f.wf = true) (aligned : a % 16 = 0)
    (inside : a + 16 * beats.length ≤ Config.memoryEnd) (len : ∀ e ∈ beats, e.2.length = 16) :
    BeatsMoved f (f.writeBeats a beats).fmc a beats.length
      (fun i => writtenByte f (a + 16 * i) (maskAt beats i) (bytesAt beats i))
      (fun i => (f.mark (a + 16 * i)).afterWrite (maskAt beats i)) := by
  induction beats generalizing f a with
  | nil => exact .none wf
  | cons e beats ih =>
    simp only [List.length_cons] at inside
    have one := writeBeat_moved (mask := e.1) wf aligned (by omega) (len e (List.mem_cons_self ..))
    have shift : ∀ i, a + 16 * (i + 1) = a + 16 + 16 * i := fun i => by omega
    refine .cons (one.congr (fun i hi _ _ => ?_) (fun i hi => ?_))
      ((ih one.wf (by omega) (by omega) fun d hd => len d (List.mem_cons_of_mem _ hd)).congr (fun i hi k hk => ?_) (fun i hi => ?_))
    · obtain rfl : i = 0 := by omega
      rfl
    · obtain rfl : i = 0 := by omega
      rfl
    · have same := Fmc.delivers_congr (fun k hk => (one.outside (a + 16 + 16 * i + k) (by omega)).1)
        (one.outside (a + 16 + 16 * i) (by omega)).2
      simp only [writtenByte, shift, same, (one.outside (a + 16 + 16 * i + k) (by omega)).1]
      rfl
    · rw [shift, (one.outside _ (by omega)).2]
      rfl

/-- What the write of a stretch of beats answers (R16). -/
theorem writeBeats_answers {f : Fmc} {a : Nat} {beats : List (BitVec 16 × List Byte)} (wf : f.wf = true) (aligned : a % 16 = 0)
    (inside : a + 16 * beats.length ≤ Config.memoryEnd) (len : ∀ e ∈ beats, e.2.length = 16) :
    (f.writeBeats a beats).beats = [] ∧
    (f.writeBeats a beats).corrected =
      addressesOf a (f.found a beats.length (fun i => isPartial (maskAt beats i)) CheckState.isCorrectable) ∧
    (f.writeBeats a beats).poisoned =
      addressesOf a (f.found a beats.length (fun i => isPartial (maskAt beats i)) CheckState.isPoisoned) := by
  induction beats generalizing f a with
  | nil => exact ⟨rfl, rfl, rfl⟩
  | cons e beats ih =>
    simp only [List.length_cons] at inside
    have one := writeBeat_moved (mask := e.1) wf aligned (by omega) (len e (List.mem_cons_self ..))
    have same : ∀ b, a + 16 ≤ b → (f.writeBeat a e.1 e.2).fmc.mark b = f.mark b := fun b hb => (one.outside b (by omega)).2
    obtain ⟨corrected₁, poisoned₁⟩ := writeBeat_answers f a e.1 e.2
    obtain ⟨-, corrected, poisoned⟩ := ih one.wf (a := a + 16) (by omega) (by omega) fun d hd => len d (List.mem_cons_of_mem _ hd)
    refine ⟨rfl, ?_, ?_⟩
    · simp only [Fmc.writeBeats, corrected₁, corrected, List.length_cons, Fmc.found_succ same, addressesOf, List.map_append]
      congr 1
      · simp only [maskAt, List.getD_cons_zero]
        split <;> rfl
      · exact (addressesOf_succ a _).symm
    · simp only [Fmc.writeBeats, poisoned₁, poisoned, List.length_cons, Fmc.found_succ same, addressesOf, List.map_append]
      congr 1
      · simp only [maskAt, List.getD_cons_zero]
        split <;> rfl
      · exact (addressesOf_succ a _).symm

/-! ## Moves do not read the grant in progress or the rotation -/

theorem readBeat_congr {f g : Fmc} (cells : g.cells = f.cells) (marks : g.marks = f.marks) (a : Nat) :
    g.readBeat a = { f.readBeat a with
      fmc := { g with cells := (f.readBeat a).fmc.cells, marks := (f.readBeat a).fmc.marks } } := by
  obtain ⟨c, m, busy, r1, r2, r3, r4⟩ := f
  obtain ⟨c', m', busy', r1', r2', r3', r4'⟩ := g
  cases cells
  cases marks
  unfold Fmc.readBeat Fmc.mark
  dsimp only
  split <;> rfl

/-- A read answers and leaves the same in any state of FMC with the same tables. -/
theorem readBeats_congr {f g : Fmc} (cells : g.cells = f.cells) (marks : g.marks = f.marks) (a n : Nat) :
    g.readBeats a n = { f.readBeats a n with
      fmc := { g with cells := (f.readBeats a n).fmc.cells, marks := (f.readBeats a n).fmc.marks } } := by
  induction n generalizing f g a with
  | zero => simp [Fmc.readBeats, ← cells, ← marks]
  | succ n ih =>
    simp only [Fmc.readBeats, readBeat_congr cells marks a]
    rw [ih (f := (f.readBeat a).fmc) (g := { g with cells := (f.readBeat a).fmc.cells, marks := (f.readBeat a).fmc.marks }) rfl rfl]

end Sys2Proof.Machine
end

section
/-! SUPPORT. Frames by block: how they compose, and what a report leaves alone. Then the statements of the host link, the disturbance, the
arbiter's choice and the read grants. -/

namespace Sys2Proof.Machine

/-! ## Frames -/

theorem ChangesOnly.refl (blocks : List Block) (s : State) : ChangesOnly blocks s s := fun b _ => by cases b <;> rfl

theorem ChangesOnly.mono {blocks more : List Block} {s t : State} (h : ChangesOnly blocks s t) (sub : blocks ⊆ more) :
    ChangesOnly more s t := fun b hb => h b fun hm => hb (sub hm)

theorem ChangesOnly.trans {blocks : List Block} {s t u : State} (h : ChangesOnly blocks s t) (k : ChangesOnly blocks t u) :
    ChangesOnly blocks s u := fun b hb => by
  have first := h b hb
  have second := k b hb
  cases b <;> exact Eq.trans second first

theorem changesOnly_withFmc (s : State) (f : Fmc) : ChangesOnly [.fmc] s { s with fmc := f } := fun b hb => by
  cases b <;> first | rfl | exact absurd (List.mem_singleton.mpr rfl) hb

/-- A report changes the fault unit and what a SAFE action reaches (R164, R168). -/
theorem report_changesOnly (r : Report) (s : State) : ChangesOnly [.stw, .flt, .fsq, .chu] s (report r s) := fun b hb => by
  cases b <;> first | (exfalso; revert hb; decide) | simp [Block.kept]

theorem reportMemory_changesOnly {blocks : List Block} {each : FaultKind → Nat → Nat → State → State}
    (h : ∀ k l n u, ChangesOnly blocks u (each k l n u)) (corrected poisoned : List Nat) (s : State) :
    ChangesOnly blocks s (reportMemory corrected poisoned each s) := by
  unfold reportMemory
  dsimp only
  split <;> split
  · exact .refl _ s
  · exact h _ _ _ _
  · exact h _ _ _ _
  · exact (h _ _ _ _).trans (h _ _ _ _)

theorem reportMemoryFor_changesOnly (port : Port) (m : Moved) (s : State) :
    ChangesOnly [.stw, .flt, .fsq, .chu] s (reportMemoryFor port m s) :=
  reportMemory_changesOnly (fun _ _ _ u => report_changesOnly _ u) _ _ s

theorem ReportsBeside.of_changesOnly {blocks : List Block} {s t : State} (h : ChangesOnly blocks s t) : ReportsBeside blocks s t :=
  h.mono (List.subset_append_left _ _)

theorem ReportsBeside.trans {blocks : List Block} {s t u : State} (h : ReportsBeside blocks s t) (k : ReportsBeside blocks t u) :
    ReportsBeside blocks s u := ChangesOnly.trans h k

theorem ReportsBeside.mono {blocks more : List Block} {s t : State} (h : ReportsBeside blocks s t) (sub : blocks ⊆ more) :
    ReportsBeside more s t := ChangesOnly.mono h (List.append_subset.mpr
      ⟨fun _ hb => List.mem_append_left _ (sub hb), List.subset_append_right _ _⟩)

/-- Reports beside any blocks. -/
theorem ReportsBeside.of_reports {blocks : List Block} {s t : State} (h : ChangesOnly [.stw, .flt, .fsq, .chu] s t) :
    ReportsBeside blocks s t := h.mono (List.subset_append_right _ _)

/-! ## The host link (R1, R2, 11.1) -/

/-- Settles O20: a packet with a credit joins the queue, one without is reported, and the response of a completed grant is the head's. -/
theorem hostLinkTakesAndAnswers : Obligations.HostLinkTakesAndAnswers := by
  refine ⟨fun p s formed credit => ?_, fun p s formed spent => ?_, fun p => ⟨fun h => ?_, fun h => ?_⟩, fun r beats s busy => ?_⟩
  · simp [exec, execHostRequestPacket, formed, credit]
  · refine ⟨reportHost .hostRequestInvalid .hostLink .noCredit p s, ?_, by simp, rfl⟩
    simp [exec, execHostRequestPacket, formed, spent]
  · simp only [HostRequest.direction, h, if_true]
  · simp only [HostRequest.direction, h, Bool.false_eq_true, if_false]
  · refine ⟨sendResponse r (freeFmc s), ?_, rfl, ?_⟩
    · simp only [exec, execHostGrantComplete, busy]
    · rw [sendResponse_linkBytes]
      unfold Response.bytes HostOutcome.code
      cases r.outcome <;> rfl

/-! ## The disturbance of a cell (section 1.8, R15) -/

/-- One bit set is the lowest, and no other is set. -/
theorem getLsbD_of_bitCount_one {b : Beat} (one : bitCount b = 1) {i : Nat} (hi : i < 128) :
    b.getLsbD i = decide (i = lowestBit b) := by
  obtain ⟨n, only⟩ := List.length_eq_one_iff.mp one
  have lowest : lowestBit b = n := by simp [lowestBit, only]
  have mem : ∀ j, j ∈ (List.range 128).filter (fun i => b.getLsbD i) ↔ j = n := fun j => by rw [only, List.mem_singleton]
  simp only [List.mem_filter, List.mem_range] at mem
  rw [lowest]
  exact Bool.eq_iff_iff.mpr ⟨fun h => decide_eq_true ((mem i).mp ⟨hi, h⟩), fun h => ((mem i).mpr (of_decide_eq_true h)).2⟩

/-- The byte of a one-bit pattern that holds the bit. -/
theorem beatBytes_of_bitCount_one {b : Beat} (one : bitCount b = 1) {i : Nat} (hi : i < 16) :
    b.extractLsb' (8 * i) 8 = if i = lowestBit b / 8 then 1#8 <<< (lowestBit b % 8) else 0#8 := by
  refine BitVec.eq_of_getLsbD_eq fun j hj => ?_
  rw [BitVec.getLsbD_extractLsb', getLsbD_of_bitCount_one one (by omega), decide_eq_true hj, Bool.true_and]
  split
  · next same =>
    simp only [BitVec.getLsbD_shiftLeft, BitVec.getLsbD_one, hj, decide_true, Bool.true_and]
    refine Bool.eq_iff_iff.mpr ?_
    simp only [decide_eq_true_eq, Bool.and_eq_true, Bool.not_eq_true', decide_eq_false_iff_not]
    omega
  · next other =>
    simp only [BitVec.getLsbD_zero, decide_eq_false_iff_not]
    omega

/-- The one bit that a disturbance changed is the one that the correction changes back. -/
theorem flipBit_flipBits {bytes : List Byte} {flips : Beat} (len : bytes.length = 16) (one : bitCount flips = 1) :
    flipBit (flipBits bytes flips) (lowestBit flips) = bytes := by
  refine List.ext_getElem (by simp [len]) fun i hi hi' => ?_
  have byte := beatBytes_of_bitCount_one one (i := i) (by omega)
  simp only [flipBit, flipBits, List.getElem_modify, List.getElem_zipWith, beatBytes, List.getElem_map, List.getElem_range, byte]
  split
  · next same => rw [if_pos same.symm, BitVec.xor_assoc, BitVec.xor_self, BitVec.xor_zero]
  · next other => rw [if_neg (Ne.symm other)]; exact BitVec.xor_zero

/-- The cells of a beat with the bits of a pattern changed. -/
def Fmc.flipped (f : Fmc) (a : Nat) (flips : Beat) : Fmc :=
  { f with cells := writeBytes f.cells a (flipBits (readBytes f.cells a 16) flips) }

theorem flipped_mark (f : Fmc) (a b : Nat) (flips : Beat) : (f.flipped a flips).mark b = f.mark b := mark_withCells f _ b

/-- A disturbance does nothing, or changes the bits with the beat's check state or without. -/
theorem disturb_cases (f : Fmc) (a : Nat) (flips : Beat) :
    f.disturb a flips = f ∨ f.disturb a flips = f.flipped a flips ∨ ∃ c, f.disturb a flips = (f.flipped a flips).setMark a c := by
  unfold Fmc.disturb Fmc.flipped
  dsimp only
  split
  · split
    · exact .inl rfl
    · split <;> exact .inr (.inr ⟨_, rfl⟩)
  · split
    · exact .inr (.inr ⟨_, rfl⟩)
    · exact .inl rfl
  · exact .inr (.inl rfl)

/-- A disturbance touches no byte and no check state outside its beat. -/
theorem disturb_outside {f : Fmc} {a b : Nat} {flips : Beat} (wf : f.wf = true) (aligned : a % 16 = 0) (inside : a + 16 ≤ Config.memoryEnd)
    (out : b < a ∨ a + 16 ≤ b) : readByte (f.disturb a flips).cells b = readByte f.cells b ∧ (f.disturb a flips).mark b = f.mark b := by
  have written : (f.flipped a flips).wf = true := writeCells_wf wf (by simpa using inside)
  have byte : readByte (f.flipped a flips).cells b = readByte f.cells b :=
    readByte_writeBytes_other (Fmc.wf_cells wf) (by simpa using inside) (by simpa using out)
  rcases disturb_cases f a flips with same | plain | ⟨c, marked⟩
  · rw [same]; exact ⟨rfl, rfl⟩
  · rw [plain]; exact ⟨byte, flipped_mark f a b flips⟩
  · rw [marked, setMark_cells, mark_setMark_other written (by omega)]
    exact ⟨byte, flipped_mark f a b flips⟩

/-- Settles O22: the bits changed decide the check state, and one changed bit is changed back by the next read. -/
theorem disturbanceMarksOneBeat : Obligations.DisturbanceMarksOneBeat := by
  refine ⟨fun beat flips s wf => ⟨_, rfl, ?_⟩, fun f a flips wf aligned inside clean one => ?_⟩
  · have aligned : 16 * beat.toNat % 16 = 0 := by omega
    have inside : 16 * beat.toNat + 16 ≤ Config.memoryEnd := by have := beat.isLt; simp only [Config.memoryEnd]; omega
    generalize 16 * beat.toNat = a at *
    have written := writeCells_wf (a := a) (bytes := flipBits (readBytes s.fmc.cells a 16) flips) wf (by simpa using inside)
    refine ⟨fun clean one => ?_, fun clean two => ?_, fun bit marked two => ?_, fun marked => ?_,
      fun b => disturb_outside wf aligned inside, changesOnly_withFmc s _⟩
    · simp only [Fmc.disturb, clean, one, if_true, if_neg (Nat.one_ne_zero)]
      exact mark_setMark_same written
    · simp only [Fmc.disturb, clean, if_neg (show bitCount flips ≠ 0 by omega), if_neg (show bitCount flips ≠ 1 by omega)]
      exact mark_setMark_same written
    · simp only [Fmc.disturb, marked, if_pos two]
      exact mark_setMark_same written
    · simp only [Fmc.disturb, marked, mark_withCells]
  · have written := writeCells_wf (a := a) (bytes := flipBits (readBytes f.cells a 16) flips) wf (by simpa using inside)
    have changed : f.disturb a flips =
        ({ f with cells := writeBytes f.cells a (flipBits (readBytes f.cells a 16) flips) } : Fmc).setMark a
          (.correctable (lowestBit flips)) := by simp [Fmc.disturb, clean, one]
    have marked : (f.disturb a flips).mark a = .correctable (lowestBit flips) := by rw [changed]; exact mark_setMark_same written
    have good : (f.disturb a flips).delivers a = readBytes f.cells a 16 := by
      simp only [Fmc.delivers, marked]
      rw [changed, setMark_cells, readBytes_writeBytes (Fmc.wf_cells wf) (by simp) inside, flipBit_flipBits (by simp) one]
    obtain ⟨beats, corrected, poisoned⟩ := readBeat_answers (f.disturb a flips) a
    have moved := readBeat_moved (disturb_wf (flips := flips) wf inside) aligned inside
    rw [good] at beats
    rw [marked] at beats corrected poisoned
    refine ⟨beats, corrected, poisoned, ?_, fun b => ?_⟩
    · have := moved.marks 0 (by omega)
      rw [marked] at this
      exact this
    · by_cases out : b < a ∨ a + 16 ≤ b
      · rw [(moved.outside b (by omega)).1, (disturb_outside wf aligned inside out).1]
      · have := moved.bytes 0 (by omega) (b - a) (by omega)
        rw [good, readBytes_getD _ _ (by omega), show a + 16 * 0 + (b - a) = b by omega, show a + (b - a) = b by omega] at this
        exact this

/-! ## The arbiter's choice (R17, R18) -/

theorem tier_bounds (s : State) (p : Port) : 1 ≤ tier s p ∧ tier s p ≤ 4 := by
  unfold tier
  repeat' split
  all_goals decide

theorem mem_portsAfter (position p : Port) : p ∈ portsAfter position := by cases position <;> cases p <;> decide

/-- The ports after a position stand in the order of their ring distance (R18). -/
theorem portsAfter_sorted (position : Port) :
    (portsAfter position).Pairwise fun p q => ringDistance position p ≤ ringDistance position q := by cases position <;> decide

/-- The first element of a sorted list that passes a test comes before every other that passes. -/
theorem find?_least {α : Type} {r : α → α → Prop} {test : α → Bool} {l : List α} {x : α} (sorted : l.Pairwise r) (refl : ∀ y, r y y)
    (h : l.find? test = some x) : ∀ y ∈ l, test y = true → r x y := by
  induction l with
  | nil => cases h
  | cons z l ih =>
    obtain ⟨first, rest⟩ := List.pairwise_cons.mp sorted
    intro y hy passes
    rw [List.find?_cons] at h
    split at h
    · cases h
      rcases List.mem_cons.mp hy with rfl | hy
      · exact refl _
      · exact first y hy
    · next fails =>
      rcases List.mem_cons.mp hy with rfl | hy
      · rw [passes] at fails; cases fails
      · exact ih rest h y hy passes

/-- The choice in a tier waits there, and no port of the tier that waits stands nearer after the rotation position (R18). -/
theorem chooseIn_some {s : State} {k : Nat} {p : Port} (h : chooseIn s k = some p) :
    waiting s p = true ∧ tier s p = k ∧
    ∀ q : Port, waiting s q = true → tier s q = k → ringDistance (s.fmc.rotation k) p ≤ ringDistance (s.fmc.rotation k) q := by
  have passes := List.find?_some h
  simp only [Bool.and_eq_true, beq_iff_eq] at passes
  refine ⟨passes.1, passes.2, fun q waits same => ?_⟩
  exact find?_least (portsAfter_sorted _) (fun _ => Nat.le_refl _) h q (mem_portsAfter _ q) (by simp [waits, same])

theorem chooseIn_none {s : State} {k : Nat} (h : chooseIn s k = none) (q : Port) (waits : waiting s q = true) : tier s q ≠ k := by
  have := List.find?_eq_none.mp h q (mem_portsAfter _ q)
  simpa [waits] using this

/-- Settles O23: the four tiers are searched in turn, each from its rotation position on. -/
theorem arbiterChoosesByTierAndRotation : Obligations.ArbiterChoosesByTierAndRotation := by
  have found : ∀ {s : State} {k j : Nat} {p r : Port}, chooseIn s j = some r → (∀ i, 1 ≤ i → i < j → chooseIn s i = none) →
      some (j, r) = some (k, p) →
      waiting s p = true ∧ tier s p = k ∧ (∀ q : Port, waiting s q = true → k ≤ tier s q) ∧
      ∀ q : Port, waiting s q = true → tier s q = k → ringDistance (s.fmc.rotation k) p ≤ ringDistance (s.fmc.rotation k) q := by
    intro s k j p r chosen higher same
    cases same
    obtain ⟨waits, inTier, first⟩ := chooseIn_some chosen
    refine ⟨waits, inTier, fun q hq => ?_, first⟩
    have lowest := (tier_bounds s q).1
    by_contra below
    exact chooseIn_none (higher (tier s q) lowest (by omega)) q hq rfl
  refine ⟨fun s k p h => ?_, fun s h q => ?_⟩
  · unfold choosePort at h
    split at h
    · next one => exact found one (by omega) h
    · next one two => exact found two (fun i _ _ => by rw [show i = 1 by omega]; exact one) h
    · next one two three =>
      refine found three (fun i _ _ => ?_) h
      obtain rfl | rfl : i = 1 ∨ i = 2 := by omega
      · exact one
      · exact two
    · next one two three four =>
      refine found four (fun i _ _ => ?_) h
      obtain rfl | rfl | rfl : i = 1 ∨ i = 2 ∨ i = 3 := by omega
      · exact one
      · exact two
      · exact three
    · cases h
  · unfold choosePort at h
    split at h
    all_goals cases h
    next one two three four =>
    refine Bool.eq_false_iff.mpr fun waits => ?_
    obtain ⟨low, high⟩ := tier_bounds s q
    have : tier s q = 1 ∨ tier s q = 2 ∨ tier s q = 3 ∨ tier s q = 4 := by omega
    rcases this with h1 | h2 | h3 | h4
    · exact chooseIn_none one q waits h1
    · exact chooseIn_none two q waits h2
    · exact chooseIn_none three q waits h3
    · exact chooseIn_none four q waits h4

/-! ## Read grants (R18, R19) -/

@[simp] theorem setRotation_cells (f : Fmc) (k : Nat) (p : Port) : (f.setRotation k p).cells = f.cells := (setRotation_keeps f k p).1

@[simp] theorem setRotation_marks (f : Fmc) (k : Nat) (p : Port) : (f.setRotation k p).marks = f.marks := (setRotation_keeps f k p).2.1

@[simp] theorem rotation_setRotation (f : Fmc) (k : Nat) (p : Port) : (f.setRotation k p).rotation k = p := by
  unfold Fmc.setRotation Fmc.rotation
  split <;> split <;> simp_all

theorem rotation_congr {f g : Fmc} (h1 : g.rot1 = f.rot1) (h2 : g.rot2 = f.rot2) (h3 : g.rot3 = f.rot3) (h4 : g.rot4 = f.rot4) (k : Nat) :
    g.rotation k = f.rotation k := by
  unfold Fmc.rotation
  split <;> assumption

/-- The arbiter grants to the port chosen, once its tier's rotation has turned (R18). -/
theorem exec_arbiterGrant_of_chosen {s : State} {k : Nat} {p : Port} (h : Chosen s k p) :
    exec .arbiterGrant s = grantTo p (turned k p s) := by
  simp only [exec, execArbiterGrant, h.running, h.free, h.choice]
  rfl

/-- Turning the rotation leaves every block but FMC. -/
theorem turned_changesOnly (k : Nat) (p : Port) (s : State) : ChangesOnly [.fmc] s (turned k p s) := changesOnly_withFmc s _

/-- The claim of a port that reads becomes granted. -/
def markGranted (p : Port) (s : State) : State := startGrant p s.fmc s

/-- A port with a reading claim is granted its request (R19). -/
theorem grantTo_read {s : State} {p : Port} {r : Req} (claim : readClaim s p = some r) :
    ∃ kind : GrantKind, kind.port = p ∧ grantTo p s = grantRead p kind r (markGranted p) s := by
  have waits : ∀ {c : Claim}, c.req = some r → c = .waiting r := fun {c} hc => by cases c <;> simp_all [Claim.req]
  cases p
  case host | stw | ccp => cases claim
  case chu =>
    refine ⟨s.chu.grantKind, ?_, ?_⟩
    · unfold Chu.grantKind
      repeat' split
      all_goals rfl
    · simp only [grantTo, withClaim, waits claim]
      rfl
  case denRl => exact ⟨.lineFetch .rl, rfl, by simp only [grantTo, grantScan, withClaim, waits claim]; rfl⟩
  case denRr => exact ⟨.lineFetch .rr, rfl, by simp only [grantTo, grantScan, withClaim, waits claim]; rfl⟩
  case denC => exact ⟨.lineFetch .c, rfl, by simp only [grantTo, grantScan, withClaim, waits claim]; rfl⟩
  case rqe => exact ⟨.entryFetch, rfl, by simp only [grantTo, withClaim, waits claim]; rfl⟩
  case lyu => exact ⟨.layoutFetch, rfl, by simp only [grantTo, withClaim, waits claim]; rfl⟩
  case mnu => exact ⟨.descriptorFetch, rfl, by simp only [grantTo, withClaim, waits claim]; rfl⟩
  case gdu => exact ⟨.guideList, rfl, by simp only [grantTo, withClaim, waits claim]; rfl⟩
  case aop => exact ⟨.audioBlock, rfl, by simp only [grantTo, withClaim, waits claim]; rfl⟩

/-- A claim granted changes its owner's block alone. -/
theorem markGranted_changesOnly (p : Port) (s : State) : ChangesOnly [p.block] s (markGranted p s) := fun b hb => by
  cases p <;> cases b <;> first | rfl | exact absurd (List.mem_singleton.mpr rfl) hb

/-- A grant that FMC makes changes FMC and what a report reaches (R15, R19). -/
theorem beginGrant_reportsBeside (port : Port) (kind : GrantKind) (m : Moved) (s : State) :
    ReportsBeside [.fmc] s (beginGrant port kind m s) := by
  unfold beginGrant
  exact (ReportsBeside.of_changesOnly (changesOnly_withFmc s _)).trans (.of_reports (reportMemoryFor_changesOnly _ _ _))

/-- Settles O24: the beats move at the grant, as a read of FMC's tables. -/
theorem readGrantMovesItsBeats : Obligations.ReadGrantMovesItsBeats := by
  intro s k p r chosen claim
  have claim' : readClaim (turned k p s) p = some r := by cases p <;> exact claim
  obtain ⟨kind, port, granted⟩ := grantTo_read claim'
  have reads := readBeats_congr (setRotation_cells s.fmc k p) (setRotation_marks s.fmc k p) r.address r.beats
  refine ⟨fun inside => ?_, fun outside => ?_⟩
  · refine ⟨beginGrant p kind ((turned k p s).fmc.readBeats r.address r.beats) (markGranted p (turned k p s)),
      ⟨kind, (s.fmc.readBeats r.address r.beats).beats⟩, ?_, ?_, port, rfl, ?_, ?_, ?_, ?_, fun clean => ?_, ?_⟩
    · rw [exec_arbiterGrant_of_chosen chosen, granted, grantRead, if_pos ((insideMemory_iff _ _).mpr inside)]
    · rw [beginGrant_fmc, show (turned k p s).fmc = s.fmc.setRotation k p from rfl, reads]
    · rw [beginGrant, (steady_reportMemoryFor _ _ _).granted p]
      cases p <;> first | rfl | cases claim
    · rw [beginGrant_fmc, show (turned k p s).fmc = s.fmc.setRotation k p from rfl, reads]
      exact (rotation_congr rfl rfl rfl rfl k).trans (rotation_setRotation s.fmc k p)
    · rw [beginGrant_fmc, show (turned k p s).fmc = s.fmc.setRotation k p from rfl, reads]
    · rw [beginGrant_fmc, show (turned k p s).fmc = s.fmc.setRotation k p from rfl, reads]
    · rw [readBeats_clean clean]
      refine ⟨rfl, ?_⟩
      unfold MemoryKept
      rw [beginGrant_fmc, show (turned k p s).fmc = s.fmc.setRotation k p from rfl, reads, readBeats_clean clean]
      exact ⟨rfl, rfl⟩
    · have blocks : ∀ {b : Block}, b ∈ [Block.fmc, p.block] → [b] ⊆ [Block.fmc, p.block] := fun hb => by simpa using hb
      refine (ReportsBeside.of_changesOnly ((turned_changesOnly k p s).mono (blocks (by simp)))).trans ?_
      refine (ReportsBeside.of_changesOnly ((markGranted_changesOnly p _).mono (blocks (by simp)))).trans ?_
      exact (beginGrant_reportsBeside p kind _ _).mono (blocks (by simp))
  · rw [exec_arbiterGrant_of_chosen chosen, granted, grantRead, if_neg]
    rw [insideMemory_iff]
    omega

end Sys2Proof.Machine
end

section
/-! SUPPORT. A host request at its grant: what its classification is, and what the reports of a grant make of the fault unit. Then the
requests that perform nothing. -/

namespace Sys2Proof.Machine

/-! ## What a report makes of the fault unit -/

section Reports

variable {s u : State}

/-- The action of a class on the fault unit alone (R168). -/
theorem takeAction_flt (a : FaultAction) (s : State) :
    (takeAction a s).flt =
      match a with
      | .quiet => s.flt
      | .signal => { s.flt with causes := causeJoin s.flt.causes .fault }
      | .safe => if s.flt.degraded then s.flt else { s.flt with causes := causeJoin s.flt.causes .fault, degraded := true } := by
  cases a with
  | quiet => rfl
  | signal => simp [takeAction]
  | safe =>
    simp only [takeAction]
    split <;> simp

theorem stamp_congr (lyu : u.lyu = s.lyu) : stamp u = stamp s := by
  unfold stamp now
  rw [lyu]

/-- What a report makes of the fault unit is decided by the fault unit, the layout and the time (R164 to R168). -/
theorem report_flt_congr (r : Report) (flt : u.flt = s.flt) (lyu : u.lyu = s.lyu) : (report r u).flt = (report r s).flt := by
  unfold report
  simp only [lyu, flt, stamp_congr lyu]
  split
  · exact flt
  · split
    · rfl
    · rw [takeAction_flt, takeAction_flt]
      rfl

theorem reportBeats_flt_congr (kind : FaultKind) (p : HostRequest) (places : List Nat) (flt : u.flt = s.flt) (lyu : u.lyu = s.lyu) :
    (reportBeats kind p places u).flt = (reportBeats kind p places s).flt := by
  cases places with
  | nil => exact flt
  | cons lowest rest => exact report_flt_congr _ flt lyu

@[simp] theorem reportBeats_lyu (kind : FaultKind) (p : HostRequest) (places : List Nat) :
    (reportBeats kind p places s).lyu = s.lyu := by
  cases places <;> simp [reportBeats]

theorem reportHostBeats_flt_congr (p : HostRequest) (corrected poisoned : List Nat) (flt : u.flt = s.flt) (lyu : u.lyu = s.lyu) :
    (reportHostBeats p corrected poisoned u).flt = (reportHostBeats p corrected poisoned s).flt :=
  reportBeats_flt_congr _ p _ (reportBeats_flt_congr _ p _ flt lyu) (by simp [lyu])

/-- FMC's reports of a host request's beats, by the places of the beats in the request (R21, R22). -/
theorem reportMemoryHost_eq {p : HostRequest} {target : Nat} {m : Moved} {corrected poisoned : List Nat}
    (fixed : m.corrected = addressesOf target corrected) (bad : m.poisoned = addressesOf target poisoned) (s : State) :
    reportMemoryHost p target m s = reportHostBeats p corrected poisoned s := by
  unfold reportMemoryHost reportMemory reportHostBeats
  rw [fixed, bad]
  cases corrected <;> cases poisoned <;> simp [addressesOf, reportBeats, reportHost, txnOf]

theorem reportBeats_changesOnly (kind : FaultKind) (p : HostRequest) (places : List Nat) (s : State) :
    ChangesOnly [.stw, .flt, .fsq, .chu] s (reportBeats kind p places s) := by
  cases places with
  | nil => exact .refl _ s
  | cons lowest rest => exact report_changesOnly _ s

theorem reportHostBeats_changesOnly (p : HostRequest) (corrected poisoned : List Nat) (s : State) :
    ChangesOnly [.stw, .flt, .fsq, .chu] s (reportHostBeats p corrected poisoned s) :=
  (reportBeats_changesOnly _ p _ s).trans (reportBeats_changesOnly _ p _ _)

end Reports

/-! ## The request's form (R5, 11.1) -/

/-- A request that passes the checks of R5: a whole number of beats, 1 to 16 of them, within a page below the end of memory. -/
theorem valid_bounds {p : HostRequest} (valid : requestFailure p = none) :
    requestBase p % 16 = 0 ∧ 1 ≤ p.beatCount.toNat ∧ p.beatCount.toNat ≤ 16 ∧
    requestBase p % 4096 + 16 * p.beatCount.toNat ≤ 4096 ∧ requestBase p < Config.memoryEnd := by
  have passes : ∀ {c : Prop} [Decidable c] {d : Detail} {o : Option Detail}, (if c then some d else o) = none → ¬ c ∧ o = none :=
    fun {c} _ {d o} h => by
      split at h
      · cases h
      · next fails => exact ⟨fails, h⟩
  simp only [requestFailure, Config.pageBytes] at valid
  obtain ⟨aligned, valid⟩ := passes valid
  obtain ⟨count, valid⟩ := passes valid
  obtain ⟨page, valid⟩ := passes valid
  obtain ⟨below, -⟩ := passes valid
  omega

theorem valid_inside {p : HostRequest} (valid : requestFailure p = none) : requestBase p + 16 * p.beatCount.toNat ≤ Config.memoryEnd := by
  obtain ⟨-, -, -, page, below⟩ := valid_bounds valid
  simp only [Config.memoryEnd] at below ⊢
  omega

/-- A request that begins below the anchor page ends below it. -/
theorem valid_belowAnchor {p : HostRequest} (valid : requestFailure p = none) (below : requestBase p < Config.anchorBase) :
    requestBase p + 16 * p.beatCount.toNat ≤ Config.anchorBase := by
  obtain ⟨-, -, -, page, -⟩ := valid_bounds valid
  simp only [Config.anchorBase] at below ⊢
  omega

theorem elements_of_write {p : HostRequest} (formed : p.wellFormed = true) (write : p.direction = .write) :
    p.elements.length = p.beatCount.toNat := by
  simp only [HostRequest.wellFormed, write, beq_iff_eq] at formed
  exact formed

theorem elements_of_read {p : HostRequest} (formed : p.wellFormed = true) (read : p.direction = .read) : p.elements = [] := by
  simp only [HostRequest.wellFormed, read, List.isEmpty_iff] at formed
  exact formed

/-- The greater of a request's two counts of beats is its beat count. -/
theorem beats_of_formed {p : HostRequest} (formed : p.wellFormed = true) :
    max p.beatCount.toNat p.elements.length = p.beatCount.toNat := by
  cases direction : p.direction with
  | write => rw [elements_of_write formed direction, Nat.max_self]
  | read => rw [elements_of_read formed direction, List.length_nil, Nat.max_zero]

/-! ## The grant to the host -/

/-- The state in which a request of the host is performed: the rotation of tier 3 has turned to the host. -/
def hostTurned (s : State) : State := turned 3 .host s

theorem hostTurned_changesOnly (s : State) : ChangesOnly [.fmc] s (hostTurned s) := turned_changesOnly 3 .host s

theorem exec_arbiterGrant_host {s : State} {p : HostRequest} {rest : List HostRequest} (chosen : Chosen s 3 .host)
    (head : s.hlp.queue = p :: rest) : exec .arbiterGrant s = grantHost p (hostTurned s) := by
  rw [exec_arbiterGrant_of_chosen chosen]
  have head' : (turned 3 .host s).hlp.queue = p :: rest := head
  simp only [grantTo, head']
  rfl

theorem hostTurned_busy {s : State} (free : s.fmc.busy = none) : (hostTurned s).fmc.busy = none := free

/-- The classification of a request does not read FMC. -/
theorem classify_hostTurned (p : HostRequest) (s : State) : classify p (hostTurned s) = classify p s := rfl

/-! ## Requests answered at their take (R2, R5, R8, R10) -/

/-- What a request answered at its take leaves: the response, the credit, the report, and memory as it was. -/
theorem exec_arbiterGrant_answers {s : State} {p : HostRequest} {rest : List HostRequest} {outcome : HostOutcome} {kind : FaultKind}
    {source : FaultSource} {detail : Detail} (chosen : Chosen s 3 .host) (head : s.hlp.queue = p :: rest)
    (take : classify p s = .answer outcome kind source detail) :
    ∃ t : State, exec .arbiterGrant s = .next t ∧
      t.hlp = { queue := rest, credits := s.hlp.credits + 1, sent := some ⟨p.tag, outcome, []⟩ } ∧
      t.flt = (report ⟨kind, source, detail, some (txnOf p)⟩ s).flt ∧
      MemoryKept s t ∧ t.fmc.busy = none ∧ ReportsBeside [.fmc, .hlp] s t := by
  refine ⟨answerTake p outcome kind source detail (hostTurned s), ?_, ?_, ?_, ?_, ?_, ?_⟩
  · rw [exec_arbiterGrant_host chosen head, grantHost, classify_hostTurned, take]
  · simp only [answerTake, sendResponse, reportHost_hlp]
    rw [show (hostTurned s).hlp = s.hlp from rfl, head]
    rfl
  · exact report_flt_congr _ rfl rfl
  · simp only [MemoryKept, answerTake, sendResponse, reportHost_fmc]
    exact ⟨rfl, rfl⟩
  · simp only [answerTake, sendResponse, reportHost_fmc]
    exact hostTurned_busy chosen.free
  · have turn : ChangesOnly [.fmc, .hlp] s (hostTurned s) := (hostTurned_changesOnly s).mono (by simp)
    have send : ∀ (r : Response) (u : State), ChangesOnly [.fmc, .hlp] u (sendResponse r u) := fun r u b hb => by
      cases b <;> first | rfl | exact absurd (by simp) hb
    exact ((ReportsBeside.of_changesOnly turn).trans (.of_reports (report_changesOnly _ _))).trans (.of_changesOnly (send _ _))

theorem classify_anchor {p : HostRequest} {s : State} (valid : requestFailure p = none) (anchor : Config.anchorBase ≤ requestBase p) :
    classify p s = takeAnchor p := by
  simp only [classify, valid, if_pos anchor]

theorem classify_alias {p : HostRequest} {s : State} {x : Channel} (valid : requestFailure p = none)
    (below : requestBase p < Config.anchorBase) (window : aliasChannel s.wdc.map (requestBase p) = some x) :
    classify p s = takeAlias x p s := by
  simp only [classify, valid, if_neg (Nat.not_le.mpr below), window]

theorem classify_plain {p : HostRequest} {s : State} (valid : requestFailure p = none)
    (below : requestBase p < Config.anchorBase) (window : aliasChannel s.wdc.map (requestBase p) = none) :
    classify p s = takePlain p s := by
  simp only [classify, valid, if_neg (Nat.not_le.mpr below), window]

/-- The report of a request to a window while FSQ names no fill slot (R8). -/
theorem refuseAlias_eq (x : Channel) (direction : Direction) (state : ChannelState) :
    refuseAlias x direction state =
      if direction = .read ∨ state = .idle then .answer .refused .writeRefused .hostLink .noFillSlot
      else .answer .refused .fillOverrun (channelSource x) (.channelState state) := by
  cases direction <;> cases state <;> rfl

/-- Settles O27: each of the three takes is classified as an answer, which performs nothing. -/
theorem invalidAndRefusedTakesPerformNothing : Obligations.InvalidAndRefusedTakesPerformNothing := by
  refine ⟨fun s p rest detail chosen head failure => ?_, fun s p rest region takes write into => ?_,
    fun s p rest x takes below window empty => ?_⟩
  · have fails : requestFailure p = some detail := failure.symm
    exact exec_arbiterGrant_answers chosen head (by simp only [classify, fails])
  · refine exec_arbiterGrant_answers takes.chosen takes.head ?_
    rcases into with ⟨below, plain, protects⟩ | ⟨anchor, touches, rfl⟩
    · rw [classify_plain takes.valid below plain]
      simp only [takePlain, write, protects]
      rfl
    · rw [classify_anchor takes.valid anchor]
      simp only [takeAnchor, write, touches]
      rfl
  · have take : classify p s = refuseAlias x p.direction (s.fsq.get x).state := by
      rw [classify_alias takes.valid below window]
      simp only [takeAlias, empty]
    rw [refuseAlias_eq] at take
    split at take
    · next idle =>
      rw [if_pos idle]
      exact exec_arbiterGrant_answers takes.chosen takes.head take
    · next filled =>
      rw [if_neg filled]
      exact exec_arbiterGrant_answers takes.chosen takes.head take

end Sys2Proof.Machine
end

section
/-! The host's reads and writes of beats at its own address or in a film slot (R6, R7, R14 to R16, R21, R22). -/

namespace Sys2Proof.Machine

/-! ## The rotation leaves the tables -/

@[simp] theorem setRotation_mark (f : Fmc) (k : Nat) (p : Port) (a : Nat) : (f.setRotation k p).mark a = f.mark a := by
  simp [Fmc.mark]

@[simp] theorem setRotation_delivers (f : Fmc) (k : Nat) (p : Port) (a : Nat) : (f.setRotation k p).delivers a = f.delivers a :=
  Fmc.delivers_congr (fun _ _ => by rw [setRotation_cells]) (setRotation_mark f k p a)

@[simp] theorem setRotation_found (f : Fmc) (k : Nat) (p : Port) (a n : Nat) (read : Nat → Bool) (test : CheckState → Bool) :
    (f.setRotation k p).found a n read test = f.found a n read test := by
  simp [Fmc.found]

/-! ## A request performed -/

/-- FMC when it moves a host request's beats: the rotation of tier 3 has turned. -/
def hostFmc (s : State) : Fmc := s.fmc.setRotation 3 .host

/-- What FMC moves for a host request. -/
def hostMove (p : HostRequest) (target : Nat) (s : State) : Moved := moveHost p target (hostFmc s)

/-- The state after a host request's beats have moved, before FMC reports on them. -/
def hostMoved (p : HostRequest) (target : Nat) (s : State) : State :=
  { hostTurned s with
    fmc := { (hostMove p target s).fmc with busy := some ⟨.hostTake (performedResponse p (hostMove p target s)), []⟩ } }

/-- A request performed: its beats move, FMC reports on them, and watched beats are handed on. -/
theorem exec_arbiterGrant_performs {s : State} {p : HostRequest} {rest : List HostRequest} {target : Nat} {window : Option Channel}
    {corrected poisoned : List Nat} (takes : HostTakes s p rest) (take : classify p s = .perform target window)
    (inside : target + 16 * p.beatCount.toNat ≤ Config.memoryEnd)
    (fixed : (hostMove p target s).corrected = addressesOf target corrected)
    (bad : (hostMove p target s).poisoned = addressesOf target poisoned) :
    exec .arbiterGrant s = .next (handOn window p (reportHostBeats p corrected poisoned (hostMoved p target s))) := by
  rw [exec_arbiterGrant_host takes.chosen takes.head, grantHost, classify_hostTurned, take]
  simp only [beats_of_formed takes.formed, (insideMemory_iff _ _).mpr inside, if_true, performTake]
  rw [reportMemoryHost_eq (m := moveHost p target (hostTurned s).fmc) fixed bad]
  rfl

section Performed

variable {s : State} {p : HostRequest} {target : Nat} {corrected poisoned : List Nat}

@[simp] theorem reportBeats_fmc (kind : FaultKind) (places : List Nat) : (reportBeats kind p places s).fmc = s.fmc := by
  cases places <;> simp [reportBeats]

@[simp] theorem reportBeats_hlp (kind : FaultKind) (places : List Nat) : (reportBeats kind p places s).hlp = s.hlp := by
  cases places <;> simp [reportBeats]

theorem reported_fmc : (reportHostBeats p corrected poisoned (hostMoved p target s)).fmc = (hostMoved p target s).fmc := by
  simp [reportHostBeats]

theorem reported_hlp : (reportHostBeats p corrected poisoned (hostMoved p target s)).hlp = s.hlp := by
  simp [reportHostBeats]
  rfl

theorem reported_flt :
    (reportHostBeats p corrected poisoned (hostMoved p target s)).flt = (reportHostBeats p corrected poisoned s).flt :=
  reportHostBeats_flt_congr p _ _ rfl rfl

theorem hostMoved_changesOnly : ChangesOnly [.fmc] s (hostMoved p target s) := changesOnly_withFmc s _

theorem reported_reportsBeside : ReportsBeside [.fmc] s (reportHostBeats p corrected poisoned (hostMoved p target s)) :=
  (ReportsBeside.of_changesOnly hostMoved_changesOnly).trans (.of_reports (reportHostBeats_changesOnly _ _ _ _))

theorem hostMoved_cells : (hostMoved p target s).fmc.cells = (hostMove p target s).fmc.cells := rfl

theorem hostMoved_mark (a : Nat) : (hostMoved p target s).fmc.mark a = (hostMove p target s).fmc.mark a := by
  unfold Fmc.mark
  rfl

/-- Moving beats leaves the rotation as the arbiter turned it. -/
theorem hostMoved_rot3 {n : Nat} {byte : Nat → Nat → Byte} {state : Nat → CheckState}
    (moved : BeatsMoved (hostFmc s) (hostMove p target s).fmc target n byte state) : (hostMoved p target s).fmc.rot3 = .host := by
  have rest := congrArg Fmc.rot3 moved.rest
  exact rest

/-- The outcome in the response: POISONED when a beat was (R21). -/
theorem performedResponse_eq {m : Moved} {data : List (List Byte)} (bad : m.poisoned = addressesOf target poisoned)
    (beats : m.beats.map ReadBeat.bytes = data) :
    performedResponse p m = ⟨p.tag, if poisoned = [] then .ok else .poisoned, data⟩ := by
  have clear : m.poisoned = [] ↔ poisoned = [] := by rw [bad, addressesOf, List.map_eq_nil_iff]
  simp only [performedResponse, beats, clear]

end Performed

/-! ## Reads -/

theorem hostMove_read {p : HostRequest} (read : p.direction = .read) (target : Nat) (s : State) :
    hostMove p target s = (hostFmc s).readBeats target p.beatCount.toNat := by
  unfold hostMove moveHost
  rw [read]

/-- Every region begins at a page, and so does every film slot. -/
theorem rowBase_mod (row : Option Region) : rowBase row % 4096 = 0 := by
  cases row with
  | none => rfl
  | some r => simp only [rowBase, pageAddress, Config.pageBytes]; omega

/-- The place of a window's request in the fill slot is aligned as its own address is. -/
theorem aliasTarget_aligned {x : Channel} {i : Fin 3} {m : RegionMap} {a : Nat} (aligned : a % 16 = 0) :
    (rowBase (filmRow x m) + 2052096 * i.val + (a - rowBase (fillRow x m))) % 16 = 0 := by
  have film := rowBase_mod (filmRow x m)
  have fill := rowBase_mod (fillRow x m)
  omega

/-- The window of a request's address, NONE in the anchor page. -/
def windowOf (s : State) (p : HostRequest) : Option Channel :=
  if Config.anchorBase ≤ requestBase p then none else aliasChannel s.wdc.map (requestBase p)

/-- Where a valid READ is performed, and that it lies within memory (R6, R7, R10). -/
theorem classify_read {s : State} {p : HostRequest} {target : Nat} (valid : requestFailure p = none) (read : p.direction = .read)
    (performed : PerformedAt s p target) :
    classify p s = .perform target (windowOf s p) ∧ target % 16 = 0 ∧ target + 16 * p.beatCount.toNat ≤ Config.memoryEnd := by
  have aligned := (valid_bounds valid).1
  rcases performed with ⟨own, rfl⟩ | ⟨x, i, below, window, slot, rfl, inside⟩
  · refine ⟨?_, aligned, valid_inside valid⟩
    by_cases anchor : Config.anchorBase ≤ requestBase p
    · rw [classify_anchor valid anchor, windowOf, if_pos anchor]
      simp only [takeAnchor, read]
    · have window : aliasChannel s.wdc.map (requestBase p) = none := own.resolve_left anchor
      rw [classify_plain valid (Nat.not_le.mp anchor) window, windowOf, if_neg anchor, window]
      simp only [takePlain, read]
  · refine ⟨?_, aliasTarget_aligned aligned, inside⟩
    rw [classify_alias valid below window, windowOf, if_neg (Nat.not_le.mpr below), window]
    simp only [takeAlias, slot]
    rfl

theorem handOn_read {p : HostRequest} (read : p.direction = .read) (window : Option Channel) (s : State) : handOn window p s = s := by
  unfold handOn
  rw [read]

/-- Settles O26: a read moves its beats as FMC's read does, and hands nothing on. -/
theorem readReturnsStoredBeats : Obligations.ReadReturnsStoredBeats := by
  refine ⟨fun s p rest target takes read performed clean => ?_,
    fun s p rest target corrected poisoned takes read performed safe fixed bad => ?_⟩
  · obtain ⟨take, -, inside⟩ := classify_read takes.valid read performed
    have clean' : ∀ i, i < p.beatCount.toNat → (hostFmc s).mark (target + 16 * i) = .clean := fun i hi => by
      rw [hostFmc, setRotation_mark]
      exact clean i hi
    have reads := (hostMove_read read target s).trans (readBeats_clean clean')
    have good : (hostMove p target s).poisoned = addressesOf target [] := by rw [reads]; rfl
    have runs := exec_arbiterGrant_performs takes take inside (corrected := []) (by rw [reads]; rfl) good
    rw [handOn_read read] at runs
    refine ⟨hostMoved p target s, runs, ?_, ?_, ?_, hostMoved_changesOnly⟩
    · have data : (hostMove p target s).beats.map ReadBeat.bytes =
          (List.range p.beatCount.toNat).map fun j => readBytes s.fmc.cells (target + 16 * j) 16 := by
        rw [reads]
        simp [hostFmc, Function.comp_def]
      simp only [hostMoved, performedResponse_eq good data]
      rfl
    · simp only [MemoryKept, hostMoved, reads]
      exact ⟨rfl, rfl⟩
    · simp only [hostMoved, reads]
      rfl
  · obtain ⟨take, aligned, inside⟩ := classify_read takes.valid read performed
    have wf : (hostFmc s).wf = true := setRotation_wf safe
    have moved := readBeats_moved wf aligned inside
    obtain ⟨beats, corrected', poisoned'⟩ := readBeats_answers wf aligned inside
    rw [← hostMove_read read] at moved beats corrected' poisoned'
    rw [hostFmc, setRotation_found] at corrected' poisoned'
    rw [beatsFound_eq] at fixed bad
    have bad' : (hostMove p target s).poisoned = addressesOf target poisoned := by rw [poisoned', bad]; rfl
    have runs := exec_arbiterGrant_performs takes take inside (corrected := corrected) (corrected'.trans (by rw [fixed])) bad'
    rw [handOn_read read] at runs
    refine ⟨_, runs, ?_, fun j i hj hi => ?_, fun j hj => ?_, fun a out => ?_, reported_flt, ?_, reported_hlp, reported_reportsBeside⟩
    · have data : (hostMove p target s).beats.map ReadBeat.bytes =
          (List.range p.beatCount.toNat).map fun j => delivered s (target + 16 * j) := by
        rw [beats]
        simp [hostFmc, delivered_eq, Function.comp_def]
      rw [reported_fmc]
      simp only [hostMoved, performedResponse_eq bad' data]
    · rw [reported_fmc, hostMoved_cells, moved.bytes j hj i hi, delivered_eq, hostFmc, setRotation_delivers]
    · rw [reported_fmc, hostMoved_mark, moved.marks j hj, hostFmc, setRotation_mark, CheckState.afterRead_eq]
    · rw [reported_fmc, hostMoved_mark, hostMoved_cells, (moved.outside a out).1, (moved.outside a out).2, hostFmc, setRotation_mark,
        setRotation_cells]
      exact ⟨rfl, rfl⟩
    · rw [reported_fmc]
      exact hostMoved_rot3 moved

/-! ## Writes -/

/-- The beats of a WRITE with their masks. -/
def hostBeats (p : HostRequest) : List (BitVec 16 × List Byte) := p.elements.map fun e => (e.mask, beatBytes e.data)

@[simp] theorem hostBeats_length (p : HostRequest) : (hostBeats p).length = p.elements.length := by simp [hostBeats]

theorem hostBeats_bytes_length (p : HostRequest) : ∀ e ∈ hostBeats p, e.2.length = 16 := by simp [hostBeats]

theorem maskAt_hostBeats {p : HostRequest} {j : Nat} {e : DataElement} (at_j : p.elements[j]? = some e) :
    maskAt (hostBeats p) j = e.mask := by
  simp [maskAt, hostBeats, at_j]

theorem bytesAt_hostBeats {p : HostRequest} {j : Nat} {e : DataElement} (at_j : p.elements[j]? = some e) :
    bytesAt (hostBeats p) j = beatBytes e.data := by
  simp [bytesAt, hostBeats, at_j]

/-- The elements that merge, by their places. -/
theorem partialAt_eq (p : HostRequest) : partialAt p = fun j => isPartial (maskAt (hostBeats p) j) := by
  funext j
  unfold partialAt
  split
  · next e at_j => rw [maskAt_hostBeats at_j]; rfl
  · next beyond => simp [maskAt, hostBeats, beyond, isPartial]

theorem hostMove_write {p : HostRequest} (write : p.direction = .write) (target : Nat) (s : State) :
    hostMove p target s = (hostFmc s).writeBeats target (hostBeats p) := by
  unfold hostMove moveHost
  rw [write]
  rfl

/-- The check state after the write of a beat: it stays under an empty mask and where a merge met poison (R14, R16). -/
theorem CheckState.afterWrite_eq (mask : BitVec 16) (c : CheckState) :
    c.afterWrite mask = if mask = 0 ∨ (mask ≠ fullMask ∧ c = .uncorrectable) then c else .clean := by
  unfold CheckState.afterWrite
  by_cases empty : mask = 0
  · rw [if_pos empty, if_pos (.inl empty)]
  · by_cases full : mask = fullMask
    · rw [if_neg empty, if_pos full, if_neg fun h => h.elim empty fun part => part.1 full]
    · have merges : (mask = 0 ∨ (mask ≠ fullMask ∧ c = .uncorrectable)) ↔ c = .uncorrectable :=
        ⟨fun h => (h.resolve_left empty).2, fun poison => .inr ⟨full, poison⟩⟩
      rw [if_neg empty, if_neg full, CheckState.afterRead_eq]
      simp only [merges]
      split
      · next poison => rw [poison]
      · rfl

section Writes

variable {s : State} {p : HostRequest} {target : Nat}

/-- The bytes and the check states that a WRITE leaves (R6, R14, R16). -/
theorem hostMove_writes (write : p.direction = .write) (safe : MemorySafe s) (aligned : target % 16 = 0)
    (inside : target + 16 * p.elements.length ≤ Config.memoryEnd) :
    BeatsMoved (hostFmc s) (hostMove p target s).fmc target p.elements.length
      (fun j => writtenByte s.fmc (target + 16 * j) (maskAt (hostBeats p) j) (bytesAt (hostBeats p) j))
      (fun j => (s.fmc.mark (target + 16 * j)).afterWrite (maskAt (hostBeats p) j)) := by
  have wf : (hostFmc s).wf = true := setRotation_wf safe
  have moved := writeBeats_moved wf aligned (by simpa using inside) (hostBeats_bytes_length p)
  rw [← hostMove_write write, hostBeats_length] at moved
  refine moved.congr (fun j _ k _ => ?_) (fun j _ => ?_)
  · simp only [writtenByte, hostFmc, setRotation_cells, setRotation_delivers]
  · rw [hostFmc, setRotation_mark]

/-- The beats that a WRITE's merges find marked, and that it reads nothing for the response (R16). -/
theorem hostMove_finds (write : p.direction = .write) (safe : MemorySafe s) (aligned : target % 16 = 0)
    (inside : target + 16 * p.elements.length ≤ Config.memoryEnd) :
    (hostMove p target s).beats = [] ∧
    (hostMove p target s).corrected = addressesOf target (beatsFound s target p.elements.length (partialAt p) CheckState.isCorrectable) ∧
    (hostMove p target s).poisoned =
      addressesOf target (beatsFound s target p.elements.length (partialAt p) fun c => decide (c = .uncorrectable)) := by
  have wf : (hostFmc s).wf = true := setRotation_wf safe
  obtain ⟨beats, corrected, poisoned⟩ := writeBeats_answers wf aligned (by simpa using inside) (hostBeats_bytes_length p)
  rw [← hostMove_write write] at beats corrected poisoned
  rw [hostBeats_length, hostFmc, setRotation_found, ← partialAt_eq] at corrected poisoned
  exact ⟨beats, corrected, poisoned⟩

/-- A WRITE whose merges meet no marked beat corrects and poisons nothing (R16). -/
theorem hostMove_calm (write : p.direction = .write) (safe : MemorySafe s) (aligned : target % 16 = 0)
    (inside : target + 16 * p.elements.length ≤ Config.memoryEnd)
    (unmarked : ∀ j, j < p.elements.length → partialAt p j = true → s.fmc.mark (target + 16 * j) = .clean) :
    (hostMove p target s).beats = [] ∧ (hostMove p target s).corrected = addressesOf target [] ∧
    (hostMove p target s).poisoned = addressesOf target [] := by
  obtain ⟨beats, corrected, poisoned⟩ := hostMove_finds write safe aligned inside
  have calm : ∀ (test : CheckState → Bool), test .clean = false → beatsFound s target p.elements.length (partialAt p) test = [] :=
    fun test clean => List.filter_eq_nil_iff.mpr fun j hj => by
      cases part : partialAt p j with
      | false => exact Bool.false_ne_true
      | true =>
        rw [unmarked j (List.mem_range.mp hj) part, clean]
        exact Bool.false_ne_true
  rw [calm _ rfl] at corrected
  rw [calm _ rfl] at poisoned
  exact ⟨beats, corrected, poisoned⟩

/-- Where every element is full or empty, no beat is merged. -/
theorem unmarked_of_full (full : ∀ e ∈ p.elements, e.mask = fullMask) :
    ∀ j, j < p.elements.length → partialAt p j = true → s.fmc.mark (target + 16 * j) = .clean := fun j hj part => by
  have whole := full p.elements[j] (List.getElem_mem hj)
  simp [partialAt, List.getElem?_eq_getElem hj, whole] at part

/-- A WRITE's response is POISONED when a merge met poison, and holds no data (R21). -/
theorem hostMoved_busy_write {poisoned : List Nat} (beats : (hostMove p target s).beats = [])
    (bad : (hostMove p target s).poisoned = addressesOf target poisoned) :
    (hostMoved p target s).fmc.busy = some ⟨.hostTake ⟨p.tag, if poisoned = [] then .ok else .poisoned, []⟩, []⟩ := by
  have data : (hostMove p target s).beats.map ReadBeat.bytes = [] := by rw [beats]; rfl
  simp only [hostMoved, performedResponse_eq bad data]

end Writes

/-! ## Watched beats below the anchor page -/

/-- The beats that a WRITE stores in full, by their places. -/
theorem mem_fullWrites {a : Nat} {elements : List DataElement} {w : Nat × List Byte} (h : w ∈ fullWrites a elements) :
    ∃ (j : Nat) (e : DataElement), elements[j]? = some e ∧ e.mask = fullMask ∧ w = (a + 16 * j, beatBytes e.data) := by
  induction elements generalizing a with
  | nil => cases h
  | cons e rest ih =>
    have later : w ∈ fullWrites (a + 16) rest →
        ∃ (j : Nat) (d : DataElement), (e :: rest)[j]? = some d ∧ d.mask = fullMask ∧ w = (a + 16 * j, beatBytes d.data) := fun hw => by
      obtain ⟨j, d, at_j, full, rfl⟩ := ih hw
      exact ⟨j + 1, d, by simpa using at_j, full, by rw [show a + 16 + 16 * j = a + 16 * (j + 1) by omega]⟩
    unfold fullWrites at h
    split at h
    · next full =>
      rcases List.mem_cons.mp h with rfl | hw
      · exact ⟨0, e, rfl, full, rfl⟩
      · exact later hw
    · exact later h

theorem takeWatched_below {s : State} {w : Nat × List Byte} (below : w.1 < Config.anchorBase) : takeWatched s w = s := by
  unfold takeWatched
  repeat rw [if_neg (by omega)]

theorem foldl_takeWatched_below {ws : List (Nat × List Byte)} (below : ∀ w ∈ ws, w.1 < Config.anchorBase) (s : State) :
    ws.foldl takeWatched s = s := by
  induction ws with
  | nil => rfl
  | cons w ws ih =>
    rw [List.foldl_cons, takeWatched_below (below w (List.mem_cons_self ..))]
    exact ih fun v hv => below v (List.mem_cons_of_mem _ hv)

/-- A WRITE below the anchor page holds no watched beat (R12). -/
theorem handOn_below {p : HostRequest} (formed : p.wellFormed = true) (valid : requestFailure p = none) (write : p.direction = .write)
    (below : requestBase p < Config.anchorBase) (s : State) : handOn none p s = s := by
  unfold handOn
  rw [write]
  refine foldl_takeWatched_below (fun w hw => ?_) s
  obtain ⟨j, e, at_j, -, rfl⟩ := mem_fullWrites hw
  obtain ⟨inList, -⟩ := List.getElem?_eq_some_iff.mp at_j
  have ends := valid_belowAnchor valid below
  rw [elements_of_write formed write] at inList
  dsimp only
  omega

/-- Settles O25: the write of each beat by its mask, over what the read of the beat delivers. -/
theorem plainWriteStoresItsBytes : Obligations.PlainWriteStoresItsBytes := by
  intro s p rest corrected poisoned takes write safe below window open_ fixed bad
  have count := elements_of_write takes.formed write
  have aligned := (valid_bounds takes.valid).1
  have inside := valid_inside takes.valid
  have take : classify p s = .perform (requestBase p) none := by
    rw [classify_plain takes.valid below window]
    simp only [takePlain, write, open_]
  have inside' : requestBase p + 16 * p.elements.length ≤ Config.memoryEnd := by rw [count]; exact inside
  have moved := hostMove_writes write safe aligned inside'
  obtain ⟨beats, corrected', poisoned'⟩ := hostMove_finds write safe aligned inside'
  rw [← fixed] at corrected'
  rw [← bad] at poisoned'
  have runs := exec_arbiterGrant_performs takes take inside corrected' poisoned'
  rw [handOn_below takes.formed takes.valid write below] at runs
  have place : ∀ {j : Nat} {e : DataElement}, p.elements[j]? = some e → j < p.elements.length := fun h =>
    (List.getElem?_eq_some_iff.mp h).1
  refine ⟨_, runs, fun j i e at_j hi enabled => ?_, fun j i e at_j hi masked => ?_, fun j e at_j => ?_, fun a out => ?_, ?_, reported_flt,
    fun noneFixed noneBad => ?_, ?_, reported_hlp, reported_reportsBeside⟩
  · rw [reported_fmc, hostMoved_cells, moved.bytes j (place at_j) i hi, maskAt_hostBeats at_j, bytesAt_hostBeats at_j, writtenByte,
      if_pos enabled]
  · rw [reported_fmc, hostMoved_cells, moved.bytes j (place at_j) i hi, maskAt_hostBeats at_j, writtenByte, delivered_eq,
      if_neg (by simp [masked])]
  · rw [reported_fmc, hostMoved_mark, moved.marks j (place at_j), maskAt_hostBeats at_j, CheckState.afterWrite_eq]
  · rw [reported_fmc, hostMoved_mark, hostMoved_cells, (moved.outside a out).1, (moved.outside a out).2, hostFmc, setRotation_mark,
      setRotation_cells]
    exact ⟨rfl, rfl⟩
  · rw [reported_fmc]
    exact hostMoved_busy_write beats poisoned'
  · rw [noneFixed, noneBad]
    exact hostMoved_changesOnly
  · rw [reported_fmc]
    exact hostMoved_rot3 moved

end Sys2Proof.Machine
end

section
/-! SUPPORT. A film trailer: what the record of a channel becomes when a frame closes, and when its trailer is bad. Then the
WRITE through a window. -/

namespace Sys2Proof.Machine

/-! ## The record of a channel under a report (R68, R168) -/

/-- While a slot is the fill slot, the standing choice changes nothing (R67). -/
theorem FilmChannel.standing_filling {r : FilmChannel} {i : Fin 3} (fill : r.fill = some i) : r.standing = r := by
  unfold FilmChannel.standing
  rw [if_neg]
  rintro ⟨-, unfilled, -⟩
  rw [fill] at unfilled
  cases unfilled

/-- A pause leaves the queue, the fill slot and the slots alone (R74). -/
theorem FilmChannel.pause_keeps (r : FilmChannel) : r.pause.queue = r.queue ∧ r.pause.fill = r.fill ∧ r.pause.slots = r.slots := by
  unfold FilmChannel.pause
  split <;> exact ⟨rfl, rfl, rfl⟩

/-- A report leaves the channels, or pauses them where its class is SAFE (R168). -/
theorem report_channel (r : Report) (x : Channel) (s : State) :
    (report r s).fsq.get x = s.fsq.get x ∨ (report r s).fsq.get x = (s.fsq.get x).pause.standing := by
  have action : ∀ (a : FaultAction) (u : State),
      (takeAction a u).fsq.get x = u.fsq.get x ∨ (takeAction a u).fsq.get x = (u.fsq.get x).pause.standing := fun a u => by
    cases a with
    | quiet => exact .inl rfl
    | signal => exact .inl (by simp [takeAction])
    | safe =>
      unfold takeAction
      dsimp only
      split
      · exact .inl rfl
      · refine .inr ?_
        cases x <;> simp [degradedNotice, PerChannel.get_set] <;> rfl
  unfold report
  dsimp only
  split
  · exact .inl rfl
  · split
    · exact .inl rfl
    · exact action _ _

/-- A report leaves the queue, the fill slot and the slots of a channel that is filling (R68). -/
theorem report_filling {s : State} {x : Channel} {i : Fin 3} (fill : (s.fsq.get x).fill = some i) (r : Report) :
    ((report r s).fsq.get x).queue = (s.fsq.get x).queue ∧ ((report r s).fsq.get x).fill = some i ∧
    ((report r s).fsq.get x).slots = (s.fsq.get x).slots := by
  rcases report_channel r x s with same | paused
  · rw [same]
    exact ⟨rfl, fill, rfl⟩
  · obtain ⟨queue, filling, slots⟩ := (s.fsq.get x).pause_keeps
    rw [paused, FilmChannel.standing_filling (filling.trans fill)]
    exact ⟨queue, filling.trans fill, slots⟩

/-! ## A frame closes (R69, R70) -/

/-- The lowest slot that passes a test is the same in a table whose slots pass it alike. -/
theorem PerSlot.lowest_congr {α : Type} {t u : PerSlot α} {ok : α → Bool} (h : ∀ i : Fin 3, ok (u.get i) = ok (t.get i)) :
    u.lowest ok = t.lowest ok := by
  have h0 := h 0
  have h1 := h 1
  have h2 := h 2
  simp only [PerSlot.get] at h0 h1 h2
  simp only [PerSlot.lowest, h0, h1, h2]

/-- The record with its fill slot READY at the tail of the queue, before the fill slot is chosen anew. -/
def FilmChannel.closed (r : FilmChannel) (i : Fin 3) (f : Frame) : FilmChannel :=
  { r with
    slots := r.slots.set i { r.slots.get i with state := .ready, frame := some f }
    queue := r.queue ++ [i]
    fill := none }

theorem FilmChannel.closeFrame_eq (r : FilmChannel) (i : Fin 3) (f : Frame) (policy : FillPolicy) :
    r.closeFrame i f policy = ((r.closed i f).chooseFill policy).standing := rfl

/-- A frame has closed: its slot is READY with it, and the channel is as it was but for the queue, the fill slot and the slots chosen. -/
structure FrameClosed (r r' : FilmChannel) (i : Fin 3) (f : Frame) : Prop where
  state : r'.state = r.state
  holdCount : r'.holdCount = r.holdCount
  starveRun : r'.starveRun = r.starveRun
  elapsed : r'.elapsed = r.elapsed
  shown : r'.shown = r.shown
  presented : r'.presented = r.presented
  ready : (r'.slots.get i).state = .ready
  frame : (r'.slots.get i).frame = some f

section Closes

variable {r r' : FilmChannel} {i k head : Fin 3} {f : Frame}

/-- Where a slot goes from one state to another, no slot of a third state is found or lost. -/
theorem FilmChannel.lowest_closed {st : SlotState} (filling : (r.slots.get i).state = .filling) (other : st ≠ .filling)
    (ready : st ≠ .ready) :
    ((r.closed i f).slots.lowest fun t => decide (t.state = st)) = r.slots.lowest fun t => decide (t.state = st) := by
  refine PerSlot.lowest_congr fun j => ?_
  rw [FilmChannel.closed, PerSlot.get_set]
  split
  · next same => rw [same, filling, decide_eq_false ready.symm, decide_eq_false other.symm]
  · rfl

theorem FilmChannel.closed_closes (filling : (r.slots.get i).state = .filling) : FrameClosed r (r.closed i f) i f := by
  refine ⟨rfl, rfl, rfl, rfl, lowest_closed filling (by decide) (by decide), rfl, ?_, ?_⟩ <;> simp [closed, PerSlot.get_set]

/-- Choosing the fill slot among the other slots keeps the frame closed (R70). -/
theorem FrameClosed.fillWith (h : FrameClosed r r' i f) (other : k ≠ i) (unseen : (r'.slots.get k).state ≠ .shown) :
    FrameClosed r (r'.fillWith k) i f := by
  have slot : (r'.fillWith k).slots.get i = r'.slots.get i := by
    rw [FilmChannel.fillWith, PerSlot.get_set, if_neg other.symm]
  refine ⟨h.state, h.holdCount, h.starveRun, h.elapsed, .trans ?_ h.shown, h.presented, by rw [slot]; exact h.ready,
    by rw [slot]; exact h.frame⟩
  refine PerSlot.lowest_congr fun j => ?_
  rw [FilmChannel.fillWith, PerSlot.get_set]
  split
  · next same => rw [same, decide_eq_false unseen]; rfl
  · rfl

/-- A frame that closes alone: the lowest FREE slot fills next (R70). -/
theorem FilmChannel.closeFrame_alone {policy : FillPolicy} (filling : (r.slots.get i).state = .filling) (queue : r.queue = []) :
    r.closeFrame i f policy = match r.lowestFree with
      | some k => (r.closed i f).fillWith k
      | none => r.closed i f := by
  have free : (r.closed i f).lowestFree = r.lowestFree := lowest_closed filling (by decide) (by decide)
  have line : (r.closed i f).queue = [i] := by rw [closed, queue]; rfl
  rw [closeFrame_eq, chooseFill, line, free]
  cases lowest : r.lowestFree with
  | some k => exact standing_filling rfl
  | none =>
    simp only [standing, free, lowest]
    split <;> rfl

/-- A frame that closes behind another under NEWEST: the older frame's slot fills next (R70). -/
theorem FilmChannel.closeFrame_newest (queue : r.queue = [head]) :
    r.closeFrame i f .newest = { { r.closed i f with queue := [i] }.fillWith head with dropped := r.dropped + 1 } := by
  have line : (r.closed i f).queue = [head, i] := by rw [closed, queue]; rfl
  rw [closeFrame_eq, chooseFill, line]
  exact standing_filling rfl

/-- A frame that closes behind another under KEEP_ALL: none fills until one is presented (R70). -/
theorem FilmChannel.closeFrame_keepAll (queue : r.queue = [head]) : r.closeFrame i f .keepAll = r.closed i f := by
  have line : (r.closed i f).queue = [head, i] := by rw [closed, queue]; rfl
  rw [closeFrame_eq, chooseFill, line, standing, if_neg]
  rw [line]
  simp

end Closes

/-- A frame closes in a safe channel, whatever the policy: at most one frame stood in the queue (R69, R70). -/
theorem FilmChannel.closeFrame_closes {r : FilmChannel} {i : Fin 3} {f : Frame} (policy : FillPolicy) (safe : r.safe)
    (fill : r.fill = some i) : FrameClosed r (r.closeFrame i f policy) i f := by
  obtain ⟨-, queued, fills, -, -, -, -, -, -, short, -, -⟩ := safe
  have filling := (fills i).mp fill
  have closes : FrameClosed r (r.closed i f) i f := closed_closes filling
  match queue : r.queue with
  | [] =>
    rw [closeFrame_alone filling queue]
    cases lowest : r.lowestFree with
    | none => exact closes
    | some k =>
      have passes : decide ((r.slots.get k).state = .free) = true :=
        PerSlot.lowest_passes (ok := fun t : Slot => decide (t.state = .free)) lowest
      have free := of_decide_eq_true passes
      have other : k ≠ i := fun same => by rw [same, filling] at free; cases free
      refine closes.fillWith other ?_
      rw [closed, PerSlot.get_set, if_neg other, free]
      decide
  | [head] =>
    have ready : (r.slots.get head).state = .ready := (queued head).mp (by rw [queue]; exact List.mem_singleton.mpr rfl)
    have other : head ≠ i := fun same => by rw [same, filling] at ready; cases ready
    cases policy with
    | keepAll => rw [closeFrame_keepAll queue]; exact closes
    | newest =>
      rw [closeFrame_newest queue]
      have shorter : FrameClosed r { r.closed i f with queue := [i] } i f :=
        ⟨closes.state, closes.holdCount, closes.starveRun, closes.elapsed, closes.shown, closes.presented, closes.ready, closes.frame⟩
      have filled := shorter.fillWith other (by rw [closed, PerSlot.get_set, if_neg other, ready]; decide)
      exact ⟨filled.state, filled.holdCount, filled.starveRun, filled.elapsed, filled.shown, filled.presented, filled.ready, filled.frame⟩
  | _ :: _ :: _ =>
    have := short (by rw [fill]; rfl)
    rw [queue] at this
    simp only [List.length_cons] at this
    omega

/-- The queue, the fill slot and the drop count once a frame has closed alone (R70). -/
theorem FilmChannel.closeFrame_alone_queue {r : FilmChannel} {i : Fin 3} {f : Frame} (policy : FillPolicy) (safe : r.safe)
    (fill : r.fill = some i) (queue : r.queue = []) :
    (r.closeFrame i f policy).queue = [i] ∧ (r.closeFrame i f policy).fill = r.lowestFree ∧
    (r.closeFrame i f policy).dropped = r.dropped := by
  obtain ⟨-, -, fills, -⟩ := safe
  rw [closeFrame_alone ((fills i).mp fill) queue]
  have line : (r.closed i f).queue = [i] := by rw [closed, queue]; rfl
  cases r.lowestFree <;> exact ⟨line, rfl, rfl⟩

/-- The queue, the fill slot and the drop count once a frame has closed behind another under NEWEST (R70). -/
theorem FilmChannel.closeFrame_newest_queue {r : FilmChannel} {i head : Fin 3} {f : Frame} (queue : r.queue = [head]) :
    (r.closeFrame i f .newest).queue = [i] ∧ (r.closeFrame i f .newest).fill = some head ∧
    ((r.closeFrame i f .newest).slots.get head).frame = none ∧ (r.closeFrame i f .newest).dropped = r.dropped + 1 := by
  rw [closeFrame_newest queue]
  refine ⟨rfl, rfl, ?_, rfl⟩
  simp [fillWith, PerSlot.get_set]

/-- The queue, the fill slot and the drop count once a frame has closed behind another under KEEP_ALL (R70). -/
theorem FilmChannel.closeFrame_keepAll_queue {r : FilmChannel} {i head : Fin 3} {f : Frame} (queue : r.queue = [head]) :
    (r.closeFrame i f .keepAll).queue = [head, i] ∧ (r.closeFrame i f .keepAll).fill = none ∧
    (r.closeFrame i f .keepAll).dropped = r.dropped := by
  rw [closeFrame_keepAll queue]
  refine ⟨?_, rfl, rfl⟩
  rw [closed, queue]
  rfl

/-- A channel's section is dirty once its record has changed (R87). -/
theorem setChannel_marks {x : Channel} {r : FilmChannel} {s : State} (changed : s.fsq.get x ≠ r) :
    (setChannel x r s).stw.dirty.has (channelSection x) = true := by
  unfold setChannel
  rw [if_neg changed]
  simp

/-! ## The trailer of a WRITE through a window (R9, R68) -/

/-- The address of the trailer beat in a channel's window (R9). -/
def trailerAddress (x : Channel) (s : State) : Nat := rowBase (fillRow x s.wdc.map) + 2048000

theorem handOn_window {p : HostRequest} (write : p.direction = .write) (x : Channel) (s : State) :
    handOn (some x) p s = handTrailer x p s := by
  unfold handOn
  rw [write]

/-- A trailer beat that is not written in full is not handed on (R9). -/
theorem handTrailer_partial {x : Channel} {p : HostRequest} {s : State}
    (part : ∀ (j : Nat) (e : DataElement), p.elements[j]? = some e → requestBase p + 16 * j = trailerAddress x s → e.mask ≠ fullMask) :
    handTrailer x p s = s := by
  have unheld : ((fullWrites (requestBase p) p.elements).find? fun w => w.1 == trailerAddress x s) = none := by
    refine List.find?_eq_none.mpr fun w hw => ?_
    obtain ⟨j, e, at_j, full, rfl⟩ := mem_fullWrites hw
    intro here
    exact part j e at_j (by simpa using here) full
  unfold handTrailer
  dsimp only
  rw [show Config.trailerOffset = 2048000 from rfl]
  rw [trailerAddress] at unheld
  rw [unheld]

/-- A beat written in full is among the full writes. -/
theorem fullWrites_mem {a j : Nat} {elements : List DataElement} {e : DataElement} (at_j : elements[j]? = some e)
    (full : e.mask = fullMask) :
    (a + 16 * j, beatBytes e.data) ∈ fullWrites a elements := by
  induction elements generalizing a j with
  | nil => cases at_j
  | cons d rest ih =>
    unfold fullWrites
    cases j with
    | zero =>
      cases at_j
      rw [if_pos full]
      exact List.mem_cons_self ..
    | succ j =>
      have later : (a + 16 * (j + 1), beatBytes e.data) ∈ fullWrites (a + 16) rest := by
        rw [show a + 16 * (j + 1) = a + 16 + 16 * j by omega]
        exact ih (by simpa using at_j)
      split
      · exact List.mem_cons_of_mem _ later
      · exact later

/-- A trailer beat written in full is handed on (R9). -/
theorem handTrailer_full {x : Channel} {p : HostRequest} {s : State} {j : Nat} {e : DataElement} (at_j : p.elements[j]? = some e)
    (here : requestBase p + 16 * j = trailerAddress x s) (full : e.mask = fullMask) :
    handTrailer x p s = takeTrailer x (beatBytes e.data) s := by
  have found : ((fullWrites (requestBase p) p.elements).find? fun w => w.1 == trailerAddress x s) =
      some (trailerAddress x s, beatBytes e.data) := by
    cases first : (fullWrites (requestBase p) p.elements).find? fun w => w.1 == trailerAddress x s with
    | none => exact absurd (by simp [here]) (List.find?_eq_none.mp first _ (fullWrites_mem at_j full))
    | some w =>
      have passes := List.find?_some first
      obtain ⟨k, d, at_k, -, rfl⟩ := mem_fullWrites (List.mem_of_find?_eq_some first)
      have same : requestBase p + 16 * k = trailerAddress x s := by simpa using passes
      obtain rfl : k = j := by omega
      rw [at_j] at at_k
      cases at_k
      rw [here]
  unfold handTrailer
  dsimp only
  rw [show Config.trailerOffset = 2048000 from rfl]
  rw [trailerAddress] at found
  rw [found]

/-- A good trailer closes the frame in the fill slot (R69). -/
theorem takeTrailer_good {x : Channel} {bytes : List Byte} {s : State} {i : Fin 3} (fill : (s.fsq.get x).fill = some i)
    (marker : get32 bytes 0 = 0x54524C52) (low : 1 ≤ get8 bytes 8) (high : get8 bytes 8 ≤ 4) :
    takeTrailer x bytes s =
      setChannel x ((s.fsq.get x).closeFrame i (trailerFrame bytes) (s.lyu.committed.fillPolicy.get x)) s := by
  have good : trailerFailure bytes = none := by
    unfold trailerFailure
    dsimp only
    rw [if_neg fun differs => differs marker, if_neg (by omega)]
  simp only [takeTrailer, good, fill]

/-- A bad trailer is reported (R68). -/
theorem takeTrailer_bad {x : Channel} {bytes : List Byte} {s : State}
    (bad : get32 bytes 0 ≠ 0x54524C52 ∨ get8 bytes 8 = 0 ∨ 4 < get8 bytes 8) :
    takeTrailer x bytes s = report ⟨.trailerInvalid, channelSource x,
      if get32 bytes 0 ≠ 0x54524C52 then .badMarker (BitVec.ofNat 32 (get32 bytes 4))
      else .badDelay (BitVec.ofNat 8 (get8 bytes 8)) (BitVec.ofNat 32 (get32 bytes 4)), none⟩ s := by
  have fails : trailerFailure bytes = some (if get32 bytes 0 ≠ 0x54524C52 then .badMarker (BitVec.ofNat 32 (get32 bytes 4))
      else .badDelay (BitVec.ofNat 8 (get8 bytes 8)) (BitVec.ofNat 32 (get32 bytes 4))) := by
    unfold trailerFailure
    dsimp only
    rw [show trailerCode = 0x54524C52 from rfl]
    split
    · rfl
    · next marker => rw [if_pos (bad.resolve_left marker)]
  simp only [takeTrailer, fails]
  rfl

/-! ## The WRITE through a window (R7) -/

/-- The place of a WRITE through a window, when FSQ names a fill slot (R7). -/
theorem classify_aliasWrite {s : State} {p : HostRequest} {x : Channel} {i : Fin 3} (valid : requestFailure p = none)
    (below : requestBase p < Config.anchorBase) (window : aliasChannel s.wdc.map (requestBase p) = some x)
    (fill : (s.fsq.get x).fill = some i) :
    classify p s =
      .perform (rowBase (filmRow x s.wdc.map) + 2052096 * i.val + (requestBase p - rowBase (fillRow x s.wdc.map))) (some x) := by
  rw [classify_alias valid below window]
  simp only [takeAlias, fill]
  rfl

/-- A WRITE through a window whose merges meet no marked beat: its beats are stored, and the trailer may be handed on. -/
theorem exec_arbiterGrant_aliasWrite {s : State} {p : HostRequest} {rest : List HostRequest} {x : Channel} {i : Fin 3} {target : Nat}
    (takes : HostTakes s p rest) (write : p.direction = .write) (safe : MemorySafe s) (below : requestBase p < Config.anchorBase)
    (window : aliasChannel s.wdc.map (requestBase p) = some x) (fill : (s.fsq.get x).fill = some i)
    (place : target = rowBase (filmRow x s.wdc.map) + 2052096 * i.val + (requestBase p - rowBase (fillRow x s.wdc.map)))
    (inside : target + 16 * p.elements.length ≤ Config.memoryEnd)
    (unmarked : ∀ j, j < p.elements.length → partialAt p j = true → s.fmc.mark (target + 16 * j) = .clean) :
    exec .arbiterGrant s = .next (handTrailer x p (hostMoved p target s)) ∧
    BeatsMoved (hostFmc s) (hostMove p target s).fmc target p.elements.length
      (fun j => writtenByte s.fmc (target + 16 * j) (maskAt (hostBeats p) j) (bytesAt (hostBeats p) j))
      (fun j => (s.fmc.mark (target + 16 * j)).afterWrite (maskAt (hostBeats p) j)) ∧
    (hostMoved p target s).fmc.busy = some ⟨.hostTake ⟨p.tag, .ok, []⟩, []⟩ := by
  have aligned : target % 16 = 0 := by rw [place]; exact aliasTarget_aligned (valid_bounds takes.valid).1
  have moved := hostMove_writes write safe aligned inside
  obtain ⟨beats, corrected, poisoned⟩ := hostMove_calm write safe aligned inside unmarked
  refine ⟨?_, moved, hostMoved_busy_write beats poisoned⟩
  have runs := exec_arbiterGrant_performs takes (place ▸ classify_aliasWrite takes.valid below window fill)
    (elements_of_write takes.formed write ▸ inside) corrected poisoned
  rw [handOn_window write] at runs
  exact runs

/-- Settles O28: the window's offset in the fill slot, and the trailer's two ends. -/
theorem aliasWriteReachesTheFillSlot : Obligations.AliasWriteReachesTheFillSlot := by
  intro s p rest x i trailer target takes write safe below window fill here place inside
  have inList : ∀ {j : Nat} {e : DataElement}, p.elements[j]? = some e → j < p.elements.length := fun h =>
    (List.getElem?_eq_some_iff.mp h).1
  have fill' : ((hostMoved p target s).fsq.get x).fill = some i := fill
  refine ⟨fun part clean => ?_, fun j e bytes r at_j there full bytes_eq r_eq rSafe => ?_⟩
  · obtain ⟨runs, moved, busy⟩ := exec_arbiterGrant_aliasWrite takes write safe below window fill place inside fun j hj _ => clean j hj
    rw [handTrailer_partial (s := hostMoved p target s) fun j e at_j there => part j e at_j (there.trans here.symm)] at runs
    refine ⟨_, runs, fun j k e at_j hk => ?_, fun a out => ?_, busy, hostMoved_changesOnly⟩
    · rw [hostMoved_cells, moved.bytes j (inList at_j) k hk, maskAt_hostBeats at_j, bytesAt_hostBeats at_j, writtenByte,
        Fmc.delivers_clean (clean j (inList at_j)), readBytes_getD _ _ hk, ite_self]
    · rw [hostMoved_cells, (moved.outside a out).1, hostFmc, setRotation_cells]
  · obtain ⟨runs, moved, busy⟩ := exec_arbiterGrant_aliasWrite takes write safe below window fill place inside (unmarked_of_full full)
    rw [handTrailer_full (s := hostMoved p target s) at_j (there.trans here) (full e (List.mem_of_getElem? at_j)), ← bytes_eq] at runs
    have work := steady_takeTrailer x bytes (hostMoved p target s)
    refine ⟨_, runs, fun m k d at_m hk => ?_, fun a out => ?_, by rw [work.fmc]; exact busy, fun marker low high => ?_, fun bad => ?_⟩
    · have whole := full d (List.mem_of_getElem? at_m)
      rw [work.fmc, hostMoved_cells, moved.bytes m (inList at_m) k hk, maskAt_hostBeats at_m, bytesAt_hostBeats at_m, writtenByte, whole,
        if_pos (fullMask_getLsbD hk)]
    · rw [work.fmc, hostMoved_cells, (moved.outside a out).1, hostFmc, setRotation_cells]
    · rw [takeTrailer_good fill' marker low high]
      have film : (hostMoved p target s).fsq = s.fsq := rfl
      have layout : (hostMoved p target s).lyu = s.lyu := rfl
      have closes := FilmChannel.closeFrame_closes (f := trailerFrame bytes) (s.lyu.committed.fillPolicy.get x) rSafe (r_eq ▸ fill)
      simp only [setChannel_fsq, film, layout, ← r_eq, PerChannel.get_set_same]
      refine ⟨closes.state, closes.holdCount, closes.starveRun, closes.elapsed, closes.shown, closes.presented, closes.ready,
        closes.frame, fun alone => FilmChannel.closeFrame_alone_queue _ rSafe (r_eq ▸ fill) alone, fun head behind newest => ?_,
        fun head behind keeps => ?_, fun y other => PerChannel.get_set_other _ _ other, setChannel_marks fun same => ?_, ?_⟩
      · rw [newest]
        exact FilmChannel.closeFrame_newest_queue behind
      · rw [keeps]
        exact FilmChannel.closeFrame_keepAll_queue behind
      · obtain ⟨-, -, fills, -⟩ := rSafe
        have filling := (fills i).mp (r_eq ▸ fill)
        rw [r_eq, film.symm, same] at filling
        exact absurd (closes.ready.symm.trans filling) (by decide)
      · exact (hostMoved_changesOnly.mono (by simp)).trans ((setChannel_changesOnly x _ _).mono (by simp))
    · rw [takeTrailer_bad bad]
      obtain ⟨queue, filling, slots⟩ := report_filling fill' ⟨.trailerInvalid, channelSource x,
        if get32 bytes 0 ≠ 0x54524C52 then .badMarker (BitVec.ofNat 32 (get32 bytes 4))
        else .badDelay (BitVec.ofNat 8 (get8 bytes 8)) (BitVec.ofNat 32 (get32 bytes 4)), none⟩
      rw [r_eq]
      exact ⟨queue, filling, slots, report_flt_congr _ rfl rfl,
        (ReportsBeside.of_changesOnly hostMoved_changesOnly).trans (.of_reports (report_changesOnly _ _))⟩

end Sys2Proof.Machine
end

section
/-! The grants that write for the part itself: STW's sections and results, and CCP's camera lines (R36, R37, R121). -/

namespace Sys2Proof.Machine

/-! ## Full beats -/

theorem fullBeats_maskAt {n i : Nat} (hi : i < n) (bytes : List Byte) : maskAt (fullBeats n bytes) i = fullMask := by
  induction n generalizing i bytes with
  | zero => omega
  | succ n ih =>
    cases i with
    | zero => rfl
    | succ i => exact ih (by omega) _

theorem fullBeats_bytesAt {n i : Nat} (hi : i < n) (bytes : List Byte) :
    bytesAt (fullBeats n bytes) i = (bytes.drop (16 * i)).take 16 := by
  induction n generalizing i bytes with
  | zero => omega
  | succ n ih =>
    cases i with
    | zero => rfl
    | succ i =>
      have step := ih (i := i) (by omega) (bytes.drop 16)
      rw [List.drop_drop, show 16 + 16 * i = 16 * (i + 1) by omega] at step
      exact step

theorem fullBeats_bytes_length {n : Nat} {bytes : List Byte} (enough : 16 * n ≤ bytes.length) :
    ∀ e ∈ fullBeats n bytes, e.2.length = 16 := by
  induction n generalizing bytes with
  | zero => intro e he; cases he
  | succ n ih =>
    intro e he
    rcases List.mem_cons.mp he with rfl | he
    · simp only [List.length_take]
      omega
    · exact ih (by simp only [List.length_drop]; omega) e he

/-- Bytes written in full beats read back, and the beats are CLEAN (R14). -/
theorem writeFullBeats_moved {f : Fmc} {a n : Nat} {bytes : List Byte} (wf : f.wf = true) (aligned : a % 16 = 0)
    (inside : a + 16 * n ≤ Config.memoryEnd) (enough : 16 * n ≤ bytes.length) :
    BeatsMoved f (f.writeBeats a (fullBeats n bytes)).fmc a n (fun i k => bytes.getD (16 * i + k) 0) (fun _ => .clean) := by
  have moved := writeBeats_moved wf aligned (by rw [fullBeats_length]; exact inside) (fullBeats_bytes_length enough)
  rw [fullBeats_length] at moved
  refine moved.congr (fun i hi k hk => ?_) (fun i hi => ?_)
  · rw [writtenByte, fullBeats_maskAt hi, fullBeats_bytesAt hi, if_pos (fullMask_getLsbD hk)]
    simp [List.getD_eq_getElem?_getD, hk]
  · rw [fullBeats_maskAt hi]
    rfl

/-- A write in full beats reads nothing, so it corrects and poisons nothing (R16). -/
theorem writeFullBeats_answers {f : Fmc} {a n : Nat} {bytes : List Byte} (wf : f.wf = true) (aligned : a % 16 = 0)
    (inside : a + 16 * n ≤ Config.memoryEnd) (enough : 16 * n ≤ bytes.length) :
    (f.writeBeats a (fullBeats n bytes)).beats = [] ∧ (f.writeBeats a (fullBeats n bytes)).corrected = [] ∧
    (f.writeBeats a (fullBeats n bytes)).poisoned = [] := by
  obtain ⟨beats, corrected, poisoned⟩ :=
    writeBeats_answers wf aligned (by rw [fullBeats_length]; exact inside) (fullBeats_bytes_length enough)
  have unmerged : ∀ test : CheckState → Bool,
      f.found a (fullBeats n bytes).length (fun i => isPartial (maskAt (fullBeats n bytes) i)) test = [] := fun test =>
    List.filter_eq_nil_iff.mpr fun i hi => by
      rw [fullBeats_length, List.mem_range] at hi
      dsimp only
      rw [fullBeats_maskAt hi]
      exact Bool.false_ne_true
  rw [unmerged] at corrected poisoned
  exact ⟨beats, corrected, poisoned⟩

/-- A byte of a stretch moved, by its distance from the start. -/
theorem BeatsMoved.byteAt {f f' : Fmc} {a n : Nat} {byte : Nat → Nat → Byte} {state : Nat → CheckState}
    (h : BeatsMoved f f' a n byte state) {j : Nat} (hj : j < 16 * n) : readByte f'.cells (a + j) = byte (j / 16) (j % 16) := by
  rw [← h.bytes (j / 16) (by omega) (j % 16) (by omega)]
  congr 1
  omega

/-- A byte of a stretch written in full beats. -/
theorem readByte_writeFullBeats {f : Fmc} {a n j : Nat} {bytes : List Byte} (wf : f.wf = true) (aligned : a % 16 = 0)
    (inside : a + 16 * n ≤ Config.memoryEnd) (enough : 16 * n ≤ bytes.length) (hj : j < 16 * n) :
    readByte (f.writeBeats a (fullBeats n bytes)).fmc.cells (a + j) = bytes.getD j 0 := by
  rw [(writeFullBeats_moved wf aligned inside enough).byteAt hj]
  congr 1
  omega

theorem turned_fmc (k : Nat) (p : Port) (s : State) : (turned k p s).fmc = s.fmc.setRotation k p := rfl

theorem beginGrant_cells (port : Port) (kind : GrantKind) (m : Moved) (s : State) : (beginGrant port kind m s).fmc.cells = m.fmc.cells := by
  rw [beginGrant_fmc]

theorem beginGrant_marks (port : Port) (kind : GrantKind) (m : Moved) (s : State) : (beginGrant port kind m s).fmc.marks = m.fmc.marks := by
  rw [beginGrant_fmc]

/-- A grant that finds no marked beat reports nothing. -/
theorem beginGrant_quiet {port : Port} {kind : GrantKind} {m : Moved} {s : State} (beats : m.beats = []) (fixed : m.corrected = [])
    (bad : m.poisoned = []) : beginGrant port kind m s = { s with fmc := { m.fmc with busy := some ⟨kind, []⟩ } } := by
  unfold beginGrant reportMemoryFor
  rw [fixed, bad, beats]
  rfl

/-! ## A claim that is raised stands under a report -/

/-- While STW has a claim, neither the claim nor the result in hand changes. -/
def ClaimStands (s t : State) : Prop := s.stw.claim ≠ .idle → t.stw.claim = s.stw.claim ∧ t.stw.result = s.stw.result

section Stands

variable {s t u : State}

theorem ClaimStands.of_same (h : t.stw = s.stw) : ClaimStands s t := fun _ => by rw [h]; exact ⟨rfl, rfl⟩

theorem ClaimStands.trans (h : ClaimStands s t) (k : ClaimStands t u) : ClaimStands s u := fun busy => by
  obtain ⟨claim, result⟩ := h busy
  obtain ⟨claim', result'⟩ := k (claim ▸ busy)
  exact ⟨claim'.trans claim, result'.trans result⟩

theorem claimStands_markDirty (k : StatusSection) (s : State) : ClaimStands s (markDirty k s) := fun busy =>
  ⟨Stw.raise_claim_busy busy, markDirty_result k s⟩

theorem claimStands_raiseCause (c : Cause) (s : State) : ClaimStands s (raiseCause c s) := by
  unfold raiseCause setCauses
  split
  · exact .of_same rfl
  · exact .trans (t := { s with flt := _ }) (.of_same rfl) (claimStands_markDirty _ _)

theorem claimStands_setChannel (x : Channel) (r : FilmChannel) (s : State) : ClaimStands s (setChannel x r s) := by
  unfold setChannel
  split
  · exact .of_same rfl
  · exact .trans (t := { s with fsq := _ }) (.of_same rfl) (claimStands_markDirty _ _)

theorem claimStands_chimeEvent (e : ChimeEvent) (s : State) : ClaimStands s (chimeEvent e s) := by
  unfold chimeEvent
  repeat' split
  · exact .of_same rfl
  · exact .of_same rfl
  · unfold settleChu setChu
    split
    · exact .of_same rfl
    · exact .trans (t := { s with chu := _ }) (.of_same rfl) (claimStands_markDirty _ _)

theorem claimStands_takeAction (a : FaultAction) (s : State) : ClaimStands s (takeAction a s) := by
  cases a with
  | quiet => exact .of_same rfl
  | signal => exact claimStands_raiseCause _ s
  | safe =>
    unfold takeAction
    dsimp only
    split
    · exact .of_same rfl
    · refine .trans ?_ (claimStands_chimeEvent _ _)
      refine .trans ?_ ((claimStands_setChannel _ _ _).trans (claimStands_setChannel _ _ _))
      refine .trans ?_ (claimStands_markDirty _ _)
      exact .trans (claimStands_raiseCause .fault s) (.of_same rfl)

theorem claimStands_report (r : Report) (s : State) : ClaimStands s (report r s) := by
  unfold report
  dsimp only
  split
  · exact .of_same rfl
  · have recorded : ∀ f : Flt, ClaimStands s (markDirty .s7 { s with flt := f }) := fun f =>
      .trans (t := { s with flt := f }) (.of_same rfl) (claimStands_markDirty _ _)
    split
    · exact recorded _
    · exact (recorded _).trans (claimStands_takeAction _ _)

theorem claimStands_beginGrant (port : Port) (kind : GrantKind) (m : Moved) (s : State) : ClaimStands s (beginGrant port kind m s) := by
  unfold beginGrant reportMemoryFor reportMemory
  dsimp only
  have moved : ClaimStands s { s with fmc := { m.fmc with busy := some ⟨kind, m.beats⟩ } } := .of_same rfl
  split <;> split
  · exact moved
  · exact moved.trans (claimStands_report _ _)
  · exact moved.trans (claimStands_report _ _)
  · exact (moved.trans (claimStands_report _ _)).trans (claimStands_report _ _)

end Stands

/-! ## Sections of the status block (R36) -/

@[simp] theorem sectionBytes_length (k : StatusSection) (s : State) : (sectionBytes k s).length = 96 := by
  simp only [sectionBytes, padTo, List.length_take, List.length_append, zeros, List.length_replicate]
  omega

/-- The bytes of a section do not tell of the arbiter's rotation. -/
theorem sectionBytes_turned (k : StatusSection) (n : Nat) (p : Port) (s : State) : sectionBytes k (turned n p s) = sectionBytes k s := by
  cases k <;> rfl

theorem sectionAddress_inside (k : StatusSection) : sectionAddress k % 16 = 0 ∧ sectionAddress k + 16 * 6 ≤ Config.memoryEnd := by
  have := k.index_le
  simp only [sectionAddress, Config.statusBase, Config.memoryEnd]
  omega

/-- What FMC moves for a section. -/
def sectionMove (k : StatusSection) (n : Nat) (s : State) : Moved :=
  (s.fmc.setRotation n .stw).writeBeats (sectionAddress k) (fullBeats 6 (sectionBytes k s))

/-- The grant of a section claim (R36). -/
theorem exec_arbiterGrant_section {s : State} {n : Nat} {k : StatusSection} (chosen : Chosen s n .stw)
    (claim : s.stw.claim = .sectionWaiting k) (safe : MemorySafe s) :
    exec .arbiterGrant s = .next { s with
      fmc := { (sectionMove k n s).fmc with busy := some ⟨.statusSection, []⟩ }
      stw := { s.stw with dirty := s.stw.dirty.clear k, claim := .sectionGranted }
      freeCount := s.freeCount + 96 } := by
  obtain ⟨aligned, inside⟩ := sectionAddress_inside k
  obtain ⟨beats, fixed, bad⟩ := writeFullBeats_answers (bytes := sectionBytes k s) (setRotation_wf (k := n) (p := .stw) safe) aligned inside
    (by simp)
  have claim' : (turned n .stw s).stw.claim = .sectionWaiting k := claim
  rw [exec_arbiterGrant_of_chosen chosen]
  simp only [grantTo, grantStatus, claim', grantSection, sectionBytes_turned, turned_fmc]
  rw [beginGrant_quiet beats fixed bad]
  rfl

/-! ## Results (R37) -/

/-- The read of a beat that holds no single-bit error leaves FMC as it was (R15). -/
theorem readBeat_uncorrected {f : Fmc} {a : Nat} (sound : ∀ bit, f.mark a ≠ .correctable bit) : (f.readBeat a).fmc = f := by
  unfold Fmc.readBeat
  dsimp only
  split
  · rfl
  · next bit marked => exact absurd marked (sound bit)
  · rfl

/-- A merge leaves the check states as its read does (R16). -/
theorem writeBeat_marks {f : Fmc} {a : Nat} {mask : BitVec 16} {bytes : List Byte} (merges : isPartial mask = true) :
    (f.writeBeat a mask bytes).fmc.marks = (f.readBeat a).fmc.marks := by
  simp only [isPartial, Bool.and_eq_true, decide_eq_true_eq] at merges
  unfold Fmc.writeBeat
  rw [if_neg merges.1, if_neg merges.2]

theorem Fmc.delivers_uncorrected {f : Fmc} {a : Nat} (sound : ∀ bit, f.mark a ≠ .correctable bit) :
    f.delivers a = readBytes f.cells a 16 := by
  unfold Fmc.delivers
  split
  · rfl
  · next bit marked => exact absurd marked (sound bit)
  · rfl

/-- The result mask enables the two bytes of the code (11.5). -/
theorem resultMask_getLsbD {i : Nat} (hi : i < 16) : resultMask.getLsbD i = decide (i = 2 ∨ i = 3) := by
  revert i
  decide

theorem resultBeat_length (code : ResultCode) : (resultBeat code).length = 16 := by simp [resultBeat, zeros, put16]

theorem resultBeat_code (code : ResultCode) :
    (resultBeat code).getD 2 0 = BitVec.ofNat 8 code.code ∧ (resultBeat code).getD 3 0 = 0 := by
  cases code <;> exact ⟨rfl, rfl⟩

/-- The address of an entry's first beat in the ring (11.5). -/
def resultAddress (position : Nat) : Nat := Config.ringBase + 32 * (position % 32)

theorem resultAddress_inside (position : Nat) : resultAddress position % 16 = 0 ∧ resultAddress position + 16 ≤ Config.memoryEnd := by
  simp only [resultAddress, Config.ringBase, Config.memoryEnd]
  omega

/-- What FMC moves for a result. -/
def resultMove (r : ResultWrite) (n : Nat) (s : State) : Moved :=
  (s.fmc.setRotation n .stw).writeBeat (resultAddress r.position) resultMask (resultBeat r.code)

/-- The state of a result claim's grant before FMC reports (R37). -/
def resultGranted (n : Nat) (s : State) : State :=
  { turned n .stw s with stw := { s.stw with claim := .resultGranted } }

theorem grantStatus_result {s : State} {r : ResultWrite} (claim : s.stw.claim = .resultWaiting) (result : s.stw.result = some r) :
    grantStatus s = .next (grantResult r s) := by
  unfold grantStatus
  rw [claim, result]

theorem exec_arbiterGrant_result {s : State} {n : Nat} {r : ResultWrite} (chosen : Chosen s n .stw) (claim : s.stw.claim = .resultWaiting)
    (result : s.stw.result = some r) :
    exec .arbiterGrant s = .next (beginGrant .stw .resultWrite (resultMove r n s) (resultGranted n s)) := by
  have claim' : (turned n .stw s).stw.claim = .resultWaiting := claim
  have result' : (turned n .stw s).stw.result = some r := result
  rw [exec_arbiterGrant_of_chosen chosen]
  exact grantStatus_result claim' result'

/-- What a result write leaves: the code in its two bytes, all else as it was. -/
theorem resultMove_bytes {s : State} {n : Nat} {r : ResultWrite} (safe : MemorySafe s)
    (sound : ∀ bit, s.fmc.mark (resultAddress r.position) ≠ .correctable bit) :
    readByte (resultMove r n s).fmc.cells (resultAddress r.position + 2) = BitVec.ofNat 8 r.code.code ∧
    readByte (resultMove r n s).fmc.cells (resultAddress r.position + 3) = 0 ∧
    (∀ a, a ≠ resultAddress r.position + 2 → a ≠ resultAddress r.position + 3 →
      readByte (resultMove r n s).fmc.cells a = readByte s.fmc.cells a) ∧
    (resultMove r n s).fmc.marks = s.fmc.marks := by
  obtain ⟨aligned, inside⟩ := resultAddress_inside r.position
  have moved := writeBeat_moved (mask := resultMask) (setRotation_wf (k := n) (p := .stw) safe) aligned inside (resultBeat_length r.code)
  have sound' : ∀ bit, (s.fmc.setRotation n .stw).mark (resultAddress r.position) ≠ .correctable bit := fun bit => by
    rw [setRotation_mark]
    exact sound bit
  have byte : ∀ i, i < 16 → readByte (resultMove r n s).fmc.cells (resultAddress r.position + i) =
      if i = 2 ∨ i = 3 then (resultBeat r.code).getD i 0 else readByte s.fmc.cells (resultAddress r.position + i) := fun i hi => by
    have here := moved.bytes 0 (by omega) i hi
    rw [writtenByte, resultMask_getLsbD hi, Fmc.delivers_uncorrected sound', readBytes_getD _ _ hi, setRotation_cells, ite_self] at here
    simp only [decide_eq_true_eq] at here
    exact here
  obtain ⟨low, high⟩ := resultBeat_code r.code
  refine ⟨?_, ?_, fun a not2 not3 => ?_, ?_⟩
  · rw [byte 2 (by omega), if_pos (.inl rfl), low]
  · rw [byte 3 (by omega), if_pos (.inr rfl), high]
  · by_cases out : a < resultAddress r.position ∨ resultAddress r.position + 16 ≤ a
    · rw [← setRotation_cells s.fmc n .stw]
      exact (moved.outside a (by omega)).1
    · obtain ⟨i, rfl⟩ : ∃ i, a = resultAddress r.position + i := ⟨a - resultAddress r.position, by omega⟩
      rw [byte i (by omega), if_neg (by omega)]
  · rw [resultMove, writeBeat_marks rfl, readBeat_uncorrected sound', setRotation_marks]

/-! ## Camera lines (R121) -/

/-- The next request of a line: as many of its beats as its page and a request of 16 beats have room for (R62, R121). -/
theorem CameraLine.request_eq {l : CameraLine} (unwritten : l.written < 160) :
    l.request = ⟨cameraLineAddress l.base l.lineNo + 16 * l.written,
      min (min 16 (160 - l.written)) ((4096 - (cameraLineAddress l.base l.lineNo + 16 * l.written) % 4096) / 16)⟩ := by
  unfold CameraLine.request cutRequests
  dsimp only
  rw [if_neg (by omega)]
  rfl

/-- The grant of a capture claim whose line is at the head of the buffer (R121). -/
theorem exec_arbiterGrant_capture {s : State} {n : Nat} {line : CameraLine} {rest : List CameraLine} (chosen : Chosen s n .ccp)
    (claim : s.ccp.claim = .waiting line.request) (head : s.ccp.buffer = line :: rest)
    (inside : line.request.address + 16 * line.request.beats ≤ Config.memoryEnd) :
    exec .arbiterGrant s = .next (beginGrant .ccp .cameraWrite
      ((s.fmc.setRotation n .ccp).writeBeats line.request.address (fullBeats line.request.beats (line.data.drop (16 * line.written))))
      { turned n .ccp s with ccp := { s.ccp with claim := .granted true } }) := by
  have claim' : (turned n .ccp s).ccp.claim = .waiting line.request := claim
  have head' : (turned n .ccp s).ccp.buffer = line :: rest := head
  have inside' : insideMemory line.request.address (max line.request.beats line.beats.length) = true := by
    rw [insideMemory_iff, CameraLine.beats, fullBeats_length, Nat.max_self]
    exact inside
  rw [exec_arbiterGrant_of_chosen chosen]
  simp only [grantTo, withClaim, claim', grantCapture, head', inside', if_true]
  rw [head]
  rfl

/-- Settles O29: a full write for sections and lines, a merge of two bytes for results. -/
theorem writeGrantsStoreTheirBytes : Obligations.WriteGrantsStoreTheirBytes := by
  refine ⟨fun s n k chosen claim safe => ?_, fun s n r chosen claim result safe sound => ?_,
    fun s n line rest a beats chosen claim head len unwritten base a_eq beats_eq safe inside => ?_⟩
  · obtain ⟨aligned, inside⟩ := sectionAddress_inside k
    have wf : (s.fmc.setRotation n .stw).wf = true := setRotation_wf safe
    have enough : 16 * 6 ≤ (sectionBytes k s).length := by simp
    refine ⟨_, exec_arbiterGrant_section chosen claim safe, fun i hi => ?_, fun a out => ?_, fun j => DirtySet.has_clear _ k j,
      rfl, rfl, rfl, fun b hb => ?_⟩
    · exact readByte_writeFullBeats wf aligned inside enough (by omega)
    · rw [← setRotation_cells s.fmc n .stw]
      exact ((writeFullBeats_moved wf aligned inside enough).outside a out).1
    · cases b <;> first | rfl | exact absurd (by simp) hb
  · rw [show 0x1FFFF300 + 32 * (r.position % 32) = resultAddress r.position from rfl] at sound ⊢
    obtain ⟨low, high, others, marks⟩ := resultMove_bytes (n := n) safe sound
    have busy : (resultGranted n s).stw.claim ≠ .idle := by simp [resultGranted]
    refine ⟨_, exec_arbiterGrant_result chosen claim result, ?_, ?_, fun a not2 not3 => ?_, ?_, ?_, ?_, ?_⟩
    · rw [beginGrant_cells, low]
    · rw [beginGrant_cells, high]
    · rw [beginGrant_cells, others a not2 not3]
    · rw [beginGrant_marks, marks]
    · exact (claimStands_beginGrant _ _ _ _ busy).1
    · exact (claimStands_beginGrant _ _ _ _ busy).2
    · refine ((ReportsBeside.of_changesOnly ((turned_changesOnly n .stw s).mono (by simp))).trans ?_).trans
        (beginGrant_reportsBeside _ _ _ _)
      exact fun b hb => by cases b <;> first | rfl | exact absurd (by simp) hb
  · have aligned : a % 16 = 0 := by omega
    have request := CameraLine.request_eq unwritten
    have address : line.request.address = a := by rw [request, a_eq]; rfl
    have count : beats = min (min 16 (160 - line.written)) ((4096 - a % 4096) / 16) := by rw [beats_eq, request, a_eq]; rfl
    rw [← address, beats_eq] at inside
    have enough : 16 * beats ≤ (line.data.drop (16 * line.written)).length := by rw [List.length_drop, len]; omega
    have wf : (s.fmc.setRotation n .ccp).wf = true := setRotation_wf safe
    refine ⟨by omega, by omega, by omega, by omega, ?_⟩
    have runs := exec_arbiterGrant_capture chosen claim head inside
    rw [address, ← beats_eq] at runs inside
    obtain ⟨answers, fixed, bad⟩ := writeFullBeats_answers wf aligned inside enough
    have moved := writeFullBeats_moved wf aligned inside enough
    rw [beginGrant_quiet answers fixed bad] at runs
    refine ⟨_, runs, fun i hi => ?_, moved.marks, fun b out => ?_, rfl, rfl, fun b hb => ?_⟩
    · have byte := readByte_writeFullBeats wf aligned inside enough hi
      rw [byte]
      simp [List.getD_eq_getElem?_getD]
    · obtain ⟨byte, mark⟩ := moved.outside b out
      rw [setRotation_cells] at byte
      rw [setRotation_mark] at mark
      exact ⟨byte, mark⟩
    · cases b <;> first | rfl | exact absurd (by simp) hb

end Sys2Proof.Machine
end

section
/-! The watched beats of the anchor page: how a WRITE hands them on, and what their owners do (R12, R42, R56, R157). -/

namespace Sys2Proof.Machine

/-! ## Handing on (R12) -/

theorem handWatched_eq (s : State) (a : Nat) (bytes : List Byte) : handWatched s a bytes = takeWatched s (a, bytes) := by
  unfold handWatched takeWatched Config.anchorBase
  dsimp only
  split
  · rfl
  · rfl
  · rfl
  · rfl
  · rfl
  · rfl
  · next n0 n1 n2 n3 n4 n5 =>
    rw [if_neg n0, if_neg n1, if_neg n2, if_neg n3, if_neg n4, if_neg n5]

/-- The beats written in full are handed on in ascending address order. -/
theorem handAll_eq (a : Nat) (elements : List DataElement) (s : State) :
    handAll a elements s = (fullWrites a elements).foldl takeWatched s := by
  induction elements generalizing a s with
  | nil => rfl
  | cons e rest ih =>
    unfold handAll fullWrites
    rw [ih]
    split
    · rw [List.foldl_cons, handWatched_eq]
    · rfl

theorem steady_handAll (a : Nat) (elements : List DataElement) (s : State) : Steady s (handAll a elements s) := by
  rw [handAll_eq]
  exact steady_foldl_takeWatched _ s

theorem handAll_partial {a : Nat} {elements : List DataElement} (part : ∀ e ∈ elements, e.mask ≠ fullMask) (s : State) :
    handAll a elements s = s := by
  induction elements generalizing a with
  | nil => rfl
  | cons e rest ih =>
    unfold handAll
    rw [if_neg (part e (List.mem_cons_self ..))]
    exact ih fun d hd => part d (List.mem_cons_of_mem _ hd)

/-- No beat from 0x1FFFF260 on is watched. -/
theorem handWatched_beyond {a : Nat} (beyond : a < 0x1FFFF200 ∨ 0x1FFFF260 ≤ a) (s : State) (bytes : List Byte) :
    handWatched s a bytes = s := by
  rw [handWatched_eq]
  unfold takeWatched Config.anchorBase
  repeat rw [if_neg (by omega)]

theorem handAll_beyond {a : Nat} (beyond : 0x1FFFF260 ≤ a) (elements : List DataElement) (s : State) : handAll a elements s = s := by
  induction elements generalizing a s with
  | nil => rfl
  | cons e rest ih =>
    unfold handAll
    rw [handWatched_beyond (.inr beyond), ite_self]
    exact ih (by omega) s

theorem handAll_full (a : Nat) (b : Beat) (rest : List DataElement) (s : State) :
    handAll a (⟨fullMask, b⟩ :: rest) s = handAll (a + 16) rest (handWatched s a (beatBytes b)) := rfl

section Anchor

variable {s : State} {p : HostRequest} {rest : List HostRequest}

/-- What a WRITE to the anchor page leaves before its watched beats are handed on, by the marked beats that its merges met. -/
def anchorStored (p : HostRequest) (s : State) : State :=
  reportHostBeats p (beatsFound s (requestBase p) p.elements.length (partialAt p) CheckState.isCorrectable)
    (beatsFound s (requestBase p) p.elements.length (partialAt p) fun c => decide (c = .uncorrectable)) (hostMoved p (requestBase p) s)

theorem AnchorWrite.inside (h : AnchorWrite s p rest) : requestBase p + 16 * p.elements.length ≤ Config.memoryEnd := by
  rw [elements_of_write h.takes.formed h.write]
  exact valid_inside h.takes.valid

theorem AnchorWrite.aligned (h : AnchorWrite s p rest) : requestBase p % 16 = 0 := (valid_bounds h.takes.valid).1

/-- A WRITE to the anchor page outside the status block is stored, and its watched beats are handed on (R12). -/
theorem AnchorWrite.runs (h : AnchorWrite s p rest) :
    exec .arbiterGrant s = .next (handAll (requestBase p) p.elements (anchorStored p s)) := by
  obtain ⟨-, corrected, poisoned⟩ := hostMove_finds h.write h.memory h.aligned h.inside
  have take : classify p s = .perform (requestBase p) none := by
    rw [classify_anchor h.takes.valid h.anchor]
    simp only [takeAnchor, h.write, h.spared]
    rfl
  rw [exec_arbiterGrant_performs h.takes take (valid_inside h.takes.valid) corrected poisoned, handAll_eq]
  unfold handOn
  rw [h.write]
  rfl

theorem anchorStored_fmc : (anchorStored p s).fmc = (hostMoved p (requestBase p) s).fmc := reported_fmc

/-- The bytes that a WRITE to the anchor page stores. -/
theorem AnchorWrite.stores (h : AnchorWrite s p rest) {j k : Nat} {e : DataElement} (at_j : p.elements[j]? = some e) (hk : k < 16)
    (enabled : e.mask.getLsbD k = true) :
    readByte (anchorStored p s).fmc.cells (requestBase p + 16 * j + k) = (beatBytes e.data).getD k 0 := by
  have moved := hostMove_writes h.write h.memory h.aligned h.inside
  rw [anchorStored_fmc, hostMoved_cells, moved.bytes j (List.getElem?_eq_some_iff.mp at_j).1 k hk, maskAt_hostBeats at_j,
    bytesAt_hostBeats at_j, writtenByte, if_pos enabled]

theorem AnchorWrite.spares (h : AnchorWrite s p rest) {a : Nat}
    (out : a < requestBase p ∨ requestBase p + 16 * p.elements.length ≤ a) :
    readByte (anchorStored p s).fmc.cells a = readByte s.fmc.cells a := by
  have moved := hostMove_writes h.write h.memory h.aligned h.inside
  rw [anchorStored_fmc, hostMoved_cells, (moved.outside a out).1, hostFmc, setRotation_cells]

/-- Where no merge meets a marked beat, FMC reports nothing and the response is OK. -/
theorem AnchorWrite.calm (h : AnchorWrite s p rest)
    (unmarked : ∀ j, j < p.elements.length → partialAt p j = true → s.fmc.mark (requestBase p + 16 * j) = .clean) :
    ChangesOnly [.fmc] s (anchorStored p s) ∧
    (anchorStored p s).fmc.busy = some ⟨.hostTake ⟨p.tag, .ok, []⟩, []⟩ := by
  obtain ⟨beats, corrected, poisoned⟩ := hostMove_calm h.write h.memory h.aligned h.inside unmarked
  obtain ⟨-, corrected', poisoned'⟩ := hostMove_finds h.write h.memory h.aligned h.inside
  have nowhere : ∀ {a : Nat} {places : List Nat}, addressesOf a places = addressesOf a [] → places = [] := fun same =>
    List.map_eq_nil_iff.mp same
  refine ⟨?_, by rw [anchorStored_fmc]; exact hostMoved_busy_write beats poisoned⟩
  unfold anchorStored
  rw [nowhere (corrected'.symm.trans corrected), nowhere (poisoned'.symm.trans poisoned)]
  exact hostMoved_changesOnly

end Anchor

/-! ## The request producer (R42) -/

/-- Raising RQE's claim leaves the ring and the entry alone. -/
theorem Rqe.raise_keeps (r : Rqe) : r.raise.producer = r.producer ∧ r.raise.consumer = r.consumer ∧ r.raise.entry = r.entry := by
  unfold Rqe.raise
  split <;> exact ⟨rfl, rfl, rfl⟩

/-- Without an entry to start, RQE's kick leaves the ring and the entry alone. -/
theorem Rqe.kick_resting {r : Rqe} (rests : r.mayStart = false) :
    r.kick.producer = r.producer ∧ r.kick.consumer = r.consumer ∧ r.kick.entry = r.entry := by
  have start : r.start = r := by rw [Rqe.start, rests]; rfl
  rw [Rqe.kick, start]
  exact r.raise_keeps

/-- With an entry to start, RQE fetches the one at consumer (R43). -/
theorem Rqe.kick_starting {r : Rqe} (starts : r.mayStart = true) :
    r.kick.producer = r.producer ∧ r.kick.consumer = r.consumer ∧ r.kick.entry = some ⟨r.consumer, .fetching⟩ ∧
    (r.claim = .idle → r.kick.claim = .waiting ⟨entryAddress r.consumer, 2⟩) := by
  have start : r.start = { r with entry := some ⟨r.consumer, .fetching⟩, fetched := [] } := by rw [Rqe.start, starts]; rfl
  obtain ⟨producer, consumer, entry⟩ := r.start.raise_keeps
  rw [start] at producer consumer entry
  rw [Rqe.kick, start]
  refine ⟨producer, consumer, entry, fun idle => ?_⟩
  unfold Rqe.raise
  dsimp only
  rw [idle]

theorem Rqe.kick_ring {r : Rqe} : r.kick.producer = r.producer ∧ r.kick.consumer = r.consumer := by
  cases starts : r.mayStart with
  | true => exact ⟨(kick_starting starts).1, (kick_starting starts).2.1⟩
  | false => exact ⟨(kick_resting starts).1, (kick_resting starts).2.1⟩

/-- A producer stands off consumer exactly when it is ahead by one or more. -/
theorem ne_iff_ahead (consumer value : Count) : consumer ≠ value ↔ 1 ≤ (value - consumer).toNat := by
  constructor
  · intro differs
    bv_omega
  · intro ahead
    bv_omega

theorem setRqe_changesOnly (r : Rqe) (s : State) : ChangesOnly [.rqe] s (setRqe r s) := fun b hb => by
  cases b <;> first | rfl | exact absurd (by simp) hb

theorem Rqe.accepts_iff (r : Rqe) (value : Count) :
    r.accepts value = true ↔ (r.entry ≠ none → 1 ≤ (value - r.consumer).toNat) ∧ (value - r.consumer).toNat ≤ 32 := by
  unfold Rqe.accepts
  cases r.entry <;> simp

theorem Rqe.isAhead_eq (r : Rqe) (value : Count) :
    r.isAhead value = decide (r.entry = none ∨ (33 ≤ (value - r.consumer).toNat ∧ (value - r.consumer).toNat ≤ 65503)) := by
  unfold Rqe.isAhead
  cases r.entry <;> simp

/-- What RQE makes of its producer beat. -/
theorem producerBeat_eq (bytes : List Byte) (s : State) :
    producerBeat bytes s =
      if s.rqe.held then s
      else if s.rqe.accepts (BitVec.ofNat 16 (get16 bytes 0)) then
        setRqe { s.rqe with producer := BitVec.ofNat 16 (get16 bytes 0) }.kick s
      else reportPlain .requestInvalid .request (.producer (s.rqe.isAhead (BitVec.ofNat 16 (get16 bytes 0)))
        (BitVec.ofNat 16 (get16 bytes 0)) s.rqe.producer s.rqe.consumer) s := rfl

section Producer

variable {bytes : List Byte} {s : State} {value : Count} {ahead : Nat}

/-- A held RQE discards its copy of the producer beat (R50). -/
theorem producerBeat_held (held : s.rqe.held = true) : producerBeat bytes s = s := by
  rw [producerBeat_eq, if_pos held]

theorem producerBeat_accepts (free : s.rqe.held = false) (value_eq : value = BitVec.ofNat 16 (get16 bytes 0))
    (ahead_eq : ahead = (value - s.rqe.consumer).toNat) (beyond : s.rqe.entry ≠ none → 1 ≤ ahead) (room : ahead ≤ 32) :
    producerBeat bytes s = setRqe { s.rqe with producer := value }.kick s := by
  have accepts : s.rqe.accepts value = true := (Rqe.accepts_iff _ _).mpr (by rw [← ahead_eq]; exact ⟨beyond, room⟩)
  rw [producerBeat_eq, ← value_eq, if_neg (by simp [free]), if_pos accepts]

/-- With no entry in execution, RQE starts one when the producer is ahead and no drain stands in the way (R42, R43). -/
theorem mayStart_withProducer (free : s.rqe.held = false) (resting : s.rqe.entry = none)
    (ahead_eq : ahead = (value - s.rqe.consumer).toNat) :
    ({ s.rqe with producer := value } : Rqe).mayStart = true ↔ 1 ≤ ahead ∧ s.rqe.drain = .none := by
  have behind : s.rqe.consumer ≠ value ↔ 1 ≤ ahead := by rw [ahead_eq]; exact ne_iff_ahead _ _
  simp [Rqe.mayStart, resting, free, behind]

/-- A producer that is neither 0 to 32 ahead nor beyond an entry in execution is reported (R42). -/
theorem producerBeat_refuses (free : s.rqe.held = false) (value_eq : value = BitVec.ofNat 16 (get16 bytes 0))
    (ahead_eq : ahead = (value - s.rqe.consumer).toNat)
    (bad : (s.rqe.entry = none ∧ 32 < ahead) ∨ (s.rqe.entry ≠ none ∧ (ahead = 0 ∨ 32 < ahead))) :
    producerBeat bytes s = report ⟨.requestInvalid, .request,
      .producer (decide (s.rqe.entry = none ∨ (33 ≤ ahead ∧ ahead ≤ 65503))) value s.rqe.producer s.rqe.consumer, none⟩ s := by
  have refuses : ¬ s.rqe.accepts value = true := by
    rw [Rqe.accepts_iff, ← ahead_eq]
    rintro ⟨low, room⟩
    rcases bad with ⟨-, far⟩ | ⟨busy, zero | far⟩
    · omega
    · have := low busy
      omega
    · omega
  rw [producerBeat_eq, ← value_eq, if_neg (by simp [free]), if_neg refuses, Rqe.isAhead_eq, ← ahead_eq]
  rfl

end Producer

/-! ## The audio producer (R157) -/

/-- Two states of AOP with the same rings and the same blocks ahead. -/
def RingsKept (o o' : Aop) : Prop := ∀ y : Channel,
  (o'.channels.get y).producer = (o.channels.get y).producer ∧ (o'.channels.get y).consumer = (o.channels.get y).consumer ∧
    (o'.channels.get y).ahead = (o.channels.get y).ahead

theorem RingsKept.trans {o o' o'' : Aop} (h : RingsKept o o') (k : RingsKept o' o'') : RingsKept o o'' := fun y => by
  obtain ⟨producer, consumer, ahead⟩ := h y
  obtain ⟨producer', consumer', ahead'⟩ := k y
  exact ⟨producer'.trans producer, consumer'.trans consumer, ahead'.trans ahead⟩

/-- Replacing a channel's fetch keeps the rings. -/
theorem ringsKept_fetch (o : Aop) (x : Channel) (f : Option AudioFetch) (c : Claim) :
    RingsKept o { o with channels := o.channels.set x { o.channels.get x with fetch := f }, claim := c } := fun y => by
  dsimp only
  rw [PerChannel.get_set]
  split
  · next same => rw [same]; exact ⟨rfl, rfl, rfl⟩
  · exact ⟨rfl, rfl, rfl⟩

theorem ringsKept_giveUp (o : Aop) (x : Channel) : RingsKept o (o.giveUp x) := by
  unfold Aop.giveUp
  dsimp only
  split
  · exact fun _ => ⟨rfl, rfl, rfl⟩
  · exact ringsKept_fetch o x _ _
  · exact ringsKept_fetch o x _ _

theorem ringsKept_aopKick (s : State) : RingsKept s.aop (aopKick s).aop := by
  unfold aopKick
  split
  · exact fun _ => ⟨rfl, rfl, rfl⟩
  · split
    · exact fun _ => ⟨rfl, rfl, rfl⟩
    · exact ringsKept_fetch s.aop _ _ _
  · exact fun _ => ⟨rfl, rfl, rfl⟩

/-- A channel with a new producer: the blocks ahead that are still in the ring stay. -/
def AudioChannel.withProducer (c : AudioChannel) (value : Count) : AudioChannel :=
  { c with
    producer := value
    ahead := c.ahead.filter fun b => decide ((b.index - c.consumer).toNat < (value - c.consumer).toNat) }

theorem ringsKept_takeProducer (o : Aop) (x : Channel) (value : Count) :
    RingsKept { o with channels := o.channels.set x ((o.channels.get x).withProducer value) } (o.takeProducer x value) := by
  unfold Aop.takeProducer
  dsimp only
  split
  · split
    · exact fun _ => ⟨rfl, rfl, rfl⟩
    · exact ringsKept_giveUp _ x
  · exact fun _ => ⟨rfl, rfl, rfl⟩

theorem setAop_changesOnly (o : Aop) (s : State) : ChangesOnly [.aop, .stw] s (setAop o s) := fun b hb => by
  unfold setAop
  split <;> cases b <;> first | rfl | exact absurd (by simp) hb

/-- A producer that S6 mirrors changes (R162). -/
theorem setAop_marks {o : Aop} {s : State} {x : Channel} (moved : (o.channels.get x).producer ≠ (s.aop.channels.get x).producer) :
    (setAop o s).stw.dirty.has .s6 = true := by
  have differs : o.shown ≠ s.aop.shown := fun same => moved (by
    have producers := congrArg AopShown.producers same
    simp only [Aop.shown, Prod.mk.injEq] at producers
    cases x with
    | a => exact producers.1
    | b => exact producers.2)
  unfold setAop
  rw [if_neg differs]
  simp

/-- What AOP makes of an accepted producer (R157). -/
theorem audioProducerBeat_accepts {x : Channel} {bytes : List Byte} {s : State} {r : Region} (free : s.aop.held = false)
    (row : audioRow x s.lyu.committed = some r)
    (room : (BitVec.ofNat 16 (get16 bytes 0) - (s.aop.channels.get x).consumer).toNat ≤ 4 * r.pages) :
    audioProducerBeat x bytes s = aopKick (setAop (s.aop.takeProducer x (BitVec.ofNat 16 (get16 bytes 0))) s) := by
  have capacity : audioCapacity x s.lyu.committed = 4 * r.pages := by rw [audioCapacity, row]; rfl
  unfold audioProducerBeat producerOf
  dsimp only
  rw [if_neg (by simp [free, row]), capacity, if_pos room]

theorem audioProducerBeat_refuses {x : Channel} {bytes : List Byte} {s : State} {r : Region} (free : s.aop.held = false)
    (row : audioRow x s.lyu.committed = some r)
    (full : 4 * r.pages < (BitVec.ofNat 16 (get16 bytes 0) - (s.aop.channels.get x).consumer).toNat) :
    audioProducerBeat x bytes s = report ⟨.requestInvalid, .audio, .audioProducer x (BitVec.ofNat 16 (get16 bytes 0))
      (s.aop.channels.get x).producer (s.aop.channels.get x).consumer, none⟩ s := by
  have capacity : audioCapacity x s.lyu.committed = 4 * r.pages := by rw [audioCapacity, row]; rfl
  unfold audioProducerBeat producerOf
  dsimp only
  rw [if_neg (by simp [free, row]), capacity, if_neg (Nat.not_le.mpr full)]
  rfl

/-- The rings once a producer is accepted (R157). -/
theorem ringsKept_accepted (x : Channel) (value : Count) (s : State) :
    RingsKept { s.aop with channels := s.aop.channels.set x ((s.aop.channels.get x).withProducer value) }
      (aopKick (setAop (s.aop.takeProducer x value) s)).aop := by
  have kicked := ringsKept_aopKick (setAop (s.aop.takeProducer x value) s)
  rw [setAop_aop] at kicked
  exact (ringsKept_takeProducer s.aop x value).trans kicked

/-! ## The UI base (R56) -/

/-- What DEN-C makes of its UI base beat: NONE, a plane that ends below the anchor page, or a report (R56). -/
theorem uiBaseBeat_takes (bytes : List Byte) (s : State) :
    ((engine .c s).held = true → uiBaseBeat bytes s = s) ∧
    ((engine .c s).held = false → get8 bytes 0 = 0 → uiBaseBeat bytes s = { s with den := { s.den with uiPending := none } }) ∧
    ((engine .c s).held = false → get8 bytes 0 = 1 → get32 bytes 4 + 1350 ≤ 0x1FFFF →
      uiBaseBeat bytes s = { s with den := { s.den with uiPending := some (get32 bytes 4) } }) ∧
    ((engine .c s).held = false → 1 < get8 bytes 0 ∨ (get8 bytes 0 = 1 ∧ 0x1FFFF < get32 bytes 4 + 1350) →
      uiBaseBeat bytes s = report ⟨.requestInvalid, .panelC, .uiBase (BitVec.ofNat 32 (get32 bytes 4)), none⟩ s) := by
  have planes : uiPlanePages = 1350 := rfl
  have anchor : Config.anchorPage = 0x1FFFF := rfl
  unfold uiBaseBeat
  dsimp only
  rw [planes, anchor]
  refine ⟨fun held => by rw [if_pos held], fun free zero => ?_, fun free one fits => ?_, fun free bad => ?_⟩
  · rw [if_neg (by simp [free]), if_pos zero]
  · rw [if_neg (by simp [free]), if_neg (by omega), if_pos ⟨one, fits⟩]
  · rw [if_neg (by simp [free]), if_neg (by omega), if_neg (by omega)]
    rfl

/-! ## The watched beats -/

/-- Settles O47: a WRITE to the anchor page stores its bytes and hands its full watched beats on in order; then each owner by its cases. -/
theorem watchedBeatsAreTaken : Obligations.WatchedBeatsAreTaken := by
  refine ⟨fun s p rest b write one => ?_, fun s p rest b0 b1 b2 b3 b4 b5 more write base all full => ?_,
    fun s p rest write part clean => ?_, fun s p rest write => ?_, fun bytes s t value ahead t_eq value_eq ahead_eq => ?_,
    fun bytes s t page t_eq page_eq => ?_, fun x bytes s t value row t_eq value_eq row_eq => ?_⟩
  · have full : ∀ e ∈ p.elements, e.mask = fullMask := by simp [one]
    obtain ⟨alone, busy⟩ := write.calm (unmarked_of_full full)
    have hands : handAll (requestBase p) p.elements (anchorStored p s) =
        handWatched (anchorStored p s) (requestBase p) (beatBytes b) := by rw [one]; rfl
    refine ⟨anchorStored p s, _, write.runs, alone, (steady_handAll _ _ _).fmc, fun k hk => ?_, fun a out => ?_, busy, ?_⟩
    · have first : p.elements[0]? = some ⟨fullMask, b⟩ := by rw [one]; rfl
      exact write.stores first hk (fullMask_getLsbD hk)
    · exact write.spares (by rw [one]; exact out)
    · rw [hands]
      refine ⟨?_, ?_, ?_, ?_, ?_, ?_, fun beyond => handWatched_beyond beyond _ _⟩ <;> (intro here; rw [here]; rfl)
  · have wholes : ∀ e ∈ p.elements, e.mask = fullMask := fun e he => by
      rw [all] at he
      rcases List.mem_append.mp he with six | later
      · simp only [List.mem_cons, List.not_mem_nil, or_false] at six
        rcases six with rfl | rfl | rfl | rfl | rfl | rfl <;> rfl
      · exact full e later
    refine ⟨anchorStored p s, _, write.runs, (write.calm (unmarked_of_full wholes)).1, (steady_handAll _ _ _).fmc,
      fun j k e at_j hk => ?_, ?_⟩
    · rw [← base]
      refine write.stores at_j hk ?_
      rw [wholes e (List.mem_of_getElem? at_j)]
      exact fullMask_getLsbD hk
    · simp only [all, base, List.cons_append, List.nil_append, handAll_full, handWatched, Nat.reduceAdd]
      exact handAll_beyond (Nat.le_refl _) more _
  · obtain ⟨alone, -⟩ := write.calm fun j hj _ => clean j hj
    refine ⟨_, write.runs, ?_⟩
    rw [handAll_partial part]
    exact alone
  · refine ⟨anchorStored p s, _, write.runs, reported_reportsBeside, (steady_handAll _ _ _).fmc, fun j k e at_j hk enabled => ?_,
      fun a out => write.spares out, fun clean => (write.calm fun j hj _ => clean j hj).1, rfl⟩
    exact write.stores at_j hk enabled
  · subst t_eq
    refine ⟨producerBeat_held, fun free resting room => ?_, fun free busy low room => ?_, fun free bad => ?_⟩
    · have starts := mayStart_withProducer free resting ahead_eq
      rw [producerBeat_accepts free value_eq ahead_eq (fun busy => absurd resting busy) room]
      refine ⟨Rqe.kick_ring.1, Rqe.kick_ring.2, setRqe_changesOnly _ s, fun rests => ?_, fun low idle => ?_⟩
      · have still : ({ s.rqe with producer := value } : Rqe).mayStart = false := Bool.eq_false_iff.mpr fun go => by
          obtain ⟨low, idle⟩ := starts.mp go
          exact rests.elim (by omega) (absurd idle)
        rw [setRqe_rqe, (Rqe.kick_resting still).2.2]
        exact resting
      · exact (Rqe.kick_starting (starts.mpr ⟨low, idle⟩)).2.2
    · have still : ({ s.rqe with producer := value } : Rqe).mayStart = false := by
        simp [Rqe.mayStart, Option.isNone_eq_false_iff.mpr (Option.isSome_iff_ne_none.mpr busy)]
      rw [producerBeat_accepts free value_eq ahead_eq (fun _ => low) room]
      obtain ⟨producer, consumer, entry⟩ := Rqe.kick_resting still
      exact ⟨producer, consumer, entry, setRqe_changesOnly _ s⟩
    · rw [producerBeat_refuses free value_eq ahead_eq bad]
      exact ⟨report_rqe s _, .of_reports (report_changesOnly _ s), rfl⟩
  · subst t_eq page_eq
    exact uiBaseBeat_takes bytes s
  · subst t_eq value_eq
    have row' : audioRow x s.lyu.committed = row := by rw [row_eq]; cases x <;> rfl
    refine ⟨fun idle => ?_, fun r free present => ⟨fun room => ?_,
      fun full => audioProducerBeat_refuses free (row'.trans present) full⟩⟩
    · unfold audioProducerBeat
      dsimp only
      rw [if_pos]
      rw [row', Option.isNone_iff_eq_none]
      exact idle
    · rw [audioProducerBeat_accepts free (row'.trans present) room]
      have rings := ringsKept_accepted x (BitVec.ofNat 16 (get16 bytes 0)) s
      have own := rings x
      simp only [PerChannel.get_set_same, AudioChannel.withProducer] at own
      refine ⟨own.1, own.2.1, own.2.2, fun y other => ?_, fun moved => ?_, ?_⟩
      · have others := rings y
        simp only [PerChannel.get_set_other _ _ other] at others
        exact others
      · have kick := aopKick_changesOnly (setAop (s.aop.takeProducer x (BitVec.ofNat 16 (get16 bytes 0))) s) .stw (by simp)
        have taken := (ringsKept_takeProducer s.aop x (BitVec.ofNat 16 (get16 bytes 0)) x).1
        simp only [PerChannel.get_set_same, AudioChannel.withProducer] at taken
        simp only [Block.kept] at kick
        rw [kick]
        exact setAop_marks (x := x) (by rw [taken]; exact moved)
      · exact (setAop_changesOnly _ s).trans ((aopKick_changesOnly _).mono (by simp))

end Sys2Proof.Machine
end

section
/-! SUPPORT. Work that unmarks no section and leaves the ring's entry in place, block by block; then the requests of the view, the guide
bank and the chime stop at their dispatch (R109, R111, R113, R114, R133, R150). -/

namespace Sys2Proof.Machine

/-! ## Work within blocks -/

/-- Work that changes some blocks only, unmarks no section of the status block, and leaves the ring's indices and its entry's index. -/
structure Works (blocks : List Block) (s t : State) : Prop where
  only : ChangesOnly blocks s t
  marks : ∀ k : StatusSection, s.stw.dirty.has k = true → t.stw.dirty.has k = true
  consumer : t.rqe.consumer = s.rqe.consumer
  producer : t.rqe.producer = s.rqe.producer
  entry : ∀ (index : Count) (phase : EntryPhase), s.rqe.entry = some ⟨index, phase⟩ →
    ∃ after : EntryPhase, t.rqe.entry = some ⟨index, after⟩

theorem Works.refl (blocks : List Block) (s : State) : Works blocks s s :=
  ⟨.refl _ s, fun _ => id, rfl, rfl, fun _ phase entry => ⟨phase, entry⟩⟩

/-- Work in some blocks and then in others is work in any blocks that hold them all. -/
theorem Works.seq {first second blocks : List Block} {s t u : State} (h : Works first s t) (k : Works second t u)
    (sub : first ⊆ blocks := by simp) (sub' : second ⊆ blocks := by simp) : Works blocks s u where
  only := (h.only.mono sub).trans (k.only.mono sub')
  marks := fun section_ marked => k.marks section_ (h.marks section_ marked)
  consumer := k.consumer.trans h.consumer
  producer := k.producer.trans h.producer
  entry := fun index phase entry => by
    obtain ⟨after, entry'⟩ := h.entry index phase entry
    exact k.entry index after entry'

/-- Work that touches neither STW nor RQE. -/
theorem Works.of_only {blocks : List Block} {s t : State} (only : ChangesOnly blocks s t) (stw : t.stw = s.stw) (rqe : t.rqe = s.rqe) :
    Works blocks s t :=
  ⟨only, fun _ marked => by rw [stw]; exact marked, by rw [rqe], by rw [rqe], fun _ phase entry => ⟨phase, by rw [rqe]; exact entry⟩⟩

section Operations

variable (s : State)

theorem works_withRvc (r : Rvc) : Works [.rvc] s { s with rvc := r } :=
  .of_only (fun b hb => by cases b <;> first | rfl | exact absurd (by simp) hb) rfl rfl

theorem works_withFlt (f : Flt) : Works [.flt] s { s with flt := f } :=
  .of_only (fun b hb => by cases b <;> first | rfl | exact absurd (by simp) hb) rfl rfl

theorem works_withPdu (p : Pdu) : Works [.pdu] s { s with pdu := p } :=
  .of_only (fun b hb => by cases b <;> first | rfl | exact absurd (by simp) hb) rfl rfl

theorem works_withChu (c : Chu) : Works [.chu] s { s with chu := c } :=
  .of_only (fun b hb => by cases b <;> first | rfl | exact absurd (by simp) hb) rfl rfl

theorem works_withAop (o : Aop) : Works [.aop] s { s with aop := o } :=
  .of_only (fun b hb => by cases b <;> first | rfl | exact absurd (by simp) hb) rfl rfl

theorem works_withGdu (g : Gdu) (w : Wdc) : Works [.gdu, .wdc] s { s with gdu := g, wdc := w } :=
  .of_only (fun b hb => by cases b <;> first | rfl | exact absurd (by simp) hb) rfl rfl

theorem works_setMnu (m : Mnu) : Works [.mnu] s (setMnu m s) :=
  .of_only (fun b hb => by cases b <;> first | rfl | exact absurd (by simp) hb) rfl rfl

theorem works_setCcp (c : Ccp) : Works [.ccp] s (setCcp c s) :=
  .of_only (fun b hb => by cases b <;> first | rfl | exact absurd (by simp) hb) rfl rfl

theorem works_markDirty (k : StatusSection) : Works [.stw] s (markDirty k s) where
  only := markDirty_changesOnly k s
  marks := fun j marked => by rw [markDirty_has, marked, Bool.true_or]
  consumer := rfl
  producer := rfl
  entry := fun _ phase entry => ⟨phase, entry⟩

theorem works_giveResult (code : ResultCode) : Works [.rqe, .stw] s (giveResult code s) where
  only := giveResult_changesOnly code s
  marks := fun j marked => by rw [giveResult_dirty]; exact marked
  consumer := by unfold giveResult; split <;> rfl
  producer := by unfold giveResult; split <;> rfl
  entry := fun index phase entry => ⟨.writingResult, (giveResult_answered entry).2.1⟩

theorem works_setRvc (r : Rvc) : Works [.rvc, .stw] s (setRvc r s) := by
  unfold setRvc
  split
  · exact (works_withRvc s r).seq (.refl [] _)
  · exact (works_withRvc s r).seq (works_markDirty _ _)

theorem works_raiseCause (c : Cause) : Works [.flt, .stw] s (raiseCause c s) := by
  unfold raiseCause setCauses
  split
  · exact .refl _ s
  · exact (works_withFlt s _).seq (works_markDirty _ _)

theorem works_setChu (c : Chu) : Works [.chu, .stw] s (setChu c s) := by
  unfold setChu
  split
  · exact (works_withChu s c).seq (.refl [] _)
  · exact (works_withChu s c).seq (works_markDirty _ _)

theorem works_setAop (o : Aop) : Works [.aop, .stw] s (setAop o s) := by
  unfold setAop
  split
  · exact (works_withAop s o).seq (.refl [] _)
  · exact (works_withAop s o).seq (works_markDirty _ _)

theorem works_setGdu (g : Gdu) : Works [.gdu, .wdc, .stw] s (setGdu g s) := by
  unfold setGdu
  dsimp only
  split
  · exact (works_withGdu s g _).seq (.refl [] _)
  · exact (works_withGdu s g _).seq (works_markDirty _ _)

theorem works_setChannel (x : Channel) (r : FilmChannel) : Works [.fsq, .stw] s (setChannel x r s) := by
  have with_ : ∀ f : PerChannel FilmChannel, Works [.fsq] s { s with fsq := f } := fun f =>
    .of_only (fun b hb => by cases b <;> first | rfl | exact absurd (by simp) hb) rfl rfl
  unfold setChannel
  split
  · exact .refl _ s
  · exact (with_ _).seq (works_markDirty _ _)

theorem works_chimeEvent (e : ChimeEvent) : Works [.chu, .stw] s (chimeEvent e s) := by
  unfold chimeEvent
  repeat' split
  · exact .refl _ s
  · exact .refl _ s
  · exact works_setChu s _

theorem works_takeAction (a : FaultAction) : Works [.stw, .flt, .fsq, .chu] s (takeAction a s) := by
  cases a with
  | quiet => exact .refl _ s
  | signal => exact (works_raiseCause s _).seq (.refl [] _)
  | safe =>
    unfold takeAction
    dsimp only
    split
    · exact .refl _ s
    · refine Works.seq (first := [.stw, .flt, .fsq]) ?_ (works_chimeEvent _ _)
      refine Works.seq (first := [.stw, .flt]) ?_ ((works_setChannel _ _ _).seq (works_setChannel _ _ _) (blocks := [.fsq, .stw]))
      refine Works.seq (first := [.stw, .flt]) ?_ (works_markDirty _ _)
      exact (works_raiseCause s _).seq (works_withFlt _ _)

theorem works_report (r : Report) : Works [.stw, .flt, .fsq, .chu] s (report r s) := by
  unfold report
  dsimp only
  split
  · exact .refl _ s
  · have recorded : ∀ f : Flt, Works [.flt, .stw] s (markDirty .s7 { s with flt := f }) := fun f =>
      (works_withFlt s f).seq (works_markDirty _ _)
    split
    · exact (recorded _).seq (.refl [] _)
    · exact (recorded _).seq (works_takeAction _ _)

/-! ### What the view's notices do (R112, R125, R132, R139, R142) -/

theorem works_staleCheck : Works [.gdu, .stw, .flt, .fsq, .chu] s (staleCheck s) := by
  have with_ : ∀ g : Gdu, Works [.gdu] s { s with gdu := g } := fun g =>
    .of_only (fun b hb => by cases b <;> first | rfl | exact absurd (by simp) hb) rfl rfl
  unfold staleCheck
  split
  · exact (with_ _).seq (works_report _ _)
  · exact .refl _ s

theorem works_guideViewNotice (before after : View) :
    Works [.gdu, .wdc, .stw, .flt, .fsq, .chu] s (guideViewNotice before after s) := by
  unfold guideViewNotice
  repeat' split
  · exact .refl _ s
  · refine Works.seq (first := [.gdu, .wdc, .stw]) ?_ (works_staleCheck _)
    exact (works_setGdu s _).seq (works_markDirty _ _)
  · exact (works_setGdu s _).seq (works_markDirty _ _)
  · exact .refl _ s

theorem works_parkViewNotice (after : View) : Works [.pdu, .stw] s (parkViewNotice after s) := by
  unfold parkViewNotice
  dsimp only
  split
  · exact .refl _ s
  · exact (works_withPdu s _).seq (works_markDirty _ _)

theorem works_chuViewNotice (before after : View) : Works [.chu, .stw] s (chuViewNotice before after s) := by
  unfold chuViewNotice
  split
  · exact works_setChu s _
  · exact .refl _ s

theorem works_handView (before : View) : Works [.gdu, .wdc, .pdu, .stw, .flt, .fsq, .chu] s (handView before s) := by
  unfold handView
  exact ((works_guideViewNotice s _ _).seq (works_parkViewNotice _ _) (blocks := [.gdu, .wdc, .pdu, .stw, .flt, .fsq, .chu])).seq
    (works_chuViewNotice _ _ _)

theorem works_startCapture : Works [.ccp, .stw] s (startCapture s) := by
  unfold startCapture
  split
  · exact .refl _ s
  · exact (works_setCcp s _).seq (works_markDirty _ _)

theorem works_stopCapture : Works [.ccp, .stw] s (stopCapture s) := (works_setCcp s _).seq (works_markDirty _ _)

/-! ### What a layout apply does (R29) -/

theorem works_dropMenuFetch (purpose : MenuPurpose) : Works [.mnu] s (dropMenuFetch purpose s) := by
  unfold dropMenuFetch
  repeat' split
  · exact works_setMnu s _
  · exact .refl _ s
  · exact .refl _ s

theorem works_setNotices (service cameraLost : NoticeCache) : Works [.mnu, .stw] s (setNotices service cameraLost s) := by
  unfold setNotices
  dsimp only
  split
  · exact (works_setMnu s _).seq (.refl [] _)
  · exact (works_setMnu s _).seq (works_markDirty _ _)

theorem works_refillNotices : Works [.mnu, .stw] s (refillNotices s) := by
  unfold refillNotices
  exact ((works_dropMenuFetch s _).seq (works_dropMenuFetch _ _) (blocks := [.mnu])).seq (works_setNotices _ _ _)

theorem works_withdrawMenuRequest : Works [.mnu] s (withdrawMenuRequest s) := by
  unfold withdrawMenuRequest
  repeat' split
  · exact works_setMnu s _
  · exact .refl _ s
  · exact works_dropMenuFetch s _
  · exact .refl _ s

theorem works_answerMenu (code : ResultCode) : Works [.mnu, .stw, .rqe] s (answerMenu code s) := by
  unfold answerMenu
  exact ((works_setMnu s _).seq (works_markDirty _ _) (blocks := [.mnu, .stw])).seq (works_giveResult _ _)

theorem works_applyMenuRequest : Works [.mnu, .stw, .rqe] s (applyMenuRequest s) := by
  unfold applyMenuRequest
  dsimp only
  repeat' split
  · exact .refl _ s
  · exact (works_withdrawMenuRequest s).seq (.refl [] _)
  · exact (works_withdrawMenuRequest s).seq (works_answerMenu _ _)
  · exact (works_withdrawMenuRequest s).seq (works_answerMenu _ _)

theorem works_beginMenuFetch (purpose : MenuPurpose) : Works [.mnu, .stw] s (beginMenuFetch purpose s) := by
  unfold beginMenuFetch
  split
  · exact .refl _ s
  · exact (works_setMnu s _).seq (works_markDirty _ _)
  · exact (works_setMnu s _).seq (works_markDirty _ _)
  · exact (works_setMnu s _).seq (.refl [] _)

theorem works_menuKick : Works [.mnu, .stw] s (menuKick s) := by
  unfold menuKick
  split
  · split
    · exact .refl _ s
    · exact (works_beginMenuFetch s _).seq (works_setMnu _ _)
  · exact .refl _ s

theorem works_menuApply : Works [.mnu, .stw, .rqe] s (menuApply s) := by
  unfold menuApply
  dsimp only
  refine Works.seq (first := [.mnu, .stw, .rqe]) ?_ (works_menuKick _)
  refine Works.seq (first := [.mnu, .stw]) ?_ (works_applyMenuRequest _)
  refine Works.seq (first := [.mnu, .stw]) ?_ (works_refillNotices _)
  refine Works.seq (first := [.mnu]) ?_ (works_markDirty _ _)
  refine Works.seq (first := [.mnu]) ?_ (works_setMnu _ _)
  exact ((works_dropMenuFetch s _).seq (works_dropMenuFetch _ _) (blocks := [.mnu])).seq (works_dropMenuFetch _ _)

theorem works_guideApply : Works [.gdu, .wdc, .stw] s (guideApply s) := (works_setGdu s _).seq (works_markDirty _ _)

theorem works_aopKick : Works [.aop] s (aopKick s) :=
  .of_only (aopKick_changesOnly s) (aopKick_changesOnly s .stw (by simp)) (aopKick_changesOnly s .rqe (by simp))

theorem works_audioStop (x : Channel) : Works [.aop, .stw] s (audioStop x s) := by
  unfold audioStop
  exact ((works_setAop s _).seq (works_markDirty _ _) (blocks := [.aop, .stw])).seq (works_aopKick _)

/-- What the blocks that depend on the layout do when it has been replaced (R29). -/
theorem works_applied :
    Works [.gdu, .wdc, .mnu, .rqe, .chu, .aop, .stw] s (markDirty .s0 (audioApply (chimeApply (guideApply (menuApply s))))) := by
  refine Works.seq (first := [.gdu, .wdc, .mnu, .rqe, .chu, .aop, .stw]) ?_ (works_markDirty _ _)
  refine Works.seq (first := [.gdu, .wdc, .mnu, .rqe, .chu, .aop, .stw]) ?_ (works_audioStop _ _)
  refine Works.seq (first := [.gdu, .wdc, .mnu, .rqe, .chu, .stw]) ?_ (works_audioStop _ _)
  refine Works.seq (first := [.gdu, .wdc, .mnu, .rqe, .stw]) ?_ (works_setChu _ _)
  exact (works_menuApply s).seq (works_guideApply _)

end Operations

end Sys2Proof.Machine
end

section
/-! The requests of the view, the guide bank and the chime stop at their dispatch (R109, R111, R113, R114, R133, R150). -/

namespace Sys2Proof.Machine

/-! ## The dispatch of a fetched entry (R45) -/

/-- The state in which a request acts: its grant has ended, and its entry is with its owner. -/
def dispatchState (e : List Byte) (s : State) : State :=
  enterPhase .withOwner (setRqe { s.rqe with claim := .idle, fetched := e } (freeFmc s))

theorem dispatchState_changesOnly (e : List Byte) (s : State) : ChangesOnly [.fmc, .rqe] s (dispatchState e s) := fun b hb => by
  cases b <;> first | rfl | exact absurd (by simp) hb

section Dispatch

variable {s u : State} {index : Count} {e : List Byte} {code : ResultCode} {blocks : List Block}

theorem exec_entryFetchComplete (h : EntryFetched s index e) :
    exec .entryFetchComplete s =
      .next (checkDrain (judgeEntry index e (setRqe { s.rqe with claim := .idle, fetched := e } (freeFmc s)))) := by
  obtain ⟨⟨beats, busy, sound, rfl⟩, claim, entry, -⟩ := h
  simp only [exec, execEntryFetchComplete, busy, entryFetched, freeFmc_rqe, claim, entry, sound, Claim.live]
  rfl

/-- An entry of a known kind, open to the source, goes to its owner (R45). -/
theorem judgeEntry_dispatches {v : State} {r : State × Option ResultCode} (known : knownKind (get16 e 0) = true)
    (open_ : v.lyu.source = .host ∨ ungatedKind (get16 e 0) = true)
    (dispatch : dispatchKind (get16 e 0) e (enterPhase .withOwner v) = some r) : judgeEntry index e v = finishDispatch r := by
  have gate : ¬ (v.lyu.source = .default ∧ ungatedKind (get16 e 0) = false) := by
    rintro ⟨default, gated⟩
    rcases open_ with host | ungated
    · rw [default] at host
      cases host
    · rw [gated] at ungated
      cases ungated
  unfold judgeEntry
  dsimp only
  rw [if_neg (by rw [known]; decide), if_neg gate, dispatch]

/-- A request that its owner answers at once: the result is handed to the status writer (R45, R46). -/
theorem exec_dispatch (h : EntryFetched s index e) (known : knownKind (get16 e 0) = true)
    (open_ : s.lyu.source = .host ∨ ungatedKind (get16 e 0) = true)
    (dispatch : dispatchKind (get16 e 0) e (dispatchState e s) = some (u, some code)) (work : Works blocks (dispatchState e s) u)
    (calm : u.lyu.phase = s.lyu.phase) :
    exec .entryFetchComplete s = .next (giveResult code u) ∧ Answered code index s (giveResult code u) := by
  have entry : (dispatchState e s).rqe.entry = some ⟨index, .withOwner⟩ := by
    simp only [dispatchState, enterPhase, setRqe, h.entry, Option.map_some]
  constructor
  · have rests : NotDraining (giveResult code u) := by
      have calm' := h.calm
      rw [NotDraining, giveResult_lyu, calm]
      exact calm'
    rw [exec_entryFetchComplete h, judgeEntry_dispatches known (by exact open_) dispatch]
    exact congrArg Host.Outcome.next (checkDrain_of_notDraining _ rests)
  · obtain ⟨after, entry'⟩ := work.entry index .withOwner entry
    obtain ⟨result, entry'', consumer, producer⟩ := giveResult_answered (code := code) entry'
    exact ⟨result, entry'', consumer.trans work.consumer, producer.trans work.producer⟩

/-- A request that acts within some blocks. -/
theorem dispatch_changesOnly (work : Works blocks (dispatchState e s) u) :
    ChangesOnly ([.fmc, .rqe, .stw] ++ blocks) s (giveResult code u) := by
  refine ((dispatchState_changesOnly e s).mono (by simp)).trans ((work.only.mono (List.subset_append_right _ _)).trans ?_)
  exact (giveResult_changesOnly code u).mono (by simp)

end Dispatch

/-! ## The host's request for the view (R109) -/

/-- RVC with the host's request. -/
def askView (on : Bool) (s : State) : State := setRvc { s.rvc with hostRequest := on } s

theorem works_askView (on : Bool) (s : State) : Works [.rvc, .stw] s (askView on s) := works_setRvc s _

theorem askView_rvc (on : Bool) (s : State) : (askView on s).rvc = { s.rvc with hostRequest := on } := setRvc_rvc s _

/-- A request that stands already marks nothing (R126). -/
theorem askView_same {on : Bool} {s : State} (same : s.rvc.hostRequest = on) : (askView on s).stw = s.stw := by
  refine setRvc_stw_same ?_
  rw [← same]

/-- A request that is new marks S3 (R126). -/
theorem askView_marks {on : Bool} {s : State} (new : s.rvc.hostRequest ≠ on) : (askView on s).stw.dirty.has .s3 = true := by
  have differs : ({ s.rvc with hostRequest := on } : Rvc).shown ≠ s.rvc.shown := fun same =>
    new (congrArg RvcShown.hostRequest same).symm
  rw [askView, setRvc_has]
  simp [differs]

/-- RVC's state changed from one view to another marks S3 (R109). -/
theorem setRvc_view_marks {r : Rvc} {s : State} (moved : r.view ≠ s.rvc.view) : (setRvc r s).stw.dirty.has .s3 = true := by
  have differs : r.shown ≠ s.rvc.shown := fun same => moved (congrArg RvcShown.view same)
  rw [setRvc_has]
  simp [differs]

theorem evaluateDemand_engaged {cause : EngageCause} {s : State} (view : s.rvc.view = .engaged) (asked : s.rvc.hostRequest = true) :
    evaluateDemand cause s = s := by
  simp only [evaluateDemand, view, Rvc.demand, asked, Bool.or_true]

theorem evaluateDemand_normal {cause : EngageCause} {s : State} (view : s.rvc.view = .normal) (asked : s.rvc.hostRequest = true) :
    evaluateDemand cause s = viewEngage cause s := by
  simp only [evaluateDemand, view, Rvc.demand, asked, Bool.or_true]

theorem evaluateDemand_hold {cause : EngageCause} {s : State} (view : s.rvc.view = .hold) (asked : s.rvc.hostRequest = true) :
    evaluateDemand cause s = viewReengage cause s := by
  simp only [evaluateDemand, view, Rvc.demand, asked, Bool.or_true]

/-! ## The view begins (R109, R111, R115) -/

/-- RVC when the host engages the view from NORMAL (R111). -/
def hostEngaged (s : State) : Rvc :=
  { s.rvc with
    view := .engaged, engageCause := .host, health := .awaiting, recoveryCount := 0, lastGoodFrameNo := none,
    lostTimer := .stopped, firstFrameDeadline := .running (s.lyu.partTime + 250) }

/-- The view is engaged by the host (R111): capture begins, the neighbours are told, and REVERSE_CHANGED is raised. -/
theorem viewEngage_host {s : State} (normal : s.rvc.view = .normal) :
    Works [.rvc, .ccp, .gdu, .wdc, .pdu, .stw, .flt, .fsq, .chu] s (viewEngage .host s) ∧
    (viewEngage .host s).rvc = hostEngaged s ∧
    (viewEngage .host s).ccp.capturing = true ∧
    (viewEngage .host s).flt.causes.getLsbD Cause.reverseChanged.bit = true ∧
    (viewEngage .host s).stw.dirty.has .s3 = true := by
  have engages : viewEngage .host s = raiseCause .reverseChanged (handView .normal (startCapture (setRvc (hostEngaged s) s))) := rfl
  have marked : (setRvc (hostEngaged s) s).stw.dirty.has .s3 = true := setRvc_view_marks (by rw [normal]; exact View.noConfusion)
  have capturing : (startCapture (setRvc (hostEngaged s) s)).ccp.capturing = true := by
    unfold startCapture
    split
    · next already => exact already
    · rfl
  have after : Works [.gdu, .wdc, .pdu, .stw, .flt, .fsq, .chu] (startCapture (setRvc (hostEngaged s) s)) (viewEngage .host s) := by
    rw [engages]
    exact (works_handView _ _).seq (works_raiseCause _ _)
  have tail : Works [.ccp, .gdu, .wdc, .pdu, .stw, .flt, .fsq, .chu] (setRvc (hostEngaged s) s) (viewEngage .host s) :=
    (works_startCapture _).seq after
  refine ⟨(works_setRvc s _).seq tail, ?_, ?_, ?_, tail.marks _ marked⟩
  · exact (tail.only .rvc (by simp)).trans (setRvc_rvc s _)
  · rw [show (viewEngage .host s).ccp = (startCapture (setRvc (hostEngaged s) s)).ccp from after.only .ccp (by simp)]
    exact capturing
  · rw [engages, raiseCause_flt]
    exact causeJoin_has _ _

/-- From HOLD to ENGAGED, GDU and CHU take no notice and PDU takes one (R115, R132, R139). -/
theorem handView_reengage {s : State} (view : s.rvc.view = .engaged) : handView .hold s = parkViewNotice .engaged s := by
  simp only [handView, view]
  have guide : guideViewNotice .hold .engaged s = s := by
    unfold guideViewNotice
    rw [if_neg (show ¬ (View.hold = .normal ∧ View.engaged ≠ .normal) by decide),
      if_neg (show ¬ (View.hold ≠ .normal ∧ View.engaged = .normal) by decide), ite_self]
  rw [guide]
  unfold chuViewNotice
  rw [if_neg (by decide)]

/-- PDU becomes active in a view under a host's layout (R139). -/
theorem parkViewNotice_engaged {s : State} (free : s.pdu.held = false) (resting : s.pdu.active = false) (source : s.lyu.source = .host) :
    (parkViewNotice .engaged s).pdu.active = true ∧ (parkViewNotice .engaged s).pdu.distance = none := by
  unfold parkViewNotice
  dsimp only
  rw [if_neg (by simp [free, resting, source])]
  simp [Pdu.fresh, source, Pdu.reset]

/-- RVC when the host engages the view again from HOLD (R111). -/
def hostReengaged (s : State) : Rvc := { s.rvc with view := .engaged, engageCause := .host, holdTimer := .stopped }

/-- The view is re-engaged by the host from HOLD (R111). -/
theorem viewReengage_host {s : State} (hold : s.rvc.view = .hold) :
    Works [.rvc, .pdu, .stw] s (viewReengage .host s) ∧
    (viewReengage .host s).rvc = hostReengaged s ∧
    (s.pdu.held = false → s.pdu.active = false → s.lyu.source = .host →
      (viewReengage .host s).pdu.active = true ∧ (viewReengage .host s).pdu.distance = none) ∧
    (viewReengage .host s).stw.dirty.has .s3 = true := by
  have marked : (setRvc (hostReengaged s) s).stw.dirty.has .s3 = true := setRvc_view_marks (by rw [hold]; exact View.noConfusion)
  have reengages : viewReengage .host s = parkViewNotice .engaged (setRvc (hostReengaged s) s) :=
    handView_reengage (s := setRvc (hostReengaged s) s) (congrArg Rvc.view (setRvc_rvc s _))
  have parks := works_parkViewNotice (setRvc (hostReengaged s) s) .engaged
  rw [reengages]
  refine ⟨(works_setRvc s _).seq parks, (parks.only .rvc (by simp)).trans (setRvc_rvc s _), fun free resting source => ?_,
    parks.marks _ marked⟩
  exact parkViewNotice_engaged (by simpa using free) (by simpa using resting) (by simpa using source)

/-! ## The view ends (R113, R114, R30) -/

theorem normalEntryNotice_unstaged {s : State} (unstaged : s.lyu.layoutState ≠ .staged) : normalEntryNotice s = s := by
  unfold normalEntryNotice
  split
  · next staged _ => exact absurd staged unstaged
  · rfl

theorem normalEntryNotice_staged {s : State} {l : Layout} (state : s.lyu.layoutState = .staged) (staged : s.lyu.staged = some l) :
    normalEntryNotice s = raiseCause .layoutApplied (applyLayout l s) := by
  simp only [normalEntryNotice, state, staged]

/-- LYU and WDC with a layout committed, before the blocks that depend on it act (R29). -/
def committed (l : Layout) (s : State) : State :=
  setLyu { s.lyu with committed := l, source := .host, staged := none, layoutState := .configured }
    { s with wdc := { s.wdc with map := l.map } }

/-- A layout apply commits the layout and has the blocks that depend on it act (R29). -/
theorem applyLayout_works (l : Layout) (s : State) :
    Works [.gdu, .wdc, .mnu, .rqe, .chu, .aop, .stw] (committed l s) (applyLayout l s) := works_applied _

theorem committed_works (l : Layout) (s : State) : Works [.lyu, .wdc] s (committed l s) :=
  .of_only (fun b hb => by cases b <;> first | rfl | exact absurd (by simp) hb) rfl rfl

/-- What a layout apply makes of WDC's map and of GDU's work (R29, R144). -/
theorem applyLayout_guide (l : Layout) (s : State) :
    (applyLayout l s).wdc.map = l.map ∧ (applyLayout l s).gdu.working = s.gdu.working := by
  have after : Works [.chu, .aop, .stw] (guideApply (menuApply (committed l s))) (applyLayout l s) := by
    refine Works.seq (first := [.chu, .aop, .stw]) ?_ (works_markDirty _ _)
    refine Works.seq (first := [.chu, .aop, .stw]) ?_ (works_audioStop _ _)
    exact (works_setChu _ _).seq (works_audioStop _ _)
  have menus := works_menuApply (committed l s)
  have guide : (applyLayout l s).gdu = (guideApply (menuApply (committed l s))).gdu := after.only .gdu (by simp)
  have map : (applyLayout l s).wdc = (guideApply (menuApply (committed l s))).wdc := after.only .wdc (by simp)
  have guide' : (menuApply (committed l s)).gdu = s.gdu := menus.only .gdu (by simp)
  have map' : (menuApply (committed l s)).wdc = (committed l s).wdc := menus.only .wdc (by simp)
  have gaveUp : ∀ g : Gdu, g.giveUp.working = g.working := fun g => by
    unfold Gdu.giveUp
    split <;> rfl
  rw [guide, map]
  simp only [guideApply, markDirty_wdc, markDirty_gdu, setGdu_wdc, setGdu_gdu]
  rw [map', guide']
  exact ⟨rfl, gaveUp _⟩

theorem works_normalEntryNotice (s : State) :
    Works [.lyu, .gdu, .wdc, .mnu, .rqe, .chu, .aop, .stw, .flt] s (normalEntryNotice s) := by
  unfold normalEntryNotice
  split
  · refine Works.seq (first := [.lyu, .gdu, .wdc, .mnu, .rqe, .chu, .aop, .stw]) ?_ (works_raiseCause _ _)
    exact (committed_works _ s).seq (applyLayout_works _ s)
  · exact .refl _ s

/-- What LYU makes of RVC's notice: without a staged layout nothing, with one the apply and LAYOUT_APPLIED (R30). -/
theorem normalEntryNotice_spec (s : State) :
    (s.lyu.layoutState ≠ .staged → normalEntryNotice s = s) ∧
    (normalEntryNotice s).gdu.working = s.gdu.working ∧
    (normalEntryNotice s).lyu.phase = s.lyu.phase ∧
    (∀ i, s.flt.causes.getLsbD i = true → (normalEntryNotice s).flt.causes.getLsbD i = true) ∧
    ∀ l : Layout, s.lyu.layoutState = .staged → s.lyu.staged = some l →
      (normalEntryNotice s).lyu.committed = l ∧ (normalEntryNotice s).lyu.source = .host ∧
      (normalEntryNotice s).lyu.layoutState = .configured ∧ (normalEntryNotice s).lyu.staged = none ∧
      (normalEntryNotice s).wdc.map = l.map ∧ (normalEntryNotice s).flt.causes.getLsbD Cause.layoutApplied.bit = true := by
  have lyu : ∀ l, (applyLayout l s).lyu = (committed l s).lyu := fun l => (applyLayout_works l s).only .lyu (by simp)
  have flt : ∀ l, (applyLayout l s).flt = s.flt := fun l => (applyLayout_works l s).only .flt (by simp)
  refine ⟨normalEntryNotice_unstaged, ?_, ?_, fun i held => ?_, fun l state staged => ?_⟩
  · unfold normalEntryNotice
    split
    · next l _ _ => rw [raiseCause_gdu, (applyLayout_guide l s).2]
    · rfl
  · unfold normalEntryNotice
    split
    · rw [raiseCause_lyu, lyu]
      rfl
    · rfl
  · unfold normalEntryNotice
    split
    · rw [raiseCause_flt, flt]
      exact causeJoin_keeps _ held
    · exact held
  · rw [normalEntryNotice_staged state staged, raiseCause_lyu, raiseCause_wdc, raiseCause_flt, lyu, (applyLayout_guide l s).1]
    exact ⟨rfl, rfl, rfl, rfl, rfl, causeJoin_has _ _⟩

/-- RVC in NORMAL (R114). -/
def Rvc.ended (r : Rvc) : Rvc :=
  { r with
    view := .normal, engageCause := .none, holdTimer := .stopped, firstFrameDeadline := .stopped, lostTimer := .stopped,
    recoveryCount := 0, health := .awaiting }

/-- Capture stopped (R125). -/
theorem stopCapture_ccp (s : State) :
    (stopCapture s).ccp.capturing = false ∧ (stopCapture s).ccp.receiving = none ∧ (stopCapture s).ccp.closing = none ∧
    (stopCapture s).ccp.latest = none ∧ (stopCapture s).ccp.pinned = s.ccp.pinned := by
  have boundary : ∀ c : Ccp, c.boundary.capturing = c.capturing ∧ c.boundary.receiving = c.receiving ∧ c.boundary.closing = c.closing ∧
      c.boundary.latest = c.latest ∧ c.boundary.pinned = c.pinned := fun c => by
    unfold Ccp.boundary
    split <;> exact ⟨rfl, rfl, rfl, rfl, rfl⟩
  exact boundary _

/-- GDU stops work and PDU is inactive once they have taken NORMAL from another view (R132, R139). -/
theorem handView_ended {before : View} {s : State} (from_ : before ≠ .normal) (view : s.rvc.view = .normal) :
    (s.gdu.held = false → (handView before s).gdu.working = false) ∧ (s.pdu.held = false → (handView before s).pdu.active = false) := by
  simp only [handView, view]
  have guide := works_guideViewNotice s before .normal
  have park := works_parkViewNotice (guideViewNotice before .normal s) .normal
  have chu := works_chuViewNotice (parkViewNotice .normal (guideViewNotice before .normal s)) before .normal
  refine ⟨fun free => ?_, fun free => ?_⟩
  · rw [show (chuViewNotice before .normal _).gdu = _ from chu.only .gdu (by simp),
      show (parkViewNotice .normal _).gdu = _ from park.only .gdu (by simp)]
    unfold guideViewNotice
    rw [if_neg (by simp [free]), if_neg (fun h => from_ h.1), if_pos ⟨from_, rfl⟩, markDirty_gdu, setGdu_gdu]
  · have same : (guideViewNotice before .normal s).pdu = s.pdu := guide.only .pdu (by simp)
    rw [show (chuViewNotice before .normal _).pdu = _ from chu.only .pdu (by simp)]
    unfold parkViewNotice
    dsimp only
    rw [same]
    split
    · next rests =>
      rcases rests with held | resting
      · rw [free] at held
        cases held
      · rw [same]
        exact resting
    · rfl

/-- The notices of the view leave WDC's map: GDU tells WDC its banks alone (R11). -/
theorem handView_map (before : View) (s : State) : (handView before s).wdc.map = s.wdc.map := by
  have park := works_parkViewNotice (guideViewNotice before s.rvc.view s) s.rvc.view
  have chu := works_chuViewNotice (parkViewNotice s.rvc.view (guideViewNotice before s.rvc.view s)) before s.rvc.view
  have stale : ∀ u : State, (staleCheck u).wdc = u.wdc := fun u => (works_staleCheck u).only .wdc (by simp)
  rw [handView, show (chuViewNotice _ _ _).wdc = _ from chu.only .wdc (by simp),
    show (parkViewNotice _ _).wdc = _ from park.only .wdc (by simp)]
  unfold guideViewNotice
  repeat' split
  · rfl
  · rw [stale, markDirty_wdc, setGdu_wdc]
  · rw [markDirty_wdc, setGdu_wdc]
  · rfl

/-- The view enters NORMAL before LYU takes its notice (R114). -/
def viewStopped (s : State) : State :=
  raiseCause .reverseChanged (handView s.rvc.view (stopCapture (setRvc s.rvc.ended s)))

theorem enterNormal_eq (s : State) : enterNormal s = normalEntryNotice (viewStopped s) := rfl

/-- What the end of a view does before LYU takes its notice (R114, R115, R125). -/
theorem viewStopped_spec {s : State} (from_ : s.rvc.view ≠ .normal) :
    Works [.rvc, .ccp, .gdu, .wdc, .pdu, .stw, .flt, .fsq, .chu] s (viewStopped s) ∧
    (viewStopped s).rvc = s.rvc.ended ∧ (viewStopped s).wdc.map = s.wdc.map ∧
    ((viewStopped s).ccp.capturing = false ∧ (viewStopped s).ccp.receiving = none ∧ (viewStopped s).ccp.closing = none ∧
      (viewStopped s).ccp.latest = none ∧ (viewStopped s).ccp.pinned = s.ccp.pinned) ∧
    ((s.gdu.held = false → (viewStopped s).gdu.working = false) ∧ (s.pdu.held = false → (viewStopped s).pdu.active = false)) ∧
    (viewStopped s).flt.causes.getLsbD Cause.reverseChanged.bit = true ∧ (viewStopped s).stw.dirty.has .s3 = true := by
  have stops := works_stopCapture (setRvc s.rvc.ended s)
  have raises := works_raiseCause (handView s.rvc.view (stopCapture (setRvc s.rvc.ended s))) .reverseChanged
  have after : Works [.gdu, .wdc, .pdu, .stw, .flt, .fsq, .chu] (stopCapture (setRvc s.rvc.ended s)) (viewStopped s) :=
    (works_handView _ _).seq raises
  have tail : Works [.ccp, .gdu, .wdc, .pdu, .stw, .flt, .fsq, .chu] (setRvc s.rvc.ended s) (viewStopped s) := stops.seq after
  have normal : (stopCapture (setRvc s.rvc.ended s)).rvc.view = .normal := by
    rw [show (stopCapture (setRvc s.rvc.ended s)).rvc = _ from stops.only .rvc (by simp), setRvc_rvc]
    rfl
  refine ⟨(works_setRvc s _).seq tail, (tail.only .rvc (by simp)).trans (setRvc_rvc s _), ?_, ?_, ?_, ?_, ?_⟩
  · rw [viewStopped, raiseCause_wdc, handView_map, show (stopCapture _).wdc = _ from stops.only .wdc (by simp), setRvc_wdc]
  · rw [show (viewStopped s).ccp = _ from after.only .ccp (by simp)]
    have stopped := stopCapture_ccp (setRvc s.rvc.ended s)
    rw [setRvc_ccp] at stopped
    exact stopped
  · have told := handView_ended from_ normal
    rw [show (stopCapture (setRvc s.rvc.ended s)).gdu = _ from stops.only .gdu (by simp),
      show (stopCapture (setRvc s.rvc.ended s)).pdu = _ from stops.only .pdu (by simp), setRvc_gdu, setRvc_pdu] at told
    rw [viewStopped, raiseCause_gdu, raiseCause_pdu]
    exact told
  · rw [viewStopped, raiseCause_flt]
    exact causeJoin_has _ _
  · exact tail.marks _ (setRvc_view_marks from_.symm)

/-- The end of a view (R30, R114). -/
theorem enterNormal_ends {s : State} (from_ : s.rvc.view ≠ .normal) :
    Works [.rvc, .ccp, .gdu, .wdc, .pdu, .stw, .flt, .fsq, .chu, .lyu, .mnu, .rqe, .aop] s (enterNormal s) ∧
    ViewEnded s.rvc s (enterNormal s) ∧ (enterNormal s).lyu.phase = s.lyu.phase ∧ (enterNormal s).stw.dirty.has .s3 = true := by
  obtain ⟨works, rvc, map, capture, told, cause, marked⟩ := viewStopped_spec from_
  have notice := works_normalEntryNotice (viewStopped s)
  have all : Works [.rvc, .ccp, .gdu, .wdc, .pdu, .stw, .flt, .fsq, .chu, .lyu, .mnu, .rqe, .aop] s (enterNormal s) := works.seq notice
  have lyu : (viewStopped s).lyu = s.lyu := works.only .lyu (by simp)
  have fmc : (enterNormal s).fmc = s.fmc := all.only .fmc (by simp)
  obtain ⟨stands, working, phase, causes, applies⟩ := normalEntryNotice_spec (viewStopped s)
  rw [lyu] at stands phase applies
  rw [← enterNormal_eq] at notice stands working phase causes applies
  have ccp : (enterNormal s).ccp = (viewStopped s).ccp := notice.only .ccp (by simp)
  have pdu : (enterNormal s).pdu = (viewStopped s).pdu := notice.only .pdu (by simp)
  refine ⟨all, ⟨(notice.only .rvc (by simp)).trans rvc, by rw [ccp]; exact capture, by rw [working, pdu]; exact told, causes _ cause,
    fun unstaged => ?_, fun l state layout => applies l state layout, ?_⟩, phase, notice.marks _ marked⟩
  · rw [stands unstaged]
    exact ⟨lyu, map⟩
  · rw [MemoryKept, fmc]
    exact ⟨rfl, rfl⟩

end Sys2Proof.Machine
end

section
/-! SUPPORT. The three requests at their dispatch, each assembled from what its owner does. -/

namespace Sys2Proof.Machine

section Requests

variable {s u v t : State} {index : Count} {e : List Byte} {code : ResultCode} {blocks : List Block}

/-! ## The requests by their kinds -/

theorem exec_viewCamera (h : EntryFetched s index e) (kind : get16 e 0 = 11)
    (acts : requestViewCamera (get8 e 4) (dispatchState e s) = (u, code)) (work : Works blocks (dispatchState e s) u)
    (calm : u.lyu.phase = s.lyu.phase) :
    exec .entryFetchComplete s = .next (giveResult code u) ∧ Answered code index s (giveResult code u) := by
  have dispatch : dispatchKind (get16 e 0) e (dispatchState e s) = some (u, some code) := by
    rw [kind]
    exact congrArg (fun r => some (answered r)) acts
  exact exec_dispatch h (by rw [kind]; rfl) (.inr (by rw [kind]; rfl)) dispatch work calm

theorem exec_guideBank (h : EntryFetched s index e) (source : s.lyu.source = .host) (kind : get16 e 0 = 12)
    (acts : requestGuideBank (get8 e 4) (dispatchState e s) = (u, code)) (work : Works blocks (dispatchState e s) u)
    (calm : u.lyu.phase = s.lyu.phase) :
    exec .entryFetchComplete s = .next (giveResult code u) ∧ Answered code index s (giveResult code u) := by
  have dispatch : dispatchKind (get16 e 0) e (dispatchState e s) = some (u, some code) := by
    rw [kind]
    exact congrArg (fun r => some (answered r)) acts
  exact exec_dispatch h (by rw [kind]; rfl) (.inl source) dispatch work calm

theorem exec_chimeStop (h : EntryFetched s index e) (source : s.lyu.source = .host) (kind : get16 e 0 = 14)
    (acts : requestChimeStop (if get8 e 4 = 0xFF then none else some (get8 e 4)) (dispatchState e s) = (u, code))
    (work : Works blocks (dispatchState e s) u) (calm : u.lyu.phase = s.lyu.phase) :
    exec .entryFetchComplete s = .next (giveResult code u) ∧ Answered code index s (giveResult code u) := by
  have dispatch : dispatchKind (get16 e 0) e (dispatchState e s) = some (u, some code) := by
    rw [kind]
    exact congrArg (fun r => some (answered r)) acts
  exact exec_dispatch h (by rw [kind]; rfl) (.inl source) dispatch work calm

/-- A request that changes nothing: its entry alone is answered. -/
theorem refused_changesOnly : ChangesOnly [.fmc, .rqe, .stw] s (giveResult code (dispatchState e s)) :=
  dispatch_changesOnly (.refl [] _)

/-! ## VIEW_CAMERA -/

theorem requestViewCamera_bad {n : Nat} (h : 1 < n) (s : State) : requestViewCamera n s = (s, .badArgument) := by
  match n, h with
  | _ + 2, _ => rfl

theorem requestViewCamera_on (s : State) : requestViewCamera 1 s = (evaluateDemand .host (askView true s), .ok) := rfl

/-- OFF changes the request alone in NORMAL and while REV is qualified ASSERTED (R113). -/
theorem viewCameraOff_stays (h : s.rvc.view = .normal ∨ (s.rvc.view = .engaged ∧ s.rvc.revQualified = .asserted)) :
    viewCameraOff s = askView false s := by
  unfold viewCameraOff
  rcases h with normal | ⟨engaged, asserted⟩
  · rw [normal]
    rfl
  · rw [engaged, asserted]
    rfl

/-- Any other OFF ends the view (R113). -/
theorem viewCameraOff_ends (view : s.rvc.view ≠ .normal) (rev : s.rvc.revQualified = .deasserted) :
    viewCameraOff s = enterNormal (askView false s) := by
  unfold viewCameraOff
  rw [rev]
  cases shown : s.rvc.view with
  | normal => exact absurd shown view
  | engaged => rfl
  | hold => rfl

/-- The end of a view, seen from before the request and after its result. -/
theorem ViewEnded.within {r : Rvc} (h : ViewEnded r v u) (before : ChangesOnly [.fmc, .rqe, .rvc, .stw] s v) (kept : MemoryKept s v)
    (after : ChangesOnly [.rqe, .stw] u t) : ViewEnded r s t := by
  have ccp : v.ccp = s.ccp := before .ccp (by simp)
  have gdu : v.gdu = s.gdu := before .gdu (by simp)
  have pdu : v.pdu = s.pdu := before .pdu (by simp)
  have lyu : v.lyu = s.lyu := before .lyu (by simp)
  have wdc : v.wdc = s.wdc := before .wdc (by simp)
  have rvc' : t.rvc = u.rvc := after .rvc (by simp)
  have ccp' : t.ccp = u.ccp := after .ccp (by simp)
  have gdu' : t.gdu = u.gdu := after .gdu (by simp)
  have pdu' : t.pdu = u.pdu := after .pdu (by simp)
  have flt' : t.flt = u.flt := after .flt (by simp)
  have lyu' : t.lyu = u.lyu := after .lyu (by simp)
  have wdc' : t.wdc = u.wdc := after .wdc (by simp)
  have fmc' : t.fmc = u.fmc := after .fmc (by simp)
  obtain ⟨rvc, capture, told, cause, unstaged, staged, memory⟩ := h
  rw [← rvc'] at rvc
  rw [← ccp', ccp] at capture
  rw [← gdu', ← pdu', gdu, pdu] at told
  rw [← flt'] at cause
  rw [← lyu', ← wdc', lyu, wdc] at unstaged
  rw [← lyu', ← wdc', ← flt', lyu] at staged
  rw [MemoryKept, ← fmc'] at memory
  exact ⟨rvc, capture, told, cause, unstaged, staged, memory.1.trans kept.1, memory.2.trans kept.2⟩

/-- A request that changes RVC's request alone: S3 is marked exactly when it is new (R109). -/
theorem viewCamera_asks {on : Bool} (h : EntryFetched s index e) (kind : get16 e 0 = 11)
    (acts : requestViewCamera (get8 e 4) (dispatchState e s) = (askView on (dispatchState e s), .ok)) :
    ∃ t : State, exec .entryFetchComplete s = .next t ∧ Answered .ok index s t ∧
      t.rvc = { s.rvc with hostRequest := on } ∧ (s.rvc.hostRequest = !on → t.stw.dirty.has .s3 = true) ∧
      (s.rvc.hostRequest = on → t.stw.dirty = s.stw.dirty) ∧ ChangesOnly [.fmc, .rqe, .stw, .rvc] s t := by
  have work := works_askView on (dispatchState e s)
  obtain ⟨runs, answer⟩ := exec_viewCamera h kind acts work (congrArg Lyu.phase (work.only .lyu (by simp)))
  refine ⟨_, runs, answer, ?_, fun new => ?_, fun same => ?_, (dispatch_changesOnly work).mono (by simp)⟩
  · rw [giveResult_rvc, askView_rvc]
    rfl
  · have differs : (dispatchState e s).rvc.hostRequest ≠ on := fun same => by
      rw [show (dispatchState e s).rvc = s.rvc from rfl, new] at same
      exact absurd same (by cases on <;> decide)
    rw [giveResult_dirty]
    exact askView_marks differs
  · rw [giveResult_dirty, askView_same (s := dispatchState e s) same]
    rfl

/-- ON in NORMAL engages the view (R111). -/
theorem viewCamera_engages (h : EntryFetched s index e) (kind : get16 e 0 = 11) (on : get8 e 4 = 1) (view : s.rvc.view = .normal) :
    ∃ t : State, exec .entryFetchComplete s = .next t ∧ Answered .ok index s t ∧
      t.rvc = hostEngaged (askView true (dispatchState e s)) ∧ t.ccp.capturing = true ∧
      t.flt.causes.getLsbD Cause.reverseChanged.bit = true ∧ t.stw.dirty.has .s3 = true ∧ t.lyu = s.lyu ∧ MemoryKept s t := by
  have rvc := askView_rvc true (dispatchState e s)
  have normal : (askView true (dispatchState e s)).rvc.view = .normal := by rw [rvc]; exact view
  have acts : requestViewCamera (get8 e 4) (dispatchState e s) = (viewEngage .host (askView true (dispatchState e s)), .ok) := by
    rw [on, requestViewCamera_on, evaluateDemand_normal normal (by rw [rvc])]
  obtain ⟨engages, rvc', capturing, cause, marked⟩ := viewEngage_host normal
  have work := (works_askView true (dispatchState e s)).seq engages (blocks := [.rvc, .ccp, .gdu, .wdc, .pdu, .stw, .flt, .fsq, .chu])
  have lyu : (viewEngage .host (askView true (dispatchState e s))).lyu = s.lyu := work.only .lyu (by simp)
  have fmc : (viewEngage .host (askView true (dispatchState e s))).fmc = (dispatchState e s).fmc := work.only .fmc (by simp)
  obtain ⟨runs, answer⟩ := exec_viewCamera h kind acts work (by rw [lyu])
  refine ⟨_, runs, answer, ?_⟩
  rw [MemoryKept, giveResult_rvc, giveResult_ccp, giveResult_flt, giveResult_dirty, giveResult_lyu, giveResult_fmc, lyu, fmc]
  exact ⟨rvc', capturing, cause, marked, rfl, rfl, rfl⟩

/-- ON in HOLD engages the view again (R111). -/
theorem viewCamera_reengages (h : EntryFetched s index e) (kind : get16 e 0 = 11) (on : get8 e 4 = 1) (view : s.rvc.view = .hold) :
    ∃ t : State, exec .entryFetchComplete s = .next t ∧ Answered .ok index s t ∧
      t.rvc = { s.rvc with hostRequest := true, view := .engaged, engageCause := .host, holdTimer := .stopped } ∧
      (s.pdu.held = false → s.pdu.active = false → s.lyu.source = .host → t.pdu.active = true ∧ t.pdu.distance = none) ∧
      t.stw.dirty.has .s3 = true ∧ ChangesOnly [.fmc, .rqe, .stw, .rvc, .pdu] s t := by
  have asks := works_askView true (dispatchState e s)
  have rvc := askView_rvc true (dispatchState e s)
  have hold : (askView true (dispatchState e s)).rvc.view = .hold := by rw [rvc]; exact view
  have acts : requestViewCamera (get8 e 4) (dispatchState e s) = (viewReengage .host (askView true (dispatchState e s)), .ok) := by
    rw [on, requestViewCamera_on, evaluateDemand_hold hold (by rw [rvc])]
  obtain ⟨reengages, rvc', parks, marked⟩ := viewReengage_host hold
  have pdu : (askView true (dispatchState e s)).pdu = s.pdu := asks.only .pdu (by simp)
  have lyu : (askView true (dispatchState e s)).lyu = s.lyu := asks.only .lyu (by simp)
  rw [pdu, lyu] at parks
  have work := asks.seq reengages (blocks := [.rvc, .pdu, .stw])
  obtain ⟨runs, answer⟩ := exec_viewCamera h kind acts work (congrArg Lyu.phase (work.only .lyu (by simp)))
  refine ⟨_, runs, answer, ?_, by rw [giveResult_pdu]; exact parks, by rw [giveResult_dirty]; exact marked,
    (dispatch_changesOnly work).mono (by simp)⟩
  rw [giveResult_rvc, rvc', hostReengaged, rvc]
  rfl

/-- OFF ends the view unless REV is qualified ASSERTED (R113, R114). -/
theorem viewCamera_ends (h : EntryFetched s index e) (kind : get16 e 0 = 11) (off : get8 e 4 = 0) (view : s.rvc.view ≠ .normal)
    (rev : s.rvc.revQualified = .deasserted) :
    ∃ t : State, exec .entryFetchComplete s = .next t ∧ Answered .ok index s t ∧
      ViewEnded { s.rvc with hostRequest := false } s t ∧ t.stw.dirty.has .s3 = true := by
  have asks := works_askView false (dispatchState e s)
  have rvc := askView_rvc false (dispatchState e s)
  have acts : requestViewCamera (get8 e 4) (dispatchState e s) = (enterNormal (askView false (dispatchState e s)), .ok) := by
    rw [off]
    exact congrArg (fun u => (u, ResultCode.ok)) (viewCameraOff_ends (s := dispatchState e s) view rev)
  obtain ⟨ends, ended, phase, marked⟩ := enterNormal_ends (s := askView false (dispatchState e s)) (by rw [rvc]; exact view)
  rw [rvc] at ended
  have fmc : (askView false (dispatchState e s)).fmc = (dispatchState e s).fmc := asks.only .fmc (by simp)
  have lyu : (askView false (dispatchState e s)).lyu = s.lyu := asks.only .lyu (by simp)
  rw [lyu] at phase
  have work := asks.seq ends (blocks := [.rvc, .ccp, .gdu, .wdc, .pdu, .stw, .flt, .fsq, .chu, .lyu, .mnu, .rqe, .aop])
  obtain ⟨runs, answer⟩ := exec_viewCamera h kind acts work phase
  refine ⟨_, runs, answer, ended.within ?_ ?_ (giveResult_changesOnly _ _), by rw [giveResult_dirty]; exact marked⟩
  · exact ((dispatchState_changesOnly e s).mono (by simp)).trans (asks.only.mono (by simp))
  · rw [MemoryKept, fmc]
    exact ⟨rfl, rfl⟩

/-! ## GUIDE_BANK (R133) -/

theorem requestGuideBank_bad {n : Nat} (h : 1 < n) (s : State) : requestGuideBank n s = (s, .badArgument) := by
  match n, h with
  | _ + 2, _ => rfl

theorem requestGuideBank_known {n : Nat} {b : Bank} (bank : bankOfCode n = some b)
    (known : s.gdu.liveBank = some b ∨ s.gdu.stagedBank = some b) : requestGuideBank n s = (s, .ok) := by
  simp only [requestGuideBank, bank, if_pos known]

/-- GDU with a bank staged, and S3 marked (R133). -/
def bankStaged (b : Bank) (s : State) : State := markDirty .s3 (setGdu { s.gdu with stagedBank := some b } s)

theorem requestGuideBank_new {n : Nat} {b : Bank} (bank : bankOfCode n = some b) (live : s.gdu.liveBank ≠ some b)
    (staged : s.gdu.stagedBank ≠ some b) : requestGuideBank n s = (bankStaged b s, .ok) := by
  simp only [requestGuideBank, bank, if_neg (not_or.mpr ⟨live, staged⟩)]
  rfl

theorem works_bankStaged (b : Bank) (s : State) : Works [.gdu, .wdc, .stw] s (bankStaged b s) :=
  (works_setGdu s _).seq (works_markDirty _ _)

/-- GUIDE_BANK with a bank: one that GDU names already changes nothing, another is staged and WDC told (R11, R133). -/
theorem guideBank_acts {b : Bank} (h : EntryFetched s index e) (source : s.lyu.source = .host) (kind : get16 e 0 = 12)
    (bank : bankOfCode (get8 e 4) = some b) :
    ∃ t : State, exec .entryFetchComplete s = .next t ∧ Answered .ok index s t ∧
      (s.gdu.liveBank = some b ∨ s.gdu.stagedBank = some b → ChangesOnly [.fmc, .rqe, .stw] s t) ∧
      (s.gdu.liveBank ≠ some b → s.gdu.stagedBank ≠ some b →
        t.gdu = { s.gdu with stagedBank := some b } ∧
        t.wdc = { s.wdc with liveBank := s.gdu.liveBank, stagedBank := some b } ∧
        t.stw.dirty.has .s3 = true ∧ ChangesOnly [.fmc, .rqe, .stw, .gdu, .wdc] s t) := by
  by_cases known : s.gdu.liveBank = some b ∨ s.gdu.stagedBank = some b
  · obtain ⟨runs, answer⟩ := exec_guideBank (blocks := []) h source kind
      (requestGuideBank_known (s := dispatchState e s) bank known) (.refl _ _) rfl
    exact ⟨_, runs, answer, fun _ => refused_changesOnly, fun live staged => absurd known (not_or.mpr ⟨live, staged⟩)⟩
  · obtain ⟨live, staged⟩ := not_or.mp known
    have work := works_bankStaged b (dispatchState e s)
    obtain ⟨runs, answer⟩ := exec_guideBank h source kind (requestGuideBank_new (s := dispatchState e s) bank live staged) work
      (congrArg Lyu.phase (work.only .lyu (by simp)))
    refine ⟨_, runs, answer, fun named => absurd named known, fun _ _ => ?_⟩
    rw [giveResult_gdu, giveResult_wdc, giveResult_dirty, bankStaged, markDirty_gdu, markDirty_wdc, setGdu_gdu, setGdu_wdc, markDirty_has]
    exact ⟨rfl, rfl, Bool.or_true _, (dispatch_changesOnly work).mono (by simp)⟩

/-! ## CHIME_STOP (R150) -/

/-- CHU changed by a stop, and S5 marked (R150, R162). -/
def chimeStopped (c : Chu) (s : State) : State := markDirty .s5 (setChu c s)

theorem works_chimeStopped (c : Chu) (s : State) : Works [.chu, .stw] s (chimeStopped c s) :=
  (works_setChu s c).seq (works_markDirty _ _)

/-- A stop that acts on CHU. -/
theorem chimeStop_acts {c : Chu} (h : EntryFetched s index e) (source : s.lyu.source = .host) (kind : get16 e 0 = 14)
    (acts : requestChimeStop (if get8 e 4 = 0xFF then none else some (get8 e 4)) (dispatchState e s) =
      (chimeStopped c (dispatchState e s), .ok)) :
    ∃ t : State, exec .entryFetchComplete s = .next t ∧ Answered .ok index s t ∧ t.chu = c ∧ t.stw.dirty.has .s5 = true ∧
      ChangesOnly [.fmc, .rqe, .stw, .chu] s t := by
  have work := works_chimeStopped c (dispatchState e s)
  obtain ⟨runs, answer⟩ := exec_chimeStop h source kind acts work (congrArg Lyu.phase (work.only .lyu (by simp)))
  refine ⟨_, runs, answer, ?_, ?_, (dispatch_changesOnly work).mono (by simp)⟩
  · rw [giveResult_chu, chimeStopped, markDirty_chu, setChu_chu]
  · rw [giveResult_dirty, chimeStopped, markDirty_has]
    exact Bool.or_true _

/-- The clip that CHIME_STOP names stops on the voice that holds it, and on no other (R150). -/
theorem Chu.stopClip_voice (c : Chu) (clip : Nat) :
    (c.voice.state ≠ .idle → c.voice.chime.clip = clip → (c.stopClip clip).voice = { c.voice with pendingStop := true }) ∧
    (c.voice.state = .idle ∨ c.voice.chime.clip ≠ clip → (c.stopClip clip).voice = c.voice) := by
  have holds : c.voice.holds clip = true ↔ c.voice.state ≠ .idle ∧ c.voice.chime.clip = clip := by simp [Voice.holds]
  refine ⟨fun busy same => ?_, fun other => ?_⟩
  · exact if_pos (holds.mpr ⟨busy, same⟩)
  · refine if_neg fun held => ?_
    obtain ⟨busy, same⟩ := holds.mp held
    exact other.elim busy fun differs => differs same

end Requests

/-- Settles O35: the view's requests by argument and view, the guide bank's by what GDU names, the stop's by all and clip. -/
theorem viewBankAndStopRequestsAct : Obligations.ViewBankAndStopRequestsAct := by
  refine ⟨fun s index e h kind => ⟨fun bad => ?_, fun on view => ?_, fun on view => ?_, fun on view => viewCamera_reengages h kind on view,
      fun off view => ?_, fun off view rev => viewCamera_ends h kind off view rev⟩,
    fun s index e h source kind => ⟨fun bad => ?_, fun b bank => guideBank_acts h source kind bank⟩,
    fun s index e h source kind all => ?_, fun s index e h source kind => ⟨fun clip => ?_, fun low high => ?_⟩⟩
  · obtain ⟨runs, answer⟩ := exec_viewCamera (blocks := []) h kind (requestViewCamera_bad bad _) (.refl _ _) rfl
    exact ⟨_, runs, answer, refused_changesOnly⟩
  · obtain ⟨t, runs, answer, rvc, rest⟩ := viewCamera_engages h kind on view
    have asked := askView_rvc true (dispatchState e s)
    have lyu : (askView true (dispatchState e s)).lyu = s.lyu := (works_askView true _).only .lyu (by simp)
    refine ⟨t, runs, answer, ?_⟩
    rw [rvc, hostEngaged, asked, lyu]
    exact ⟨rfl, rfl, rfl, rfl, rfl, rest⟩
  · refine viewCamera_asks h kind ?_
    have asked := askView_rvc true (dispatchState e s)
    rw [on, requestViewCamera_on, evaluateDemand_engaged (by rw [asked]; exact view) (by rw [asked])]
  · refine viewCamera_asks h kind ?_
    rw [off]
    exact congrArg (fun u => (u, ResultCode.ok)) (viewCameraOff_stays (s := dispatchState e s) view)
  · obtain ⟨runs, answer⟩ := exec_guideBank (blocks := []) h source kind (requestGuideBank_bad bad _) (.refl _ _) rfl
    exact ⟨_, runs, answer, refused_changesOnly⟩
  · obtain ⟨t, runs, answer, chu, marked, frame⟩ := chimeStop_acts (c := s.chu.stopAll) h source kind (by rw [if_pos all]; rfl)
    refine ⟨t, runs, answer, ?_⟩
    rw [chu]
    exact ⟨rfl, rfl, fun busy => if_neg busy, fun idle => if_pos idle, marked, frame⟩
  · obtain ⟨t, runs, answer, chu, marked, frame⟩ := chimeStop_acts (c := s.chu.stopClip (get8 e 4)) h source kind (by
      rw [if_neg (by omega)]
      simp only [requestChimeStop, if_neg (show ¬ 31 < get8 e 4 by omega)]
      rfl)
    obtain ⟨stops, stays⟩ := s.chu.stopClip_voice (get8 e 4)
    refine ⟨t, runs, answer, ?_⟩
    rw [chu]
    exact ⟨rfl, rfl, rfl, stops, stays, marked, frame⟩
  · obtain ⟨runs, answer⟩ := exec_chimeStop (code := .badArgument) (u := dispatchState e s) (blocks := []) h source kind (by
      rw [if_neg high]
      simp only [requestChimeStop, if_pos low]) (.refl _ _) rfl
    exact ⟨_, runs, answer, refused_changesOnly⟩

end Sys2Proof.Machine
end

section
/-! SUPPORT. The frame of the layouts. What R27 to R33 speak of is one view of the state; every operation but the apply and the discard of a
layout, the moves of RVC's view and the resets leaves it, and each such operation has one lemma here. -/

namespace Sys2Proof.Machine

/-! ## The view -/

/-- What R27 to R33 speak of: LYU's layouts, RVC's view and the map by which WDC classifies. -/
structure LayoutView where
  layoutState : LayoutState
  source : CommittedSource
  committed : Layout
  staged : Option Layout
  view : View
  map : RegionMap

/-- The layouts, the view and the map of a state. -/
def layoutView (s : State) : LayoutView :=
  ⟨s.lyu.layoutState, s.lyu.source, s.lyu.committed, s.lyu.staged, s.rvc.view, s.wdc.map⟩

/-- The layout states of a view agree: `LayoutSafe`, said of the view. -/
def LayoutView.Safe (v : LayoutView) : Prop :=
  (v.layoutState = .staged ↔ v.staged.isSome = true) ∧ (v.staged.isSome = true → v.view ≠ .normal) ∧
  (v.staged = none → v.layoutState = unstagedState v.source) ∧ (v.source = .default → v.committed = Layout.default) ∧
  v.map = v.committed.map

theorem layoutSafe_iff (s : State) : LayoutSafe s ↔ (layoutView s).Safe := Iff.rfl

theorem layoutView_of_fields {s t : State} (lyu : t.lyu = s.lyu) (rvc : t.rvc = s.rvc) (wdc : t.wdc = s.wdc) :
    layoutView t = layoutView s := by
  rw [layoutView, lyu, rvc, wdc, layoutView]

/-- Work in other blocks than LYU, RVC and WDC leaves the view. -/
theorem ChangesOnly.layoutView {blocks : List Block} {s t : State} (h : ChangesOnly blocks s t)
    (lyu : Block.lyu ∉ blocks := by decide) (rvc : Block.rvc ∉ blocks := by decide) (wdc : Block.wdc ∉ blocks := by decide) :
    layoutView t = layoutView s := layoutView_of_fields (h .lyu lyu) (h .rvc rvc) (h .wdc wdc)

/-! The two directions in which `simp` meets a record update that leaves the view. -/

@[simp] theorem layoutView_mk (fmc : Fmc) (hlp : Hlp) (wdc : Wdc) (lyu : Lyu) (stw : Stw) (rqe : Rqe) (den : Engines)
    (fsq : PerChannel FilmChannel) (mnu : Mnu) (rvc : Rvc) (ccp : Ccp) (gdu : Gdu) (pdu : Pdu) (chu : Chu) (aop : Aop) (flt : Flt)
    (pins : Pins) (freeCount : Nat) (pending : List Instr) :
    layoutView ⟨fmc, hlp, wdc, lyu, stw, rqe, den, fsq, mnu, rvc, ccp, gdu, pdu, chu, aop, flt, pins, freeCount, pending⟩ =
      ⟨lyu.layoutState, lyu.source, lyu.committed, lyu.staged, rvc.view, wdc.map⟩ := rfl

@[simp] theorem layoutView_fields (s : State) :
    (⟨s.lyu.layoutState, s.lyu.source, s.lyu.committed, s.lyu.staged, s.rvc.view, s.wdc.map⟩ : LayoutView) = layoutView s := rfl

section Frame

variable (s : State)

@[simp] theorem layoutView_layoutState : (layoutView s).layoutState = s.lyu.layoutState := rfl
@[simp] theorem layoutView_source : (layoutView s).source = s.lyu.source := rfl
@[simp] theorem layoutView_committed : (layoutView s).committed = s.lyu.committed := rfl
@[simp] theorem layoutView_staged : (layoutView s).staged = s.lyu.staged := rfl
@[simp] theorem layoutView_view : (layoutView s).view = s.rvc.view := rfl
@[simp] theorem layoutView_map : (layoutView s).map = s.wdc.map := rfl

/-! ## Shared operations -/

@[simp] theorem layoutView_freeFmc : layoutView (freeFmc s) = layoutView s := rfl
@[simp] theorem layoutView_markDirty (k : StatusSection) : layoutView (markDirty k s) = layoutView s := rfl
@[simp] theorem layoutView_raiseCause (c : Cause) : layoutView (raiseCause c s) = layoutView s := (works_raiseCause s c).only.layoutView
@[simp] theorem layoutView_setCauses (set : BitVec 6) : layoutView (setCauses set s) = layoutView s :=
  layoutView_of_fields (by simp) (by simp) (by simp)
@[simp] theorem layoutView_giveResult (code : ResultCode) : layoutView (giveResult code s) = layoutView s :=
  (works_giveResult s code).only.layoutView
@[simp] theorem layoutView_setMnu (m : Mnu) : layoutView (setMnu m s) = layoutView s := rfl
@[simp] theorem layoutView_setMenuPanel (p : Panel) (m : MenuPanel) : layoutView (setMenuPanel p m s) = layoutView s := rfl
@[simp] theorem layoutView_setCcp (c : Ccp) : layoutView (setCcp c s) = layoutView s := rfl
@[simp] theorem layoutView_setRqe (r : Rqe) : layoutView (setRqe r s) = layoutView s := rfl
@[simp] theorem layoutView_setEngine (p : Panel) (d : Den) : layoutView (setEngine p d s) = layoutView s := rfl
@[simp] theorem layoutView_setChu (c : Chu) : layoutView (setChu c s) = layoutView s := (works_setChu s c).only.layoutView
@[simp] theorem layoutView_setAop (o : Aop) : layoutView (setAop o s) = layoutView s := (works_setAop s o).only.layoutView
@[simp] theorem layoutView_setChannel (x : Channel) (r : FilmChannel) : layoutView (setChannel x r s) = layoutView s :=
  (works_setChannel s x r).only.layoutView
/-- GDU tells WDC its banks, not its map (R11). -/
@[simp] theorem layoutView_setGdu (g : Gdu) : layoutView (setGdu g s) = layoutView s := by simp [setGdu]; split <;> simp
@[simp] theorem layoutView_setLyu (l : Lyu) : layoutView (setLyu l s) =
    ⟨l.layoutState, l.source, l.committed, l.staged, s.rvc.view, s.wdc.map⟩ := rfl
@[simp] theorem layoutView_setRvc (r : Rvc) : layoutView (setRvc r s) =
    ⟨s.lyu.layoutState, s.lyu.source, s.lyu.committed, s.lyu.staged, r.view, s.wdc.map⟩ := by simp [setRvc]; split <;> simp
@[simp] theorem layoutView_settleChu (c : Chu) : layoutView (settleChu c s) = layoutView s := (settleChu_changesOnly c s).layoutView
@[simp] theorem layoutView_chimeEvent (e : ChimeEvent) : layoutView (chimeEvent e s) = layoutView s :=
  (works_chimeEvent s e).only.layoutView
@[simp] theorem layoutView_cadenceNotice (n : CadenceNotice) : layoutView (cadenceNotice n s) = layoutView s :=
  layoutView_of_fields (by simp) (by simp) (by simp)
@[simp] theorem layoutView_report (r : Report) : layoutView (report r s) = layoutView s := (report_changesOnly r s).layoutView
@[simp] theorem layoutView_reportPlain (kind : FaultKind) (source : FaultSource) (detail : Detail) :
    layoutView (reportPlain kind source detail s) = layoutView s := layoutView_report s _
@[simp] theorem layoutView_reportHost (kind : FaultKind) (source : FaultSource) (detail : Detail) (p : HostRequest) :
    layoutView (reportHost kind source detail p s) = layoutView s := layoutView_report s _
@[simp] theorem layoutView_reportMemoryFor (port : Port) (m : Moved) : layoutView (reportMemoryFor port m s) = layoutView s :=
  (reportMemoryFor_changesOnly port m s).layoutView
@[simp] theorem layoutView_reportMemoryHost (p : HostRequest) (target : Nat) (m : Moved) :
    layoutView (reportMemoryHost p target m s) = layoutView s :=
  (reportMemory_changesOnly (fun _ _ _ u => report_changesOnly _ u) _ _ s).layoutView
@[simp] theorem layoutView_reportIfDue (kind : FaultKind) (source : FaultSource) (detail : Option Detail) :
    layoutView (reportIfDue kind source detail s) = layoutView s := by unfold reportIfDue; split <;> simp

/-! ## Faults, guide lines and park distance -/

@[simp] theorem layoutView_requestFaultAck (classes clear : Nat) : layoutView (requestFaultAck classes clear s).1 = layoutView s := by
  simp only [requestFaultAck]; split <;> simp
@[simp] theorem layoutView_requestAttnAck (causes : Nat) : layoutView (requestAttnAck causes s).1 = layoutView s := by
  unfold requestAttnAck; split <;> simp
@[simp] theorem layoutView_requestResume : layoutView (requestResume s).1 = layoutView s := by
  unfold requestResume; repeat' split
  all_goals simp
@[simp] theorem layoutView_staleCheck : layoutView (staleCheck s) = layoutView s := (works_staleCheck s).only.layoutView
@[simp] theorem layoutView_steeringBeat (bytes : List Byte) : layoutView (steeringBeat bytes s) = layoutView s := by
  simp only [steeringBeat]; split <;> simp
@[simp] theorem layoutView_guideViewNotice (before after : View) : layoutView (guideViewNotice before after s) = layoutView s := by
  unfold guideViewNotice; repeat' split
  all_goals simp
@[simp] theorem layoutView_requestGuideBank (b : Nat) : layoutView (requestGuideBank b s).1 = layoutView s := by
  unfold requestGuideBank; repeat' split
  all_goals simp
@[simp] theorem layoutView_guideSwitch : layoutView (guideSwitch s) = layoutView s := by simp only [guideSwitch]; split <;> simp
@[simp] theorem layoutView_guideApply : layoutView (guideApply s) = layoutView s := by simp [guideApply]
@[simp] theorem layoutView_guideWarmReset : layoutView (guideWarmReset s) = layoutView s := by simp [guideWarmReset]
@[simp] theorem layoutView_reportList (f : GuideFetch) (v : GuideVerdict) : layoutView (reportList f v s) = layoutView s := by
  unfold reportList; split <;> simp
@[simp] theorem layoutView_parkViewNotice (after : View) : layoutView (parkViewNotice after s) = layoutView s :=
  (works_parkViewNotice s after).only.layoutView
@[simp] theorem layoutView_handCadence (k : ParkSettings) : layoutView (handCadence k s) = layoutView s := by
  unfold handCadence; split <;> simp
@[simp] theorem layoutView_enterSensorFault (k : ParkSettings) (detail : Detail) :
    layoutView (enterSensorFault k detail s) = layoutView s := by unfold enterSensorFault; split <;> simp
@[simp] theorem layoutView_evaluatePark (k : ParkSettings) (d : Distance) : layoutView (evaluatePark k d s) = layoutView s := by
  simp only [evaluatePark]; split <;> simp
@[simp] theorem layoutView_distanceBeat (bytes : List Byte) : layoutView (distanceBeat bytes s) = layoutView s := by
  simp only [distanceBeat]; repeat' split
  all_goals simp
@[simp] theorem layoutView_parkWarmReset : layoutView (parkWarmReset s) = layoutView s := by simp [parkWarmReset]

/-! ## Display, film and film audio -/

@[simp] theorem layoutView_setHold (p : RearPanel) (h : Option Hold) : layoutView (p.setHold h s) = layoutView s := by cases p <;> rfl
@[simp] theorem layoutView_handPresented (x : Channel) (p : Presented) : layoutView (handPresented x p s) = layoutView s := by
  cases p <;> simp [handPresented]
@[simp] theorem layoutView_filmRefresh (p : RearPanel) (showing : Bool) : layoutView (filmRefresh p showing s) = layoutView s := by
  simp only [filmRefresh]; split <;> simp
@[simp] theorem layoutView_aopKick : layoutView (aopKick s) = layoutView s := (aopKick_changesOnly s).layoutView
@[simp] theorem layoutView_rearRefresh (p : RearPanel) : layoutView (rearRefresh p s) = layoutView s := by simp [rearRefresh]
@[simp] theorem layoutView_exchangePin (move : Bool) : layoutView (exchangePin move s) = layoutView s := by
  simp only [exchangePin]; split <;> simp
@[simp] theorem layoutView_pinExchange (move : Bool) : layoutView (pinExchange move s) = layoutView s :=
  layoutView_exchangePin s move
@[simp] theorem layoutView_centreRow : layoutView (centreRow s).1 = layoutView s := by unfold centreRow; split <;> simp
@[simp] theorem layoutView_centreRefresh : layoutView (centreRefresh s) = layoutView s := by simp only [centreRefresh]; split <;> simp
@[simp] theorem layoutView_uiBaseBeat (bytes : List Byte) : layoutView (uiBaseBeat bytes s) = layoutView s := by
  simp only [uiBaseBeat]; repeat' split
  all_goals simp
@[simp] theorem layoutView_displayWarmReset : layoutView (displayWarmReset s) = layoutView s := rfl
@[simp] theorem layoutView_displayRelease : layoutView (displayRelease s) = layoutView s := rfl
@[simp] theorem layoutView_changeChannel (x : Channel) (f : FilmChannel → FilmChannel) : layoutView (changeChannel x f s) = layoutView s :=
  layoutView_setChannel s _ _
@[simp] theorem layoutView_filmWarmReset : layoutView (filmWarmReset s) = layoutView s := rfl
@[simp] theorem layoutView_audioProducerBeat (x : Channel) (bytes : List Byte) :
    layoutView (audioProducerBeat x bytes s) = layoutView s := by
  simp only [audioProducerBeat]; repeat' split
  all_goals simp
@[simp] theorem layoutView_audioStop (x : Channel) : layoutView (audioStop x s) = layoutView s := (works_audioStop s x).only.layoutView
@[simp] theorem layoutView_audioApply : layoutView (audioApply s) = layoutView s := by simp [audioApply]
@[simp] theorem layoutView_audioWarmReset : layoutView (audioWarmReset s) = layoutView s := by simp [audioWarmReset]
@[simp] theorem layoutView_blockBoundary : layoutView (blockBoundary s) = layoutView s := by
  unfold blockBoundary; split <;> simp [settleBlock]
@[simp] theorem layoutView_requestChimePlay (clip priority plays route requeue : Nat) :
    layoutView (requestChimePlay clip priority plays route requeue s).1 = layoutView s := by
  unfold requestChimePlay; repeat' split
  all_goals simp
@[simp] theorem layoutView_requestChimeStop (clip : Option Nat) : layoutView (requestChimeStop clip s).1 = layoutView s := by
  unfold requestChimeStop; repeat' split
  all_goals simp
@[simp] theorem layoutView_chimeApply : layoutView (chimeApply s) = layoutView s := layoutView_setChu s _
@[simp] theorem layoutView_chimeWarmReset : layoutView (chimeWarmReset s) = layoutView s := by simp [chimeWarmReset]

/-! ## Camera capture -/

@[simp] theorem layoutView_enterLost (deadline : Bool) : layoutView (enterLost deadline s) = layoutView s := by simp [enterLost]
@[simp] theorem layoutView_goodFrameNotice (frameNo : Count) : layoutView (goodFrameNotice frameNo s) = layoutView s := by
  simp only [goodFrameNotice, Rvc.goodFrame]; repeat' split
  all_goals simp
@[simp] theorem layoutView_damagedFrameNotice : layoutView (damagedFrameNotice s) = layoutView s := by
  unfold damagedFrameNotice; split <;> simp
@[simp] theorem layoutView_closeIfWritten : layoutView (closeIfWritten s) = layoutView s := by
  unfold closeIfWritten; repeat' split
  all_goals simp
@[simp] theorem layoutView_damageFrame (detail : Detail) (reception : Reception) :
    layoutView (damageFrame detail reception s) = layoutView s := by simp only [damageFrame]; split <;> simp
@[simp] theorem layoutView_startFrame (frameNo : Count) : layoutView (startFrame frameNo s) = layoutView s := by
  unfold startFrame; split <;> simp
@[simp] theorem layoutView_takeFrameStart (frameNo : Count) : layoutView (takeFrameStart frameNo s) = layoutView s := by
  simp only [takeFrameStart]; split <;> simp
@[simp] theorem layoutView_takeLine (lineNo : Count) (data : List Byte) (check : BitVec 32) :
    layoutView (takeLine lineNo data check s) = layoutView s := by
  simp only [takeLine]; repeat' split
  all_goals simp
@[simp] theorem layoutView_takeFrameEnd : layoutView (takeFrameEnd s) = layoutView s := by
  simp only [takeFrameEnd]; repeat' split
  all_goals simp
@[simp] theorem layoutView_lineWritten : layoutView (lineWritten s) = layoutView s := by
  simp only [lineWritten]; repeat' split
  all_goals simp
@[simp] theorem layoutView_startCapture : layoutView (startCapture s) = layoutView s := (works_startCapture s).only.layoutView
@[simp] theorem layoutView_stopCapture : layoutView (stopCapture s) = layoutView s := (works_stopCapture s).only.layoutView
@[simp] theorem layoutView_drainCapture : layoutView (drainCapture s) = layoutView s := rfl
@[simp] theorem layoutView_captureWarmReset : layoutView (captureWarmReset s) = layoutView s := rfl

/-! ## Menus -/

@[simp] theorem layoutView_restartIdle (p : Panel) : layoutView (restartIdle p s) = layoutView s := rfl
@[simp] theorem layoutView_changeStack (p : Panel) (stack : List Nat) (top : TopCache) :
    layoutView (changeStack p stack top s) = layoutView s := rfl
@[simp] theorem layoutView_menuKick : layoutView (menuKick s) = layoutView s := (works_menuKick s).only.layoutView
@[simp] theorem layoutView_dropMenuFetch (purpose : MenuPurpose) : layoutView (dropMenuFetch purpose s) = layoutView s :=
  (works_dropMenuFetch s purpose).only.layoutView
@[simp] theorem layoutView_touchPanel (p : Panel) : layoutView (touchPanel p s) = layoutView s := by
  simp only [touchPanel]; split <;> simp
@[simp] theorem layoutView_takeInHand (r : MenuRequest) : layoutView (takeInHand r s) = layoutView s := by simp [takeInHand]
@[simp] theorem layoutView_requestMenuPush (panel page : Nat) : layoutView (requestMenuPush panel page s).1 = layoutView s := by
  simp only [requestMenuPush]; repeat' split
  all_goals simp
@[simp] theorem layoutView_requestMenuReplace (panel page : Nat) : layoutView (requestMenuReplace panel page s).1 = layoutView s := by
  simp only [requestMenuReplace]; repeat' split
  all_goals simp
@[simp] theorem layoutView_requestMenuPop (panel : Nat) : layoutView (requestMenuPop panel s).1 = layoutView s := by
  simp only [requestMenuPop]; repeat' split
  all_goals simp
@[simp] theorem layoutView_requestMenuClear (panel : Nat) : layoutView (requestMenuClear panel s).1 = layoutView s := by
  simp only [requestMenuClear]; repeat' split
  all_goals simp
@[simp] theorem layoutView_requestMenuTouch (panel : Nat) : layoutView (requestMenuTouch panel s).1 = layoutView s := by
  unfold requestMenuTouch; split <;> simp
@[simp] theorem layoutView_judgeDescriptor (beats : List ReadBeat) (panel : Panel) (page : Nat) :
    layoutView (judgeDescriptor beats panel page s).2 = layoutView s := by unfold judgeDescriptor; split <;> simp
@[simp] theorem layoutView_answerMenu (code : ResultCode) : layoutView (answerMenu code s) = layoutView s := by simp [answerMenu]
@[simp] theorem layoutView_finishMenuRequest (r : MenuRequest) (verdict : Option Descriptor) :
    layoutView (finishMenuRequest r verdict s) = layoutView s := by simp only [finishMenuRequest]; split <;> simp
@[simp] theorem layoutView_finishMenuFetch (purpose : MenuPurpose) (verdict : Option Descriptor) :
    layoutView (finishMenuFetch purpose verdict s) = layoutView s := by
  simp only [finishMenuFetch]; repeat' split
  all_goals simp
@[simp] theorem layoutView_refillNotices : layoutView (refillNotices s) = layoutView s := (works_refillNotices s).only.layoutView
@[simp] theorem layoutView_menuApply : layoutView (menuApply s) = layoutView s := (works_menuApply s).only.layoutView
@[simp] theorem layoutView_menuWarmReset : layoutView (menuWarmReset s) = layoutView s := rfl
@[simp] theorem layoutView_menuRelease : layoutView (menuRelease s) = layoutView s := by simp [menuRelease]

/-! ## The request ring -/

@[simp] theorem layoutView_producerBeat (bytes : List Byte) : layoutView (producerBeat bytes s) = layoutView s := by
  simp only [producerBeat]; repeat' split
  all_goals simp
@[simp] theorem layoutView_requestFilmPlay (x : Channel) : layoutView (requestFilmPlay x s).1 = layoutView s := by
  unfold requestFilmPlay; repeat' split
  all_goals simp
@[simp] theorem layoutView_requestFilmPause (x : Channel) : layoutView (requestFilmPause x s).1 = layoutView s := by
  simp [requestFilmPause]
@[simp] theorem layoutView_requestFilmStop (x : Channel) : layoutView (requestFilmStop x s).1 = layoutView s := by
  simp [requestFilmStop]
@[simp] theorem layoutView_requestFilmSeek (h m sec : Nat) (x : Channel) : layoutView (requestFilmSeek h m sec x s).1 = layoutView s := by
  unfold requestFilmSeek; split <;> simp
theorem layoutView_filmRequest (channel : Nat) {act : Channel → State → State × ResultCode}
    (h : ∀ x, layoutView (act x s).1 = layoutView s) : layoutView (filmRequest channel act s).1 = layoutView s := by
  unfold filmRequest; repeat' split
  all_goals simp [h]
@[simp] theorem layoutView_enterPhase (phase : EntryPhase) : layoutView (enterPhase phase s) = layoutView s := rfl
@[simp] theorem layoutView_resultWritten : layoutView (resultWritten s) = layoutView s := by
  simp only [resultWritten]; split <;> simp
@[simp] theorem layoutView_ringWarmReset : layoutView (ringWarmReset s) = layoutView s := rfl
/-- A claim or a commit raised by LYU leaves its layouts (R25). -/
@[simp] theorem layoutView_lyuKick (l : Lyu) : l.kick.layoutState = l.layoutState ∧ l.kick.source = l.source ∧
    l.kick.committed = l.committed ∧ l.kick.staged = l.staged := by unfold Lyu.kick; split <;> simp
@[simp] theorem layoutView_requestLayoutCommit : layoutView (requestLayoutCommit s).1 = layoutView s := by
  unfold requestLayoutCommit; split <;> simp

/-! ## What the host's WRITE hands on, and grants -/

@[simp] theorem layoutView_takeTrailer (x : Channel) (bytes : List Byte) : layoutView (takeTrailer x bytes s) = layoutView s := by
  simp only [takeTrailer]; split <;> simp
@[simp] theorem layoutView_takeWatched (w : Nat × List Byte) : layoutView (takeWatched s w) = layoutView s := by
  unfold takeWatched; repeat' split
  all_goals simp
theorem layoutView_foldl_takeWatched (ws : List (Nat × List Byte)) (s : State) : layoutView (ws.foldl takeWatched s) = layoutView s := by
  induction ws generalizing s with
  | nil => rfl
  | cons w ws ih => exact (ih _).trans (layoutView_takeWatched s w)
@[simp] theorem layoutView_handOn (window : Option Channel) (p : HostRequest) : layoutView (handOn window p s) = layoutView s := by
  simp only [handOn, handTrailer]; repeat' split
  all_goals simp [layoutView_foldl_takeWatched]
@[simp] theorem layoutView_performTake (p : HostRequest) (target : Nat) (window : Option Channel) :
    layoutView (performTake p target window s) = layoutView s := by simp [performTake]
@[simp] theorem layoutView_sendResponse (r : Response) : layoutView (sendResponse r s) = layoutView s := rfl
@[simp] theorem layoutView_beginGrant (port : Port) (kind : GrantKind) (m : Moved) : layoutView (beginGrant port kind m s) = layoutView s := by
  simp [beginGrant]

end Frame

end Sys2Proof.Machine
end

section
/-! SUPPORT. What a command can do to the layouts: the layout states agree after it if they did before, and outside NORMAL the committed
layout stands (R27 to R30, R33, R39, R115). Then the two statements that follow from it. -/

namespace Sys2Proof.Machine

/-! ## Moves of the view -/

/-- A move of the layouts that keeps their states in agreement, and the committed layout and the map outside NORMAL. -/
structure LayoutView.Moves (v w : LayoutView) : Prop where
  safe : v.Safe → w.Safe
  stands : v.view ≠ .normal → w.view ≠ .normal → w.committed = v.committed ∧ w.source = v.source ∧ w.map = v.map

namespace LayoutView

variable {v w : LayoutView}

@[simp] theorem Moves.refl (v : LayoutView) : v.Moves v := ⟨id, fun _ _ => ⟨rfl, rfl, rfl⟩⟩

theorem Moves.of_eq (same : w = v) : v.Moves w := same ▸ .refl v

/-- A move that ends in NORMAL may commit another layout. -/
theorem Moves.of_normal (normal : w.view = .normal) (safe : v.Safe → w.Safe) : v.Moves w := ⟨safe, fun _ other => absurd normal other⟩

/-- A view with this layout committed by the host (R29). -/
def applied (v : LayoutView) (l : Layout) : LayoutView := ⟨.configured, .host, l, none, v.view, l.map⟩

/-- A view with its staged layout discarded (R27). -/
def discarded (v : LayoutView) : LayoutView := { v with staged := none, layoutState := unstagedState v.source }

/-- A view with this layout staged (R28). -/
def withStaged (v : LayoutView) (l : Layout) : LayoutView := { v with staged := some l, layoutState := .staged }

/-- What a warm reset leaves (R39, R128). -/
def reset (v : LayoutView) : LayoutView := { v.discarded with view := .normal }

theorem applied_safe (v : LayoutView) (l : Layout) : (v.applied l).Safe := by simp [applied, Safe, unstagedState]

/-- A valid record is applied in NORMAL (R28, R29). -/
theorem applied_moves (l : Layout) (normal : v.view = .normal) : v.Moves (v.applied l) := .of_normal normal fun _ => v.applied_safe l

theorem unstagedState_ne_staged (source : CommittedSource) : unstagedState source ≠ .staged := by cases source <;> simp [unstagedState]

theorem Safe.discarded (safe : v.Safe) : v.discarded.Safe := by
  obtain ⟨-, -, -, default, map⟩ := safe
  simpa [LayoutView.discarded, Safe, unstagedState_ne_staged] using ⟨default, map⟩

theorem discarded_moves (v : LayoutView) : v.Moves v.discarded := ⟨Safe.discarded, fun _ _ => ⟨rfl, rfl, rfl⟩⟩

theorem withStaged_moves (l : Layout) (reverse : v.view ≠ .normal) : v.Moves (v.withStaged l) :=
  ⟨fun ⟨_, _, _, default, map⟩ => ⟨by simp [withStaged], fun _ => reverse, by simp [withStaged], default, map⟩, fun _ _ => ⟨rfl, rfl, rfl⟩⟩

theorem Safe.reset (safe : v.Safe) : v.reset.Safe := by
  obtain ⟨staged, -, unstaged, default, map⟩ := safe.discarded
  exact ⟨staged, fun waits => absurd waits Bool.false_ne_true, unstaged, default, map⟩

/-- A view that is not NORMAL may hold a staged layout or none (R28). -/
theorem viewed_moves {view : View} (reverse : view ≠ .normal) : v.Moves { v with view := view } :=
  ⟨fun ⟨staged, _, unstaged, default, map⟩ => ⟨staged, fun _ => reverse, unstaged, default, map⟩, fun _ _ => ⟨rfl, rfl, rfl⟩⟩

/-- With nothing staged the view may become NORMAL (R30). -/
theorem Safe.normal (safe : v.Safe) (unstaged : v.layoutState ≠ .staged) : { v with view := .normal }.Safe := by
  obtain ⟨staged, -, state, default, map⟩ := safe
  exact ⟨staged, fun waits => absurd (staged.mpr waits) unstaged, state, default, map⟩

end LayoutView

section Operations

variable (s : State)

/-! ## Layouts applied, staged and rejected -/

@[simp] theorem layoutView_applyLayout (l : Layout) : layoutView (applyLayout l s) = (layoutView s).applied l := by
  simp [applyLayout, LayoutView.applied]

@[simp] theorem layoutView_rejectCommit (f : CheckFailure) (code : ResultCode) :
    layoutView (rejectCommit f code s) = (layoutView s).discarded := by
  simp [rejectCommit, Lyu.discardStaged, LayoutView.discarded]

theorem acceptCommit_moves (l : Layout) : (layoutView s).Moves (layoutView (acceptCommit l s)) := by
  have staged : s.rvc.view ≠ .normal → (layoutView s).Moves ((layoutView s).withStaged l) :=
    LayoutView.withStaged_moves (v := layoutView s) l
  simp only [acceptCommit]
  split
  · next normal => simpa using LayoutView.applied_moves (v := layoutView s) l normal
  · next reverse => simpa [LayoutView.withStaged] using staged (by simp [reverse])
  · next reverse => simpa [LayoutView.withStaged] using staged (by simp [reverse])

/-! ## The reverse view -/

@[simp] theorem layoutView_handView (before : View) : layoutView (handView before s) = layoutView s := by
  have chu : ∀ u after, layoutView (chuViewNotice before after u) = layoutView u := fun u after =>
    (works_chuViewNotice u before after).only.layoutView
  simp [handView, chu]

@[simp] theorem layoutView_engageChime (cause : EngageCause) : layoutView (engageChime cause s) = layoutView s := by
  unfold engageChime; split <;> simp

theorem layoutView_viewStopped : layoutView (viewStopped s) = { layoutView s with view := .normal } := by
  simp [viewStopped, Rvc.ended]

/-- At the entry into NORMAL a staged layout is applied, and without one the committed layout stands (R30). -/
theorem enterNormal_moves : (layoutView s).Moves (layoutView (enterNormal s)) := by
  have stopped := layoutView_viewStopped s
  have lyu : (viewStopped s).lyu.layoutState = s.lyu.layoutState ∧ (viewStopped s).lyu.staged = s.lyu.staged :=
    ⟨congrArg LayoutView.layoutState stopped, congrArg LayoutView.staged stopped⟩
  rw [enterNormal_eq, normalEntryNotice]
  split
  · next l _ _ =>
    refine .of_normal ?_ fun _ => ?_
    · simp [stopped, LayoutView.applied]
    · simpa using LayoutView.applied_safe _ l
  · next unstaged =>
    rw [stopped]
    refine .of_normal rfl fun safe => safe.normal fun state => ?_
    obtain ⟨l, staged⟩ := Option.isSome_iff_exists.mp (safe.1.mp state)
    exact unstaged l (lyu.1.trans state) (lyu.2.trans staged)

@[simp] theorem layoutView_viewEngage (cause : EngageCause) :
    layoutView (viewEngage cause s) = { layoutView s with view := .engaged } := by simp [viewEngage]

@[simp] theorem layoutView_viewReengage (cause : EngageCause) :
    layoutView (viewReengage cause s) = { layoutView s with view := .engaged } := by simp [viewReengage]

theorem viewHold_moves : (layoutView s).Moves (layoutView (viewHold s)) := by
  simp only [viewHold]
  split
  · exact enterNormal_moves s
  · simpa using LayoutView.viewed_moves (v := layoutView s) (view := .hold) (by decide)

theorem evaluateDemand_moves (cause : EngageCause) : (layoutView s).Moves (layoutView (evaluateDemand cause s)) := by
  have engaged := LayoutView.viewed_moves (v := layoutView s) (view := .engaged) (by decide)
  unfold evaluateDemand
  split
  · simpa using engaged
  · exact viewHold_moves s
  · simpa using engaged
  all_goals exact .refl _

theorem viewCameraOff_moves : (layoutView s).Moves (layoutView (viewCameraOff s)) := by
  have ended := enterNormal_moves (setRvc { s.rvc with hostRequest := false } s)
  simp only [layoutView_setRvc, layoutView_fields] at ended
  simp only [viewCameraOff]
  split
  · simp
  · simp
  · exact ended
  · exact ended

theorem requestViewCamera_moves (argument : Nat) : (layoutView s).Moves (layoutView (requestViewCamera argument s).1) := by
  unfold requestViewCamera
  split
  · exact viewCameraOff_moves s
  · simpa using evaluateDemand_moves (setRvc { s.rvc with hostRequest := true } s) .host
  · exact .refl _

@[simp] theorem takeEdge_view (r : Rvc) (t : Millis) (level : RevLevel) : (r.takeEdge t level).view = r.view := by
  unfold Rvc.takeEdge
  split <;> rfl

@[simp] theorem layoutView_beginActing : layoutView (beginActing s) = layoutView s := by simp [beginActing]

theorem qualifyRev_moves : (layoutView s).Moves (layoutView (qualifyRev s)) := by
  unfold qualifyRev
  repeat' split
  · exact .refl _
  · next p _ _ => simpa using evaluateDemand_moves (setRvc { s.rvc with revQualified := p.level, revPending := none } s) .rev
  · exact .refl _

theorem endHold_moves : (layoutView s).Moves (layoutView (endHold s)) := by
  unfold endHold
  repeat' split
  · exact enterNormal_moves s
  all_goals simp

/-! ## The warm reset -/

theorem layoutView_reverseWarmReset : layoutView (reverseWarmReset s) = { layoutView s with view := .normal } := rfl

@[simp] theorem layoutView_applyReset : layoutView (applyReset s) = (layoutView s).reset := by
  simp [applyReset, faultWarmReset, layoutView_reverseWarmReset, Lyu.discardStaged, Lyu.abandonCommit, LayoutView.reset, LayoutView.discarded]

@[simp] theorem layoutView_releaseReset : layoutView (releaseReset s) = layoutView s := by simp [releaseReset, unhold]

@[simp] theorem layoutView_resetNow : layoutView (resetNow s) = (layoutView s).reset := by unfold resetNow; split <;> simp

@[simp] theorem layoutView_startDrain : layoutView (startDrain s) = layoutView s := by simp [startDrain]

end Operations

/-- A drain that ends in the event applies the reset after the event's own work (R38). -/
theorem LayoutView.Moves.checkDrain {v : LayoutView} {s : State} (h : v.Moves (layoutView s)) : v.Moves (layoutView (checkDrain s)) := by
  unfold Machine.checkDrain
  split
  · rw [layoutView_resetNow]
    exact .of_normal rfl fun safe => (h.safe safe).reset
  · exact h

theorem takeAssertion_moves (s : State) : (layoutView s).Moves (layoutView (takeAssertion s)) := by
  unfold takeAssertion
  split
  · rw [layoutView_resetNow]
    exact .of_normal rfl LayoutView.Safe.reset
  · exact LayoutView.Moves.checkDrain (by simp)

/-! ## Commands -/

/-- Every next state of an outcome is a move of the layouts. -/
def MovesLayout (s : State) (o : Host.Outcome State Fault Refusal) : Prop := ∀ t : State, o = .next t → (layoutView s).Moves (layoutView t)

@[simp] theorem movesLayout_next (s t : State) : MovesLayout s (.next t) ↔ (layoutView s).Moves (layoutView t) :=
  ⟨fun h => h t rfl, fun h _ next => by cases next; exact h⟩

@[simp] theorem movesLayout_fault (s : State) (f : Fault) : MovesLayout s (.fault f) := fun _ h => by cases h

@[simp] theorem movesLayout_refused (s : State) (r : Refusal) : MovesLayout s (.refused r) := fun _ h => by cases h

section Commands

variable (s : State)

/-! ### Grants -/

theorem movesLayout_grantRead {port : Port} {kind : GrantKind} {r : Req} {granted : State → State}
    (h : layoutView (granted s) = layoutView s) : MovesLayout s (grantRead port kind r granted s) := by
  unfold grantRead
  split <;> simp [h]

theorem movesLayout_withClaim {c : Claim} {f : Req → Host.Outcome State Fault Refusal} (h : ∀ r, MovesLayout s (f r)) :
    MovesLayout s (withClaim c s f) := by
  unfold withClaim
  split
  · exact h _
  · simp
  · simp

theorem movesLayout_grantHost (p : HostRequest) : MovesLayout s (grantHost p s) := by
  unfold grantHost
  repeat' split
  all_goals simp [answerTake]

theorem movesLayout_grantStatus : MovesLayout s (grantStatus s) := by
  unfold grantStatus
  split <;> simp [grantSection, grantResult]

theorem movesLayout_grantTo (port : Port) : MovesLayout s (grantTo port s) := by
  have capture : ∀ r, MovesLayout s (grantCapture r s) := fun r => by
    simp only [grantCapture]
    repeat' split
    all_goals simp
  unfold grantTo
  split
  · split
    · exact movesLayout_grantHost s _
    · simp
  · exact movesLayout_grantStatus s
  case h_10 => exact movesLayout_withClaim s capture
  all_goals exact movesLayout_withClaim s fun r => movesLayout_grantRead s (by simp)

theorem movesLayout_execArbiterGrant : MovesLayout s (execArbiterGrant s) := by
  unfold execArbiterGrant
  split
  · next k port _ _ _ => exact fun t h => by simpa using movesLayout_grantTo { s with fmc := s.fmc.setRotation k port } port t h
  all_goals simp

/-! ### The request ring -/

theorem dispatchKind_moves {kind : Nat} {e : List Byte} {r : State × Option ResultCode} (h : dispatchKind kind e s = some r) :
    (layoutView s).Moves (layoutView r.1) := by
  unfold dispatchKind at h
  dsimp only at h
  split at h
  case h_11 => cases h; exact requestViewCamera_moves s _
  case h_18 => cases h
  all_goals
    cases h
    refine .of_eq ?_
    simp [answered, layoutView_filmRequest]

theorem judgeEntry_moves (index : Count) (e : List Byte) : (layoutView s).Moves (layoutView (judgeEntry index e s)) := by
  simp only [judgeEntry]
  repeat' split
  · simp
  · simp
  · next r dispatched =>
    have acts := dispatchKind_moves _ dispatched
    rw [layoutView_enterPhase] at acts
    unfold finishDispatch
    split
    · simpa using acts
    · exact acts
  · simp

theorem entryFetched_moves (beats : List ReadBeat) : (layoutView s).Moves (layoutView (entryFetched beats s)) := by
  simp only [entryFetched]
  repeat' split
  · simp
  · simpa using judgeEntry_moves (setRqe { s.rqe with claim := .idle, fetched := beatData beats } s) _ _
  · simp

theorem movesLayout_execEntryFetchComplete : MovesLayout s (execEntryFetchComplete s) := by
  unfold execEntryFetchComplete
  split
  · next beats _ =>
    have fetched := entryFetched_moves (freeFmc s) beats
    rw [layoutView_freeFmc] at fetched
    simpa using fetched.checkDrain
  · simp

theorem movesLayout_execLayoutFetchGrantComplete : MovesLayout s (execLayoutFetchGrantComplete s) := by
  simp only [execLayoutFetchGrantComplete]
  repeat' split
  all_goals simp [LayoutView.discarded_moves]

theorem movesLayout_execValidationEnd : MovesLayout s (execValidationEnd s) := by
  unfold execValidationEnd
  repeat' split
  all_goals simp [LayoutView.discarded_moves, acceptCommit_moves]

/-! ### The resets -/

theorem movesLayout_execPowerOnReset : MovesLayout s (execPowerOnReset s) := by
  rw [execPowerOnReset, movesLayout_next]
  refine .of_normal rfl fun _ => ?_
  simp [State.reset, LayoutView.Safe, Lyu.reset, unstagedState, Layout.default]

theorem movesLayout_execInitEnd : MovesLayout s (execInitEnd s) := by
  have begun : layoutView (beginActing (raiseCause .resetDone (markDirty .s0 (enterRunning s)))) = layoutView s := by
    simp [enterRunning]
  simp only [execInitEnd]
  repeat' split
  · simp
  · simp [begun]
  · rw [movesLayout_next, ← begun]
    exact takeAssertion_moves _

theorem movesLayout_execWrstAssert : MovesLayout s (execWrstAssert s) := by
  simp only [execWrstAssert]
  repeat' split
  · simp
  · simpa using takeAssertion_moves { s with pins := { s.pins with wrst := .high } }
  all_goals simp

theorem movesLayout_execDrainLimitExpiry : MovesLayout s (execDrainLimitExpiry s) := by
  unfold execDrainLimitExpiry
  split
  · rw [movesLayout_next, layoutView_resetNow]
    exact .of_normal rfl LayoutView.Safe.reset
  · simp

end Commands

/-- What every command can do to the layouts. -/
theorem exec_movesLayout (c : Instr) (s : State) : MovesLayout s (exec c s) := by
  have drains : ∀ u : State, layoutView u = layoutView s → MovesLayout s (.next (checkDrain u)) := fun u same => by
    rw [movesLayout_next]
    exact LayoutView.Moves.checkDrain (.of_eq same)
  cases c
  case powerOnReset => exact movesLayout_execPowerOnReset s
  case initEnd => exact movesLayout_execInitEnd s
  case arbiterGrant => exact movesLayout_execArbiterGrant s
  case entryFetchComplete => exact movesLayout_execEntryFetchComplete s
  case layoutFetchGrantComplete => exact movesLayout_execLayoutFetchGrantComplete s
  case validationEnd => exact movesLayout_execValidationEnd s
  case wrstAssert => exact movesLayout_execWrstAssert s
  case drainLimitExpiry => exact movesLayout_execDrainLimitExpiry s
  case revPendingExpiry => simpa [exec, execRevPendingExpiry] using (qualifyRev_moves s).checkDrain
  case holdTimerExpiry => simpa [exec, execHoldTimerExpiry] using (endHold_moves s).checkDrain
  case frameStart | line | frameEnd | blockBoundary => exact drains _ (by simp)
  case resultWriteComplete | cameraLineWriteComplete =>
    simp only [exec, execResultWriteComplete, execCameraLineWriteComplete]
    split
    · exact drains _ (by simp)
    · simp
  case memoryCellDisturbance | hostRequestPacket | hostGrantComplete | statusSectionWriteComplete | wrstDeassert | refreshStart |
      lineDue | lineFetchGrantComplete | descriptorFetchComplete | idleTimerExpiry | revEdge | firstFrameDeadlineExpiry |
      lostTimerExpiry | unknownCameraPacket | staleTimerExpiry | guideListGrantComplete | distanceTimerExpiry |
      clipDirectoryFetchComplete | clipBlockFetchComplete | tonePeriodWrap | audioBlockFetchComplete | partTimeTick =>
    simp only [exec, execMemoryCellDisturbance, execHostRequestPacket, execHostGrantComplete, execStatusSectionWriteComplete,
      execWrstDeassert, execRefreshStart, execLineDue, execLineFetchGrantComplete, execDescriptorFetchComplete, execIdleTimerExpiry,
      execRevEdge, execFirstFrameDeadlineExpiry, execLostTimerExpiry, execUnknownCameraPacket, execStaleTimerExpiry,
      execGuideListGrantComplete, execDistanceTimerExpiry, execClipDirectoryFetchComplete, execClipBlockFetchComplete,
      execTonePeriodWrap, execAudioBlockFetchComplete, execPartTimeTick]
    repeat' split
    all_goals simp

/-! ## The statements -/

/-- Settles O8: the invariant speaks of the view alone, and every command is a move of the view that keeps it. -/
theorem layoutStatesAgree : Obligations.LayoutStatesAgree :=
  step_keeps (fun _ _ => id) fun c s t safe h =>
    (layoutSafe_iff t).mpr ((exec_movesLayout c s t h).safe ((layoutSafe_iff s).mp safe))

/-- Settles O17: a move of the view that begins and ends outside NORMAL commits no layout. -/
theorem layoutStandsInReverseView : Obligations.LayoutStandsInReverseView :=
  fun c s t h before after => (exec_movesLayout c s t h).stands before after

end Sys2Proof.Machine
end

section
/-! The tone voice's counter and the wrap, and the tick of part time (R35, R155). -/

namespace Sys2Proof.Machine

/-- The wrap of the tone voice by what is pending (R155). -/
theorem Tone.wrap_spec (t : Tone) :
    t.wrap.counter = 0 ∧ t.wrap.beepStarted = true ∧ t.wrap.pending = .none ∧
    (t.pending = .none → t.wrap.sounding = t.sounding ∧ t.wrap.cadence = t.cadence) ∧
    (∀ c : Cadence, t.pending = .cadence c → t.wrap.sounding = t.sounding ∧ t.wrap.cadence = c) ∧
    (t.pending = .stop → t.wrap.sounding = false) := by
  cases pending : t.pending <;> simp [Tone.wrap, pending]

theorem Tone.tick_silent {t : Tone} (silent : t.sounding = false) : t.tick = t := by simp [Tone.tick, silent]

/-- Below its period the counter of a SOUNDING voice rises by one (R155). -/
theorem Tone.tick_counts {t : Tone} (sounding : t.sounding = true) (due : t.wrapDue = false)
    (below : t.counter + 1 < t.cadence.period) : t.tick = { t with counter := t.counter + 1 } := by
  simp [Tone.tick, sounding, due, below]

/-- At the tick that would reach the period the wrap is due (R155, log 16). -/
theorem Tone.tick_reaches {t : Tone} (sounding : t.sounding = true) (due : t.wrapDue = false)
    (reaches : t.cadence.period ≤ t.counter + 1) : t.tick = { t with wrapDue := true } := by
  simp [Tone.tick, sounding, due, Nat.not_lt.mpr reaches]

/-- Part time one tick further (R35). -/
def ticked (s : State) : State := { s with lyu := { s.lyu with partTime := s.lyu.partTime + 1 } }

/-- Settles O58: the wrap and the tick act on the tone voice by the cases of R155. -/
theorem toneCountsAndWraps : Obligations.ToneCountsAndWraps := by
  refine ⟨fun s sounding due => ?_, fun s running => ?_, fun s init => by simp [exec, execPartTimeTick, init]⟩
  · obtain ⟨counter, started, pending, quiet, cadence, stop⟩ := s.chu.tone.wrap_spec
    rw [sounding] at quiet cadence
    refine ⟨setChu { s.chu with tone := s.chu.tone.wrap } s, by simp [exec, execTonePeriodWrap, sounding, due], ?_⟩
    rw [setChu_chu]
    exact ⟨counter, started, pending, rfl, rfl, quiet, cadence, stop, (works_setChu s _).only⟩
  · have ticks : ChangesOnly [.lyu] s (ticked s) := fun b hb => by
      cases b <;> first | rfl | exact absurd (by simp) hb
    refine ⟨setChu { s.chu with tone := s.chu.tone.tick } (ticked s), by simp [exec, execPartTimeTick, running, ticked], ?_⟩
    rw [setChu_chu, setChu_lyu]
    exact ⟨rfl, rfl, rfl, Tone.tick_silent, Tone.tick_counts, Tone.tick_reaches,
      (ticks.mono (by simp)).trans ((works_setChu (ticked s) _).only.mono (by simp))⟩

end Sys2Proof.Machine
end

section
/-! The completions of the status writer: a written result lets the ring advance, and a written section leads to the next claim (R36, R37,
R43, R47, R48). -/

namespace Sys2Proof.Machine

/-! ## The end of a drain -/

/-- No drain ends while a block has not reported its boundary (R38). -/
theorem checkDrain_of_notLast {s : State} {others : List Drain} (h : NotLast s others)
    (three : others ⊆ [s.rqe.drain, s.ccp.drain, s.chu.drain]) : checkDrain s = s := by
  have goes : drainOver s = false := by
    rcases h with calm | ⟨d, other, waits⟩
    · simp [drainOver, calm]
    · have one := three other
      simp only [List.mem_cons, List.not_mem_nil, or_false] at one
      rcases one with rfl | rfl | rfl <;> simp [drainOver, waits]
  rw [checkDrain, goes]
  rfl

/-- A drain whose three boundaries are reported ends in the reset (R38). -/
theorem checkDrain_of_drained {s : State} (h : Drains s .drained .drained .drained) : checkDrain s = resetNow s := by
  obtain ⟨phase, ring, capture, chimes⟩ := h
  have ends : drainOver s = true := by simp [drainOver, phase, ring, capture, chimes]
  rw [checkDrain, ends]
  rfl

/-! ## The ring's advance (R47, R48) -/

/-- RQE with its entry done: consumer has advanced, and a drain has reached its boundary. -/
def Rqe.advanced (r : Rqe) : Rqe :=
  { r with consumer := r.consumer + 1, entry := none, fetched := [], drain := if r.drain = .none then .none else .drained }

theorem Rqe.advance_eq (r : Rqe) : r.advance = r.advanced.kick := by
  unfold Rqe.advance Rqe.advanced
  cases r.drain <;> rfl

@[simp] theorem Rqe.kick_drain (r : Rqe) : r.kick.drain = r.drain := by
  unfold Rqe.kick Rqe.raise Rqe.start
  repeat' split
  all_goals rfl

/-- The advance moves consumer on and reports the boundary of a drain (R47, R48). -/
theorem Rqe.advance_ring (r : Rqe) :
    r.advance.consumer = r.consumer + 1 ∧ r.advance.producer = r.producer ∧
    r.advance.drain = if r.drain = .none then .none else .drained := by
  rw [Rqe.advance_eq, Rqe.kick_drain]
  exact ⟨Rqe.kick_ring.2, Rqe.kick_ring.1, rfl⟩

/-- With no entry beyond the one done, or in a drain, RQE starts none (R43, R48). -/
theorem Rqe.advance_rests {r : Rqe} (rests : r.producer = r.consumer + 1 ∨ r.drain ≠ .none) : r.advance.entry = none := by
  rw [Rqe.advance_eq]
  refine (Rqe.kick_resting ?_).2.2
  rcases rests with last | drains
  · simp [Rqe.mayStart, Rqe.advanced, last]
  · simp [Rqe.mayStart, Rqe.advanced, drains]

/-- With another entry in the ring RQE fetches it (R43, R47). -/
theorem Rqe.advance_starts {r : Rqe} (more : r.producer ≠ r.consumer + 1) (calm : r.drain = .none) (free : r.held = false) :
    r.advance.entry = some ⟨r.consumer + 1, .fetching⟩ ∧
    (r.claim = .idle → r.advance.claim = .waiting ⟨entryAddress (r.consumer + 1), 2⟩) := by
  rw [Rqe.advance_eq]
  have starts : r.advanced.mayStart = true := by simpa [Rqe.mayStart, Rqe.advanced, calm, free] using more.symm
  obtain ⟨-, -, entry, claim⟩ := Rqe.kick_starting starts
  exact ⟨entry, claim⟩

/-! ## The completion of a result write (R47) -/

/-- The state with an entry's result written (R47). -/
def resultDone (s : State) : State :=
  markDirty .s0 (setRqe s.rqe.advance { freeFmc s with stw := { s.stw with result := none, claim := .idle } })

theorem resultWritten_eq {s : State} {r : ResultWrite} {index : Count} (result : s.stw.result = some r)
    (entry : s.rqe.entry = some ⟨index, .writingResult⟩) : resultWritten (freeFmc s) = resultDone s := by
  simp only [resultWritten, freeFmc_stw, freeFmc_rqe, result, entry]
  rfl

theorem exec_resultWriteComplete {s : State} {beats : List ReadBeat} {r : ResultWrite} {index : Count}
    (busy : s.fmc.busy = some ⟨.resultWrite, beats⟩) (result : s.stw.result = some r)
    (entry : s.rqe.entry = some ⟨index, .writingResult⟩) : exec .resultWriteComplete s = .next (checkDrain (resultDone s)) := by
  simp only [exec, execResultWriteComplete, busy, resultWritten_eq result entry]

theorem resultDone_changesOnly (s : State) : ChangesOnly [.fmc, .rqe, .stw] s (resultDone s) := fun b hb => by
  cases b <;> first | rfl | exact absurd (by simp) hb

/-! ## The completion of a section write (R36) -/

/-- The state with a section written: STW raises its next claim (R36). -/
def sectionDone (s : State) : State := { freeFmc s with stw := { s.stw with claim := .idle }.raise }

theorem exec_statusSectionWriteComplete {s : State} {beats : List ReadBeat} (busy : s.fmc.busy = some ⟨.statusSection, beats⟩) :
    exec .statusSectionWriteComplete s = .next (sectionDone s) := by
  simp only [exec, execStatusSectionWriteComplete, busy]
  rfl

theorem sectionDone_changesOnly (s : State) : ChangesOnly [.fmc, .stw] s (sectionDone s) := fun b hb => by
  cases b <;> first | rfl | exact absurd (by simp) hb

/-- Settles O37: the ring advances by the cases of R47 and R48, and STW goes on to a result in hand or the lowest dirty section. -/
theorem statusWriterCompletions : Obligations.StatusWriterCompletions := by
  refine ⟨fun s beats r index busy result entry calm => ?_, fun s beats busy => ?_⟩
  · have stands : checkDrain (resultDone s) = resultDone s := checkDrain_of_notLast (others := [s.ccp.drain, s.chu.drain]) calm
      (List.subset_cons_self _ _)
    obtain ⟨consumer, producer, drain⟩ := s.rqe.advance_ring
    refine ⟨resultDone s, by rw [exec_resultWriteComplete busy result entry, stands], rfl, consumer, producer, by simp [resultDone],
      by simp [resultDone], fun last => Rqe.advance_rests (.inl last), fun more drain' free => Rqe.advance_starts more drain' free,
      fun drains => ⟨Rqe.advance_rests (.inr drains), drain.trans (if_neg drains)⟩, resultDone_changesOnly s⟩
  · have claim := Stw.raise_claim_idle (w := { s.stw with claim := .idle }) rfl
    refine ⟨sectionDone s, exec_statusSectionWriteComplete busy, rfl, by simp [sectionDone], by simp [sectionDone], fun held => ?_,
      fun k empty lowest => ?_, fun empty clean => ?_, sectionDone_changesOnly s⟩
    · exact claim.trans (if_pos (Option.isSome_iff_ne_none.mpr held))
    · exact claim.trans (by simp [empty, lowest])
    · exact claim.trans (by simp [empty, clean])

end Sys2Proof.Machine
end

section
/-! The layout record: its fetch in two halves, its rejection, and its end of validation (R25 to R29). -/

namespace Sys2Proof.Machine

/-! ## A rejected record (R25, R27) -/

/-- Of LYU a report reads the committed layout, INIT or RUNNING, and part time alone (R164 to R168). -/
theorem report_flt_of_committed {s u : State} (r : Report) (flt : u.flt = s.flt) (committed : u.lyu.committed = s.lyu.committed)
    (partState : u.lyu.partState = s.lyu.partState) (partTime : u.lyu.partTime = s.lyu.partTime) :
    (report r u).flt = (report r s).flt := by
  have stamps : stamp u = stamp s := by unfold stamp now; rw [partState, partTime]
  unfold report
  simp only [committed, partState, flt, stamps]
  split
  · exact flt
  · split
    · rfl
    · rw [takeAction_flt, takeAction_flt]
      rfl

/-- LYU once a record is rejected by a check (R27). -/
def Lyu.rejected (l : Lyu) (f : CheckFailure) : Lyu := { l.discardStaged with commit := .none, lastCommitCheck := some f.check }

/-- The report of a rejected record (R25, R26). -/
def layoutReport (f : CheckFailure) : Report := ⟨.layoutInvalid, .layout, .layoutCheck f.check f.row, none⟩

theorem setLyu_changesOnly (l : Lyu) (s : State) : ChangesOnly [.lyu] s (setLyu l s) := fun b hb => by
  cases b <;> first | rfl | exact absurd (by simp) hb

theorem rejectCommit_eq (f : CheckFailure) (code : ResultCode) (s : State) :
    rejectCommit f code s = giveResult code (markDirty .s0 (setLyu (s.lyu.rejected f) (report (layoutReport f) s))) := by
  simp [rejectCommit, reportPlain, layoutReport, Lyu.rejected]

theorem rejectCommit_reportsBeside (f : CheckFailure) (code : ResultCode) (s : State) :
    ReportsBeside [.lyu, .rqe] s (rejectCommit f code s) := by
  have reported := report_changesOnly (layoutReport f) s
  have refused := setLyu_changesOnly (s.lyu.rejected f) (report (layoutReport f) s)
  have marked := markDirty_changesOnly .s0 (setLyu (s.lyu.rejected f) (report (layoutReport f) s))
  have answered := giveResult_changesOnly code (markDirty .s0 (setLyu (s.lyu.rejected f) (report (layoutReport f) s)))
  rw [← rejectCommit_eq] at answered
  unfold ReportsBeside
  exact (((reported.mono (by simp)).trans (refused.mono (by simp))).trans (marked.mono (by simp))).trans
    (answered.mono (by simp))

/-- What the rejection of a record is: the answer, the discard of a staged layout, the report, and S0's mark (R27). -/
theorem rejectCommit_spec {s : State} {index : Count} {phase : EntryPhase} (f : CheckFailure) (code : ResultCode)
    (entry : s.rqe.entry = some ⟨index, phase⟩) :
    Answered code index s (rejectCommit f code s) ∧ (rejectCommit f code s).lyu = s.lyu.rejected f ∧
    (rejectCommit f code s).flt = (report (layoutReport f) s).flt ∧ (rejectCommit f code s).stw.dirty.has .s0 = true := by
  rw [rejectCommit_eq]
  refine ⟨?_, by simp, by simp, by simp⟩
  have answered := giveResult_answered (code := code) (index := index) (phase := phase)
    (s := markDirty .s0 (setLyu (s.lyu.rejected f) (report (layoutReport f) s))) (by simp [entry])
  simpa [Answered] using answered

/-! ## LAYOUT_COMMIT at its dispatch (R25) -/

theorem requestLayoutCommit_busy {s : State} (busy : channelsIdle s = false) : requestLayoutCommit s = (s, some .busy) := by
  simp [requestLayoutCommit, busy]

theorem requestLayoutCommit_fetches {s : State} (idle : channelsIdle s = true) :
    requestLayoutCommit s = (setLyu { s.lyu with commit := .firstHalf }.kick s, none) := by
  simp [requestLayoutCommit, idle]

/-- LYU's kick changes its claim alone, and with the port free claims the half to be fetched (R25). -/
theorem Lyu.kick_keeps (l : Lyu) :
    l.kick.commit = l.commit ∧ l.kick.committed = l.committed ∧ l.kick.phase = l.phase ∧
    (∀ r, l.claim = .idle → commitRequest l.commit = some r → l.kick = { l with claim := .waiting r }) := by
  unfold Lyu.kick
  split
  · next idle request => exact ⟨rfl, rfl, rfl, fun r _ same => by rw [request] at same; cases same; rfl⟩
  · next other => exact ⟨rfl, rfl, rfl, fun r idle request => absurd request (other r idle)⟩

section Dispatch

variable {s : State} {index : Count} {e : List Byte}

/-- With a film channel not IDLE the commit is BUSY (R25). -/
theorem layoutCommit_busy (h : EntryFetched s index e) (kind : get16 e 0 = 1) (busy : channelsIdle s = false) :
    ∃ t : State, exec .entryFetchComplete s = .next t ∧ Answered .busy index s t ∧ t.fmc = { s.fmc with busy := none } ∧
      t.lyu = s.lyu ∧ ChangesOnly [.fmc, .rqe, .stw] s t := by
  have dispatch : dispatchKind (get16 e 0) e (dispatchState e s) = some (dispatchState e s, some .busy) := by
    rw [kind]
    exact congrArg some (requestLayoutCommit_busy (s := dispatchState e s) busy)
  obtain ⟨runs, answer⟩ := exec_dispatch h (by rw [kind]; rfl) (.inr (by rw [kind]; rfl)) dispatch (.refl [] _) rfl
  exact ⟨_, runs, answer, by simp [dispatchState, enterPhase, freeFmc], by simp [dispatchState, enterPhase],
    dispatch_changesOnly (blocks := []) (.refl [] _)⟩

/-- The state with the first half of the record to be fetched (R25). -/
def commitBegun (e : List Byte) (s : State) : State := setLyu { s.lyu with commit := .firstHalf }.kick (dispatchState e s)

/-- With both film channels IDLE the first half is fetched (R25). -/
theorem layoutCommit_fetches (h : EntryFetched s index e) (kind : get16 e 0 = 1) (idle : channelsIdle s = true) :
    exec .entryFetchComplete s = .next (commitBegun e s) := by
  have dispatch : dispatchKind (get16 e 0) e (dispatchState e s) = some (commitBegun e s, none) := by
    rw [kind]
    exact congrArg some (requestLayoutCommit_fetches (s := dispatchState e s) idle)
  have calm : NotDraining (commitBegun e s) := by
    have phase := (Lyu.kick_keeps { s.lyu with commit := .firstHalf }).2.2.1
    exact fun drains => h.calm (phase.symm.trans drains)
  rw [exec_entryFetchComplete h, judgeEntry_dispatches (by rw [kind]; rfl) (.inr (by rw [kind]; rfl)) dispatch]
  exact congrArg Host.Outcome.next (checkDrain_of_notDraining _ calm)

theorem commitBegun_changesOnly : ChangesOnly [.fmc, .rqe, .stw, .lyu] s (commitBegun e s) := fun b hb => by
  cases b <;> first | rfl | exact absurd (by simp) hb

theorem layoutCommit_dispatched (h : EntryFetched s index e) (kind : get16 e 0 = 1) :
    ∃ t : State, exec .entryFetchComplete s = .next t ∧ GrantEnded s t ∧ ChangesOnly [.fmc, .rqe, .stw, .lyu] s t ∧
      (channelsIdle s = false → Answered .busy index s t ∧ t.lyu = s.lyu) ∧
      (channelsIdle s = true → WithOwner index s t ∧ t.lyu.commit = .firstHalf ∧ t.lyu.committed = s.lyu.committed ∧
        (s.lyu.claim = .idle → t.lyu.claim = .waiting ⟨0x1FFFF000, 16⟩)) := by
  cases idle : channelsIdle s with
  | false =>
    obtain ⟨t, runs, answer, fmc, lyu, only⟩ := layoutCommit_busy h kind idle
    exact ⟨t, runs, fmc, only.mono (by simp), fun _ => ⟨answer, lyu⟩, fun other => absurd other (by simp)⟩
  | true =>
    obtain ⟨commit, committed, -, claims⟩ := Lyu.kick_keeps { s.lyu with commit := .firstHalf }
    refine ⟨commitBegun e s, layoutCommit_fetches h kind idle, rfl, commitBegun_changesOnly, fun other => absurd other (by simp),
      fun _ => ⟨⟨?_, rfl⟩, commit, committed, fun free => ?_⟩⟩
    · simp [commitBegun, dispatchState, enterPhase, h.entry]
    · exact congrArg Lyu.claim (claims _ free rfl)

end Dispatch

/-! ## The two halves (R25) -/

section Halves

variable {s : State} {beats : List ReadBeat}

theorem exec_firstHalf (busy : s.fmc.busy = some ⟨.layoutFetch, beats⟩) (claim : s.lyu.claim = .granted true)
    (sound : anyPoison beats = false) (half : s.lyu.commit = .firstHalf) :
    exec .layoutFetchGrantComplete s = .next { s with
      fmc := { s.fmc with busy := none }
      lyu := { s.lyu with commit := .secondHalf (beatData beats), claim := .waiting ⟨0x1FFFF100, 16⟩ } } := by
  simp [exec, execLayoutFetchGrantComplete, busy, claim, Claim.live, sound, half]
  rfl

theorem exec_secondHalf {first : List Byte} (busy : s.fmc.busy = some ⟨.layoutFetch, beats⟩) (claim : s.lyu.claim = .granted true)
    (sound : anyPoison beats = false) (half : s.lyu.commit = .secondHalf first) :
    exec .layoutFetchGrantComplete s = .next { s with
      fmc := { s.fmc with busy := none }
      lyu := { s.lyu with commit := .validating (first ++ beatData beats), claim := .idle } } := by
  simp [exec, execLayoutFetchGrantComplete, busy, claim, Claim.live, sound, half]
  rfl

/-- A poisoned half is rejected with check 0 (R25). -/
theorem exec_poisonedHalf (busy : s.fmc.busy = some ⟨.layoutFetch, beats⟩) (claim : s.lyu.claim = .granted true)
    (poison : anyPoison beats = true) (half : s.lyu.commit = .firstHalf ∨ ∃ b, s.lyu.commit = .secondHalf b) :
    exec .layoutFetchGrantComplete s =
      .next (rejectCommit ⟨0, none⟩ .memError (setLyu { s.lyu with claim := .idle } (freeFmc s))) := by
  rcases half with first | ⟨b, second⟩
  · simp [exec, execLayoutFetchGrantComplete, busy, claim, Claim.live, poison, first]
  · simp [exec, execLayoutFetchGrantComplete, busy, claim, Claim.live, poison, second]

end Halves

/-- Settles O38: the dispatch of LAYOUT_COMMIT, and the completion of each half, sound or poisoned. -/
theorem layoutRecordIsFetched : Obligations.LayoutRecordIsFetched := by
  refine ⟨fun s index e h kind => layoutCommit_dispatched h kind, fun s beats busy claim => ⟨exec_firstHalf busy claim,
    fun first => exec_secondHalf busy claim, fun index phase poison half entry => ?_⟩⟩
  obtain ⟨u, ended⟩ : ∃ u, u = setLyu { s.lyu with claim := .idle } (freeFmc s) := ⟨_, rfl⟩
  have freed : ChangesOnly [.fmc, .lyu] s u := fun b hb => by
    subst ended
    cases b <;> first | rfl | exact absurd (by simp) hb
  obtain ⟨answer, lyu, flt, marked⟩ := rejectCommit_spec ⟨0, none⟩ .memError (s := u) (by rw [ended]; exact entry)
  have only := rejectCommit_reportsBeside ⟨0, none⟩ .memError u
  have runs := exec_poisonedHalf busy claim poison half
  rw [← ended] at runs
  refine ⟨_, runs, ?_, (only .fmc (by decide)).trans ?_, lyu.trans ?_, flt.trans ?_, marked, ?_⟩
  · rw [ended] at answer ⊢
    exact answer
  · rw [ended]
    rfl
  · rw [ended]
    rfl
  · rw [ended]
    exact report_flt_of_committed _ rfl rfl rfl rfl
  · exact (ReportsBeside.of_changesOnly (freed.mono (by simp))).trans (only.mono (by simp))

end Sys2Proof.Machine
end

section
/-! SUPPORT. Power-on (R34): the state POWER_ON_RESET reaches, block by block, and the invariants that the state after reset meets. -/

namespace Sys2Proof.Machine

/-! ## POWER_ON_RESET (R34) -/

/-- The power-on state of the part, with the cells, pins, queue and free count the model keeps (logs 4, 5, 30). -/
def poweredOn (s : State) : State :=
  { State.reset with
    fmc := { State.reset.fmc with cells := s.fmc.cells, marks := s.fmc.marks }
    pins := s.pins, freeCount := s.freeCount, pending := s.pending }

theorem exec_powerOnReset (s : State) : exec .powerOnReset s = .next (poweredOn s) := rfl

theorem DirtySet.has_all (k : StatusSection) : DirtySet.all.has k = true := by cases k <;> rfl

theorem poweredOn_engine (p : Panel) (s : State) : engine p (poweredOn s) = Den.reset := by cases p <;> rfl

theorem poweredOn_channel (x : Channel) (s : State) : (poweredOn s).fsq.get x = FilmChannel.reset := by cases x <;> rfl

theorem poweredOn_audio (x : Channel) (s : State) : (poweredOn s).aop.channels.get x = AudioChannel.reset := by cases x <;> rfl

/-- Settles O2: every block's power-on state is the one State.reset lists. -/
theorem powerOnResetState : Obligations.PowerOnResetState := by
  intro s
  refine ⟨poweredOn s, exec_powerOnReset s, ⟨rfl, rfl, rfl, rfl, rfl, rfl, rfl, rfl, rfl, rfl, rfl⟩, ⟨rfl, DirtySet.has_all⟩,
    ⟨rfl, rfl, rfl⟩, ⟨rfl, rfl, rfl⟩, ⟨rfl, rfl, rfl, rfl, rfl⟩, rfl, fun p => ?engines, ⟨rfl, rfl, rfl, rfl, rfl⟩,
    fun x => poweredOn_channel x s, rfl, rfl, rfl, rfl, rfl, ⟨rfl, rfl, rfl, rfl, rfl, rfl, rfl, rfl, rfl, rfl, rfl⟩,
    fun x => ?audio, ⟨rfl, rfl, rfl, rfl, rfl⟩, rfl, rfl, ⟨rfl, rfl⟩, rfl, rfl, rfl⟩
  case engines =>
    rw [poweredOn_engine]
    exact ⟨rfl, rfl, rfl, rfl, rfl, rfl, rfl⟩
  case audio =>
    rw [poweredOn_audio]
    exact ⟨rfl, rfl, rfl, rfl, rfl, rfl⟩

/-! ## The state after reset is safe -/

theorem creditsSafe_reset : CreditsSafe State.reset := by
  refine ⟨fun _ => ⟨rfl, rfl, rfl⟩, ?_, ?_⟩ <;> exact fun h => nomatch h

/-- No claim is granted and no grant is in progress after reset. -/
theorem grantsSafe_reset : GrantsSafe State.reset := fun p _ _ => by
  have ungranted : grantedAt State.reset p = false := by cases p <;> rfl
  have free : State.reset.fmc.busy = none := rfl
  simp [ungranted, free]

theorem classSafe_empty (k : FaultClass) : ClassSafe 0 k none none := by simp [ClassSafe]

theorem faultsSafe_reset : FaultsSafe State.reset :=
  ⟨classSafe_empty _, classSafe_empty _, classSafe_empty _, fun h => nomatch h⟩

theorem layoutSafe_reset : LayoutSafe State.reset := by
  refine ⟨?_, ?_, fun _ => rfl, fun _ => rfl, rfl⟩ <;> simp [State.reset, Lyu.reset]

theorem ringSafe_reset : RingSafe State.reset := by
  refine ⟨by decide, ?_, ?_, fun _ => rfl⟩ <;> simp [State.reset, Rqe.reset]

theorem entrySafe_reset : EntrySafe State.reset := by
  simp [EntrySafe, State.reset, Rqe.reset, Mnu.reset, Lyu.reset, entryPhase, Claim.req, Claim.live]

theorem FilmChannel.safe_reset : FilmChannel.reset.safe := by
  have empty : ∀ i : Fin 3, FilmChannel.reset.slots.get i = Slot.empty := by decide
  simp only [FilmChannel.safe, empty]
  simp [FilmChannel.reset, Slot.empty, Elapsed.valid]

theorem holdsSafe_reset : HoldsSafe State.reset := by unfold HoldsSafe; decide

theorem MenuPanel.safe_reset : MenuPanel.reset.safe := by simp [MenuPanel.safe, MenuPanel.reset]

theorem menuSafe_reset : MenuSafe State.reset := by simp [MenuSafe, State.reset, Mnu.reset, MenuPanel.safe_reset]

theorem reverseSafe_reset : ReverseSafe State.reset := by simp [ReverseSafe, State.reset, Rvc.reset, Ccp.reset]

theorem captureSafe_reset : CaptureSafe State.reset := by simp [CaptureSafe, State.reset, Ccp.reset, Engines.reset]

theorem guideSafe_reset : GuideSafe State.reset := by simp [GuideSafe, State.reset, Gdu.reset]

theorem chimesSafe_reset : ChimesSafe State.reset := by simp [ChimesSafe, State.reset, Chu.reset, Chu.stamps, Voice.blank]

theorem AudioChannel.safe_reset (capacity : Nat) : AudioChannel.reset.safe capacity := by
  simp [AudioChannel.safe, AudioChannel.reset]

/-- Settles O3, one invariant at a time. -/
theorem resetIsSafe : Obligations.ResetIsSafe where
  memory := rfl
  credits := creditsSafe_reset
  grants := grantsSafe_reset
  faults := faultsSafe_reset
  degraded := fun h => nomatch h
  layout := layoutSafe_reset
  ring := ringSafe_reset
  entry := entrySafe_reset
  film := ⟨FilmChannel.safe_reset, FilmChannel.safe_reset⟩
  holds := holdsSafe_reset
  menus := menuSafe_reset
  reverse := reverseSafe_reset
  capture := captureSafe_reset
  guide := guideSafe_reset
  chimes := chimesSafe_reset
  audio := ⟨AudioChannel.safe_reset _, AudioChannel.safe_reset _, .inl rfl⟩

end Sys2Proof.Machine
end

section
/-! SUPPORT. What a warm reset leaves and what its release adds (R39, R40): one lemma per operation, and the reset that is applied in the
event of the last boundary (R38). -/

namespace Sys2Proof.Machine

variable (s : State)

/-! ## What the menu unit's refills and fetches keep (R93, R103) -/

@[simp] theorem dropMenuFetch_panels (purpose : MenuPurpose) : (dropMenuFetch purpose s).mnu.panels = s.mnu.panels := by
  unfold dropMenuFetch; repeat' split
  all_goals rfl
@[simp] theorem dropMenuFetch_request (purpose : MenuPurpose) : (dropMenuFetch purpose s).mnu.request = s.mnu.request := by
  unfold dropMenuFetch; repeat' split
  all_goals rfl
@[simp] theorem dropMenuFetch_held (purpose : MenuPurpose) : (dropMenuFetch purpose s).mnu.held = s.mnu.held := by
  unfold dropMenuFetch; repeat' split
  all_goals rfl
@[simp] theorem dropMenuFetch_stw (purpose : MenuPurpose) : (dropMenuFetch purpose s).stw = s.stw := by
  unfold dropMenuFetch; repeat' split
  all_goals rfl
@[simp] theorem setNotices_panels (service cameraLost : NoticeCache) : (setNotices service cameraLost s).mnu.panels = s.mnu.panels := by
  unfold setNotices; split <;> rfl
@[simp] theorem setNotices_request (service cameraLost : NoticeCache) : (setNotices service cameraLost s).mnu.request = s.mnu.request := by
  unfold setNotices; split <;> rfl
@[simp] theorem setNotices_held (service cameraLost : NoticeCache) : (setNotices service cameraLost s).mnu.held = s.mnu.held := by
  unfold setNotices; split <;> rfl
@[simp] theorem setNotices_result (service cameraLost : NoticeCache) : (setNotices service cameraLost s).stw.result = s.stw.result := by
  unfold setNotices; split <;> simp
@[simp] theorem refillNotices_panels : (refillNotices s).mnu.panels = s.mnu.panels := by simp [refillNotices]
@[simp] theorem refillNotices_request : (refillNotices s).mnu.request = s.mnu.request := by simp [refillNotices]
@[simp] theorem refillNotices_held : (refillNotices s).mnu.held = s.mnu.held := by simp [refillNotices]
@[simp] theorem refillNotices_result : (refillNotices s).stw.result = s.stw.result := by simp [refillNotices]
@[simp] theorem beginMenuFetch_request (purpose : MenuPurpose) : (beginMenuFetch purpose s).mnu.request = s.mnu.request := by
  cases purpose <;> rfl
@[simp] theorem beginMenuFetch_held (purpose : MenuPurpose) : (beginMenuFetch purpose s).mnu.held = s.mnu.held := by
  cases purpose <;> rfl
@[simp] theorem beginMenuFetch_result (purpose : MenuPurpose) : (beginMenuFetch purpose s).stw.result = s.stw.result := by
  cases purpose <;> simp [beginMenuFetch, setMenuPanel]
@[simp] theorem menuKick_request : (menuKick s).mnu.request = s.mnu.request := by
  unfold menuKick; repeat' split
  all_goals simp
@[simp] theorem menuKick_held : (menuKick s).mnu.held = s.mnu.held := by
  unfold menuKick; repeat' split
  all_goals simp
@[simp] theorem menuKick_result : (menuKick s).stw.result = s.stw.result := by
  unfold menuKick; repeat' split
  all_goals simp

variable {s}

/-- With no auto-pop waiting, a fetch that starts leaves the panels as they are. -/
theorem menuKick_panels (calm : ∀ p : Panel, (s.mnu.panels.get p).autoPop ≠ .pending) : (menuKick s).mnu.panels = s.mnu.panels := by
  unfold menuKick
  split
  · split
    · rfl
    · next purpose page next =>
      cases purpose with
      | request | service | cameraLost => rfl
      | autoPop p =>
        have first := nextMenuFetch_first s
        rw [next] at first
        have waits := first.1
        simp [waitingPage, menuPanel, calm p] at waits
  · rfl

theorem menusReset_calm (p : Panel) :
    ((⟨MenuPanel.reset, MenuPanel.reset, MenuPanel.reset⟩ : PerPanel MenuPanel).get p).autoPop ≠ .pending := by cases p <;> decide

/-! ## The release of MNU (R107) -/

theorem menuRelease_only (s : State) : ChangesOnly [.mnu, .stw] s (menuRelease s) :=
  (((works_setMnu s _).seq (works_refillNotices _) (blocks := [.mnu, .stw])).seq (works_menuKick _)).only

theorem menuRelease_marks (s : State) (k : StatusSection) (h : s.stw.dirty.has k = true) : (menuRelease s).stw.dirty.has k = true :=
  (((works_setMnu s _).seq (works_refillNotices _) (blocks := [.mnu, .stw])).seq (works_menuKick _) (blocks := [.mnu, .stw])).marks k h

theorem menuRelease_held (s : State) : (menuRelease s).mnu.held = false := by simp [menuRelease]

theorem menuRelease_request (s : State) : (menuRelease s).mnu.request = s.mnu.request := by simp [menuRelease]

theorem menuRelease_result (s : State) : (menuRelease s).stw.result = s.stw.result := by simp [menuRelease]

theorem menuRelease_panels (calm : ∀ p : Panel, (s.mnu.panels.get p).autoPop ≠ .pending) :
    (menuRelease s).mnu.panels = s.mnu.panels := by
  rw [menuRelease, menuKick_panels] <;> simp [calm]

/-! ## The reset as it is applied (R39) -/

theorem Stw.warmReset_dirty (w : Stw) : w.warmReset.dirty = DirtySet.all := by simp [Stw.warmReset]

theorem Stw.warmReset_result (w : Stw) : w.warmReset.result = none := by simp [Stw.warmReset]

/-- The blocks as the warm reset leaves them, but for STW (R39, R49, R65, R89, R107, R128, R145, R163, R175). -/
def resetBlocks (s : State) : State :=
  { s with
    lyu := { s.lyu.discardStaged.abandonCommit with phase := .held, drainLimit := .stopped }
    rqe := { Rqe.reset with held := true, claim := s.rqe.claim.giveUp }
    fsq := ⟨s.fsq.a.warmReset, s.fsq.b.warmReset⟩
    den := (displayWarmReset s).den
    mnu := { Mnu.reset with held := true, claim := s.mnu.claim.giveUp }
    rvc := Rvc.reset
    ccp := { Ccp.reset with
      held := true, claim := s.ccp.claim.giveUp, pinned := s.ccp.pinned, frameNos := keepFrameNo s.ccp.pinned s.ccp.frameNos }
    gdu := { Gdu.reset with held := true, claim := s.gdu.claim.giveUp }
    wdc := { s.wdc with liveBank := none, stagedBank := none }
    pdu := { Pdu.reset with held := true }
    chu := { Chu.reset with held := true, claim := s.chu.claim.giveUp }
    aop := { Aop.reset with held := true, claim := s.aop.claim.giveUp }
    flt := { s.flt with degraded := false, causes := 0 } }

theorem applyReset_only (s : State) : ChangesOnly [.stw] (resetBlocks s) (applyReset s) := fun b hb => by
  cases b
  case stw => exact absurd (by simp) hb
  all_goals simp [Block.kept, resetBlocks, applyReset, faultWarmReset, audioWarmReset, chimeWarmReset, parkWarmReset, guideWarmReset,
    captureWarmReset, reverseWarmReset, menuWarmReset, displayWarmReset, filmWarmReset, ringWarmReset, Gdu.reset, Aop.reset]

/-- A state that differs in STW alone. -/
theorem ChangesOnly.eq_withStw {s t : State} (h : ChangesOnly [.stw] s t) : t = { s with stw := t.stw } := by
  obtain ⟨⟩ := t
  have kept := fun b hb => h b (by simpa using hb)
  cases kept .fmc (by decide)
  cases kept .hlp (by decide)
  cases kept .wdc (by decide)
  cases kept .lyu (by decide)
  cases kept .rqe (by decide)
  cases kept .den (by decide)
  cases kept .fsq (by decide)
  cases kept .mnu (by decide)
  cases kept .rvc (by decide)
  cases kept .ccp (by decide)
  cases kept .gdu (by decide)
  cases kept .pdu (by decide)
  cases kept .chu (by decide)
  cases kept .aop (by decide)
  cases kept .flt (by decide)
  cases kept .pins (by decide)
  cases kept .freeCount (by decide)
  cases kept .pending (by decide)
  rfl

theorem applyReset_eq (s : State) : applyReset s = { resetBlocks s with stw := (applyReset s).stw } := (applyReset_only s).eq_withStw

theorem applyReset_dirty (s : State) : (applyReset s).stw.dirty = DirtySet.all := by simp [applyReset, Stw.warmReset_dirty]

theorem applyReset_result (s : State) : (applyReset s).stw.result = none := by simp [applyReset, Stw.warmReset_result]

/-- What the reset makes of every block (R39). -/
theorem applyReset_warmReset (s : State) : WarmReset s (applyReset s) := by
  have result := applyReset_result s
  have dirty := applyReset_dirty s
  rw [applyReset_eq]
  generalize (applyReset s).stw = w at *
  exact
    { layout := ⟨rfl, rfl, rfl, rfl, rfl, rfl⟩
      ring := ⟨rfl, rfl, rfl, rfl, result⟩
      film := ⟨rfl, rfl, rfl, rfl, rfl, rfl⟩
      menus := ⟨rfl, rfl⟩
      reverse := ⟨rfl, rfl, rfl, rfl, rfl, rfl⟩
      capture := ⟨rfl, rfl, rfl, rfl, rfl, rfl, rfl, rfl, rfl⟩
      guide := ⟨rfl, rfl, rfl, rfl⟩
      park := ⟨rfl, rfl, rfl⟩
      chimes := ⟨rfl, rfl, rfl, rfl, rfl⟩
      audio := ⟨rfl, rfl, rfl⟩
      faults := ⟨rfl, rfl, rfl, rfl, rfl, rfl⟩
      bases := ⟨rfl, rfl, rfl, rfl, rfl⟩
      dirty := fun k => by rw [show w.dirty = DirtySet.all from dirty]; exact DirtySet.has_all k
      kept := ⟨rfl, rfl, rfl⟩ }

theorem applyReset_held (s : State) : Held (applyReset s) := by
  rw [applyReset_eq]
  exact ⟨rfl, ⟨rfl, rfl, rfl, rfl, rfl, rfl, rfl, rfl, rfl, rfl, rfl⟩, rfl, rfl, rfl⟩

/-! ## The release (R40) -/

/-- RVC as it begins to act on the present level of REV (R108). -/
def Rvc.begun (rev : Level) (t : Millis) (r : Rvc) : Rvc :=
  { r with acting := true, revQualified := .deasserted, revPending := if rev = .high then some ⟨.asserted, t + 20⟩ else none }

theorem beginActing_eq (s : State) : beginActing s = setRvc (s.rvc.begun s.pins.rev s.lyu.partTime) s := by
  cases level : s.pins.rev <;> simp [beginActing, Rvc.begun, now, level]

/-- The blocks as the release leaves them, but for MNU and STW (R40, R66, R108). -/
def releasedBlocks (s : State) : State :=
  { unhold (displayRelease s) with
    lyu := { s.lyu with phase := .none, resetCount := s.lyu.resetCount + 1 }
    rvc := s.rvc.begun s.pins.rev s.lyu.partTime
    flt := { s.flt with causes := causeJoin s.flt.causes .resetDone } }

/-- The state in which MNU is released: the blocks before it have left their hold. -/
def menuReleases (s : State) : State :=
  displayRelease (unhold (markDirty .s0 (setLyu { s.lyu with phase := .none, resetCount := s.lyu.resetCount + 1 } s)))

theorem releaseReset_eq (s : State) : releaseReset s = raiseCause .resetDone (beginActing (menuRelease (menuReleases s))) := rfl

theorem releaseReset_only (s : State) : ChangesOnly [.mnu, .stw] (releasedBlocks s) (releaseReset s) := fun b hb => by
  have menu := menuRelease_only (menuReleases s)
  have rvc : (menuRelease (menuReleases s)).rvc = s.rvc := menu .rvc (by decide)
  have pins : (menuRelease (menuReleases s)).pins = s.pins := menu .pins (by decide)
  have lyu : (menuRelease (menuReleases s)).lyu = (releasedBlocks s).lyu := menu .lyu (by decide)
  have flt : (menuRelease (menuReleases s)).flt = s.flt := menu .flt (by decide)
  have kept := menu b hb
  rw [releaseReset_eq, beginActing_eq, rvc, pins, lyu]
  cases b
  case mnu | stw => exact absurd (by simp) hb
  case rvc | flt => simp [Block.kept, releasedBlocks, flt]
  all_goals exact Eq.trans (by simp) kept

theorem releaseReset_lyu (s : State) : (releaseReset s).lyu = { s.lyu with phase := .none, resetCount := s.lyu.resetCount + 1 } :=
  releaseReset_only s .lyu (by decide)

theorem releaseReset_changesOnly (s : State) :
    ChangesOnly [.lyu, .stw, .rqe, .den, .mnu, .rvc, .ccp, .gdu, .pdu, .chu, .aop, .flt] s (releaseReset s) := by
  have blocks : ChangesOnly [.lyu, .stw, .rqe, .den, .mnu, .rvc, .ccp, .gdu, .pdu, .chu, .aop, .flt] s (releasedBlocks s) := fun b hb => by
    cases b <;> first | rfl | exact absurd (by simp) hb
  exact blocks.trans ((releaseReset_only s).mono (by simp))

theorem releaseReset_mnu (s : State) : (releaseReset s).mnu = (menuRelease (menuReleases s)).mnu := by simp [releaseReset_eq, beginActing_eq]

theorem raiseCause_marks (c : Cause) (s : State) (k : StatusSection) (h : s.stw.dirty.has k = true) :
    (raiseCause c s).stw.dirty.has k = true := (works_raiseCause s c).marks k h

/-- The release marks S0 and unmarks no section. -/
theorem releaseReset_marks (s : State) (k : StatusSection) (h : s.stw.dirty.has k = true ∨ k = .s0) :
    (releaseReset s).stw.dirty.has k = true := by
  have marked : (menuReleases s).stw.dirty.has k = true := by
    rw [show (menuReleases s).stw = (markDirty .s0 s).stw from rfl, markDirty_has]
    simpa using h
  have menu := menuRelease_marks (menuReleases s) k marked
  rw [releaseReset_eq, beginActing_eq]
  exact raiseCause_marks _ _ k (by rw [setRvc_has, menu, Bool.true_or])

@[simp] theorem setRvc_result (r : Rvc) (s : State) : (setRvc r s).stw.result = s.stw.result := by
  unfold setRvc; split <;> simp

@[simp] theorem raiseCause_result (c : Cause) (s : State) : (raiseCause c s).stw.result = s.stw.result := by
  unfold raiseCause setCauses; split <;> simp

theorem releaseReset_result (s : State) : (releaseReset s).stw.result = s.stw.result := by
  rw [releaseReset_eq, beginActing_eq, raiseCause_result, setRvc_result, menuRelease_result]
  exact markDirty_result _ _

theorem attn_of_cause {s : State} (c : Cause) (h : s.flt.causes.getLsbD c.bit = true) : s.attn = .high := by
  refine if_neg fun empty => ?_
  rw [empty] at h
  simp at h

/-- Every block is released, with RESET_DONE raised (R40). -/
theorem releaseReset_released (s : State) : Released (releaseReset s) := by
  have only := releaseReset_only s
  have rqe := only .rqe (by decide)
  have ccp := only .ccp (by decide)
  have gdu := only .gdu (by decide)
  have pdu := only .pdu (by decide)
  have chu := only .chu (by decide)
  have aop := only .aop (by decide)
  have den := only .den (by decide)
  have rvc := only .rvc (by decide)
  have flt := only .flt (by decide)
  simp only [Block.kept] at rqe ccp gdu pdu chu aop den rvc flt
  have done : (releaseReset s).flt.causes.getLsbD Cause.resetDone.bit = true := by
    rw [flt]
    exact causeJoin_has _ _
  refine ⟨by rw [releaseReset_lyu], ?_, done, attn_of_cause .resetDone done⟩
  rw [releaseReset_mnu, menuRelease_held, engine, engine, engine, rqe, ccp, gdu, pdu, chu, aop, den, rvc]
  exact ⟨rfl, rfl, rfl, rfl, rfl, rfl, rfl, rfl, rfl, rfl, rfl⟩

/-- What a reset has made of the blocks stands after its release (R40). -/
theorem WarmReset.released {s t : State} (h : WarmReset s t) : WarmReset s (releaseReset t) := by
  have only := releaseReset_only t
  have panels : (releaseReset t).mnu.panels = t.mnu.panels := by
    rw [releaseReset_mnu]
    refine menuRelease_panels fun p => ?_
    rw [show (menuReleases t).mnu = t.mnu from rfl, h.menus.1]
    exact menusReset_calm p
  have request : (releaseReset t).mnu.request = t.mnu.request := by
    rw [releaseReset_mnu, menuRelease_request]
    rfl
  have result := releaseReset_result t
  have marks := fun k h => releaseReset_marks t k (.inl h)
  have rqe : (releaseReset t).rqe = { t.rqe with held := false } := only .rqe (by decide)
  have ccp : (releaseReset t).ccp = { t.ccp with held := false } := only .ccp (by decide)
  have gdu : (releaseReset t).gdu = { t.gdu with held := false } := only .gdu (by decide)
  have pdu : (releaseReset t).pdu = { t.pdu with held := false } := only .pdu (by decide)
  have chu : (releaseReset t).chu = { t.chu with held := false } := only .chu (by decide)
  have aop : (releaseReset t).aop = { t.aop with held := false } := only .aop (by decide)
  have den : (releaseReset t).den = (displayRelease t).den := only .den (by decide)
  have rvc : (releaseReset t).rvc = t.rvc.begun t.pins.rev t.lyu.partTime := only .rvc (by decide)
  have flt : (releaseReset t).flt = { t.flt with causes := causeJoin t.flt.causes .resetDone } := only .flt (by decide)
  have fsq : (releaseReset t).fsq = t.fsq := only .fsq (by decide)
  have wdc : (releaseReset t).wdc = t.wdc := only .wdc (by decide)
  have hlp : (releaseReset t).hlp = t.hlp := only .hlp (by decide)
  have fmc : (releaseReset t).fmc = t.fmc := only .fmc (by decide)
  exact
    { layout := by rw [releaseReset_lyu]; exact h.layout
      ring := by rw [rqe, result]; exact h.ring
      film := by rw [fsq]; exact h.film
      menus := by rw [panels, request]; exact h.menus
      reverse := by
        obtain ⟨view, cause, host, health, hold, -⟩ := h.reverse
        rw [rvc]
        exact ⟨view, cause, host, health, hold, rfl⟩
      capture := by rw [ccp]; exact h.capture
      guide := by rw [gdu, wdc]; exact h.guide
      park := by rw [pdu]; exact h.park
      chimes := by rw [chu]; exact h.chimes
      audio := by rw [aop]; exact h.audio
      faults := by rw [flt]; exact h.faults
      bases := by rw [den]; exact h.bases
      dirty := fun k => marks k (h.dirty k)
      kept := by rw [hlp, fmc, releaseReset_lyu]; exact h.kept }

/-! ## The reset in one event (R38, R40) -/

theorem resetNow_high {s : State} (high : s.pins.wrst = .high) : resetNow s = applyReset s := by rw [resetNow, high]

theorem resetNow_low {s : State} (low : s.pins.wrst = .low) : resetNow s = releaseReset (applyReset s) := by rw [resetNow, low]

theorem applyReset_resetCount (s : State) : (applyReset s).lyu.resetCount = s.lyu.resetCount := by rw [applyReset_eq]; rfl

theorem resetIn_resetNow (s : State) : ResetIn s (resetNow s) := by
  have reset := applyReset_warmReset s
  have count := applyReset_resetCount s
  cases level : s.pins.wrst with
  | high =>
    rw [resetNow_high level]
    exact ⟨reset, fun _ => ⟨applyReset_held s, count⟩, fun low => absurd (level.symm.trans low) (by decide)⟩
  | low =>
    rw [resetNow_low level]
    refine ⟨reset.released, fun high => absurd (level.symm.trans high) (by decide), fun _ => ⟨releaseReset_released _, ?_⟩⟩
    rw [releaseReset_lyu]
    exact congrArg (· + 1) count

/-- A reset reads nothing of the ring, the view, capture but its pin, or the blocks it resets whole; work in those before it changes
nothing of what it makes of the others. -/
theorem ResetIn.of_before {u s t : State} (h : ResetIn s t)
    (same : ChangesOnly [.stw, .rqe, .fsq, .mnu, .rvc, .ccp, .gdu, .pdu, .chu, .aop, .freeCount, .pending] u s)
    (pinned : s.ccp.pinned = u.ccp.pinned) : ResetIn u t := by
  have lyu : s.lyu = u.lyu := same .lyu (by decide)
  have wdc : s.wdc = u.wdc := same .wdc (by decide)
  have flt : s.flt = u.flt := same .flt (by decide)
  have den : s.den = u.den := same .den (by decide)
  have hlp : s.hlp = u.hlp := same .hlp (by decide)
  have fmc : s.fmc = u.fmc := same .fmc (by decide)
  have pins : s.pins = u.pins := same .pins (by decide)
  obtain ⟨reset, high, low⟩ := h
  rw [pins, lyu] at high low
  refine ⟨?_, high, low⟩
  exact
    { reset with
      layout := by rw [← lyu]; exact reset.layout
      capture := by rw [← pinned]; exact reset.capture
      guide := by rw [← wdc]; exact reset.guide
      faults := by rw [← flt]; exact reset.faults
      bases := by rw [← den]; exact reset.bases
      kept := by rw [← hlp, ← fmc, ← lyu]; exact reset.kept }

end Sys2Proof.Machine
end

section
/-! The release of a warm reset (R40). -/

namespace Sys2Proof.Machine

/-- The input WRST takes a level. -/
def withWrst (level : Level) (s : State) : State := { s with pins := { s.pins with wrst := level } }

theorem exec_wrstDeassert_held {s : State} (high : s.pins.wrst = .high) (held : s.lyu.phase = .held) :
    exec .wrstDeassert s = .next (releaseReset (withWrst .low s)) := by
  rw [show exec .wrstDeassert s = execWrstDeassert s from rfl]
  simp [execWrstDeassert, high, held, withWrst]

theorem exec_wrstDeassert_draining {s : State} (high : s.pins.wrst = .high) (draining : s.lyu.phase = .draining) :
    exec .wrstDeassert s = .next (withWrst .low s) := by
  rw [show exec .wrstDeassert s = execWrstDeassert s from rfl]
  simp [execWrstDeassert, high, draining, withWrst]

theorem exec_drainLimitExpiry_due {s : State} {expiry : Millis} (limit : s.lyu.drainLimit = .running expiry)
    (due : reached s.lyu.partTime expiry = true) : exec .drainLimitExpiry s = .next (resetNow s) := by
  rw [show exec .drainLimitExpiry s = execDrainLimitExpiry s from rfl]
  simp [execDrainLimitExpiry, limit, Timer.due, now, due]

/-- Settles O41: a release of held blocks by `releaseReset`, and a reset applied with WRST low by `resetNow`. -/
theorem warmResetIsReleased : Obligations.WarmResetIsReleased := by
  refine ⟨fun s high held => ?release, fun s high draining => exec_wrstDeassert_draining high draining,
    fun s expiry limit due low => ?expired⟩
  case release =>
    have rvc : (releaseReset (withWrst .low s)).rvc = s.rvc.begun s.pins.rev s.lyu.partTime :=
      releaseReset_only (withWrst .low s) .rvc (by decide)
    have lowered : ChangesOnly [.pins] s (withWrst .low s) := fun b hb => by cases b <;> first | rfl | exact absurd (by simp) hb
    refine ⟨_, exec_wrstDeassert_held high held, releaseReset_released _, releaseReset_lyu _, releaseReset_marks _ .s0 (.inr rfl), ?_,
      fun rev => ?_, (lowered.mono (by simp)).trans ((releaseReset_changesOnly _).mono (by simp))⟩
    · rw [rvc]
      rfl
    · rw [rvc]
      exact if_pos rev
  case expired =>
    obtain ⟨reset, -, released⟩ := resetIn_resetNow s
    exact ⟨_, exec_drainLimitExpiry_due limit due, reset, released low⟩

end Sys2Proof.Machine
end

section
/-! SUPPORT. An assertion of WRST (R38): the drain it starts, and the reset that is applied in its event; then the end of INIT (R35). -/

namespace Sys2Proof.Machine

/-! ## The start of a drain (R38, R48, R127, R163) -/

theorem Ccp.boundary_keeps (c : Ccp) : c.boundary = { c with drain := c.boundary.drain } := by
  unfold Ccp.boundary
  split <;> rfl

theorem Ccp.boundary_reports {c : Ccp} (drain : c.drain = .draining) (receiving : c.receiving = none) (closing : c.closing = none) :
    c.boundary.drain = .drained := by simp [Ccp.boundary, drain, receiving, closing]

/-- A frame in hand keeps CCP's part of a drain open (R127). -/
theorem Ccp.boundary_waits {c : Ccp} (drain : c.drain = .draining) (hand : c.receiving ≠ none ∨ c.closing ≠ none) :
    c.boundary.drain = .draining := by
  unfold Ccp.boundary
  split
  · next receiving closing => exact absurd hand (by simp [receiving, closing])
  · exact drain

theorem Rqe.beginDrain_drained (r : Rqe) : r.beginDrain.drain = .drained ↔ r.entry = none := by
  cases h : r.entry <;> simp [Rqe.beginDrain, h]

theorem Chu.beginDrain_drained (c : Chu) : c.beginDrain.drain = .drained ↔ c.voice.state = .idle := by
  cases h : c.voice.state <;> simp [Chu.beginDrain, h]

section Start

variable (s : State)

theorem startDrain_lyu : (startDrain s).lyu = { s.lyu with phase := .draining, drainLimit := .running (s.lyu.partTime + 100) } := rfl

theorem startDrain_rqe : (startDrain s).rqe = s.rqe.beginDrain := rfl

theorem startDrain_chu : (startDrain s).chu = s.chu.beginDrain := rfl

theorem startDrain_ccp : (startDrain s).ccp = Ccp.boundary { s.ccp with drain := .draining } := rfl

theorem startDrain_pinned : (startDrain s).ccp.pinned = s.ccp.pinned := by rw [startDrain_ccp, Ccp.boundary_keeps]

theorem startDrain_marks : (startDrain s).stw.dirty.has .s0 = true := by simp [startDrain]

theorem startDrain_changesOnly : ChangesOnly [.lyu, .rqe, .ccp, .chu, .stw] s (startDrain s) := fun b hb => by
  cases b <;> first | rfl | exact absurd (by simp) hb

end Start

variable {s : State}

/-- A drain that starts has all three boundaries at once exactly when nothing is in hand (R38). -/
theorem startDrain_drains : Drains (startDrain s) .drained .drained .drained ↔ NothingInHand s := by
  have capture : (startDrain s).ccp.drain = .drained ↔ s.ccp.receiving = none ∧ s.ccp.closing = none := by
    rw [startDrain_ccp]
    refine ⟨fun drained => ?_, fun ⟨receiving, closing⟩ => Ccp.boundary_reports rfl receiving closing⟩
    by_contra hand
    have waits := Ccp.boundary_waits (c := { s.ccp with drain := .draining }) rfl (not_and_or.mp hand)
    rw [waits] at drained
    cases drained
  unfold Drains NothingInHand
  rw [capture, startDrain_rqe, startDrain_chu, Rqe.beginDrain_drained, Chu.beginDrain_drained, startDrain_lyu]
  simp only [true_and, and_assoc]

/-- The drain goes on while a block has something in hand. -/
theorem checkDrain_startDrain_waits (hand : ¬ NothingInHand s) : checkDrain (startDrain s) = startDrain s := by
  have unfinished : drainOver (startDrain s) = false := by
    refine Bool.eq_false_iff.mpr fun finished => hand (startDrain_drains.mp ?_)
    simpa [drainOver, Drains, and_assoc] using finished
  rw [checkDrain, unfinished]
  rfl

/-! ## The assertion (R38) -/

/-- Under IMMEDIATE, and under BOUNDARY with nothing in hand, an assertion applies the reset. -/
theorem takeAssertion_applies (applies : s.lyu.committed.warmResetMode = .immediate ∨ NothingInHand s) :
    takeAssertion s = resetNow s ∨ takeAssertion s = resetNow (startDrain s) := by
  cases mode : s.lyu.committed.warmResetMode with
  | immediate => exact .inl (by rw [takeAssertion, mode])
  | boundary =>
    have idle : NothingInHand s := applies.resolve_left (by rw [mode]; decide)
    exact .inr (by rw [takeAssertion, mode]; exact checkDrain_of_drained (startDrain_drains.mpr idle))

theorem takeAssertion_drains (mode : s.lyu.committed.warmResetMode = .boundary) (hand : ¬ NothingInHand s) :
    takeAssertion s = startDrain s := by
  rw [takeAssertion, mode]
  exact checkDrain_startDrain_waits hand

/-- What an assertion that applies the reset leaves, with WRST high (R39). -/
theorem takeAssertion_high (high : s.pins.wrst = .high) (applies : s.lyu.committed.warmResetMode = .immediate ∨ NothingInHand s) :
    WarmReset s (takeAssertion s) ∧ Held (takeAssertion s) ∧ (takeAssertion s).lyu.resetCount = s.lyu.resetCount ∧
      (takeAssertion s).lyu.partState = s.lyu.partState ∧ (takeAssertion s).pins = s.pins ∧ (takeAssertion s).pending = s.pending := by
  rcases takeAssertion_applies applies with applied | applied
  · rw [applied, resetNow_high high]
    exact ⟨applyReset_warmReset s, applyReset_held s, by rw [applyReset_eq]; exact ⟨rfl, rfl, rfl, rfl⟩⟩
  · have started : (startDrain s).pins.wrst = .high := high
    rw [applied, resetNow_high started]
    have reset := applyReset_warmReset (startDrain s)
    have capture := reset.capture
    rw [startDrain_pinned] at capture
    exact ⟨{ reset with capture }, applyReset_held _, by rw [applyReset_eq]; exact ⟨rfl, rfl, rfl, rfl⟩⟩

/-! ## The end of INIT (R35) -/

/-- The part at the start of RUNNING, before it takes a WRST already high. -/
def begun (s : State) : State := beginActing (raiseCause .resetDone (markDirty .s0 (enterRunning s)))

theorem begun_eq (s : State) :
    begun s = setRvc (s.rvc.begun s.pins.rev 0) (raiseCause .resetDone (markDirty .s0 (enterRunning s))) := by
  rw [begun, beginActing_eq]
  simp [enterRunning]

theorem begun_changesOnly (s : State) : ChangesOnly [.lyu, .hlp, .fmc, .flt, .rvc, .stw] s (begun s) := by
  have entered : ChangesOnly [.lyu, .hlp, .fmc, .flt, .rvc, .stw] s (enterRunning s) := fun b hb => by
    cases b <;> first | rfl | exact absurd (by simp) hb
  have worked := (((works_markDirty (enterRunning s) .s0).seq (works_raiseCause _ .resetDone) (blocks := [.flt, .stw])).seq
    (works_setRvc _ (s.rvc.begun s.pins.rev 0)) (blocks := [.rvc, .flt, .stw])).only
  rw [← begun_eq] at worked
  exact entered.trans (worked.mono (by simp))

theorem begun_attn (s : State) : (begun s).attn = .high := attn_of_cause .resetDone (by simp [begun_eq])

theorem begun_marks (s : State) : (begun s).stw.dirty.has .s0 = true := by
  rw [begun_eq, setRvc_has, raiseCause_marks _ _ .s0 (by simp), Bool.true_or]

/-- Frame memory is zeroed and CLEAN (R14). -/
theorem begun_memory (s : State) (a : Nat) : readByte (begun s).fmc.cells a = 0 ∧ (begun s).fmc.mark a = .clean := by
  rw [begun_eq, setRvc_fmc, raiseCause_fmc]
  exact ⟨rfl, rfl⟩

theorem exec_initEnd_low {s : State} (init : s.lyu.partState = .init) (low : s.pins.wrst = .low) :
    exec .initEnd s = .next (begun s) := by
  rw [show exec .initEnd s = execInitEnd s from rfl]
  simp [execInitEnd, init, low, begun]

theorem exec_initEnd_high {s : State} (init : s.lyu.partState = .init) (high : s.pins.wrst = .high) :
    exec .initEnd s = .next (takeAssertion (begun s)) := by
  rw [show exec .initEnd s = execInitEnd s from rfl]
  simp [execInitEnd, init, high, begun]

/-- Settles O4: the start of RUNNING is `begun`; with WRST high it is followed by an assertion that applies the reset at once. -/
theorem initEndStartsRunning : Obligations.InitEndStartsRunning := by
  refine ⟨fun s init low => ?starts, fun s init high idle => ?held⟩
  case starts =>
    refine ⟨begun s, exec_initEnd_low init low, ?_, ?_, begun_memory s, ?_, ?_, begun_attn s, ?_, begun_marks s, begun_changesOnly s⟩
    all_goals simp [begun_eq, enterRunning, Rvc.begun]
  case held =>
    have only := begun_changesOnly s
    have same : NothingInHand (begun s) := by
      rw [NothingInHand, show (begun s).rqe = s.rqe from only .rqe (by decide), show (begun s).ccp = s.ccp from only .ccp (by decide),
        show (begun s).chu = s.chu from only .chu (by decide)]
      exact idle
    have pins : (begun s).pins.wrst = .high := by rw [show (begun s).pins = s.pins from only .pins (by decide)]; exact high
    obtain ⟨reset, held, -, running, -, -⟩ := takeAssertion_high pins (.inr same)
    obtain ⟨hlp, -, time⟩ := reset.kept
    refine ⟨_, exec_initEnd_high init high, ?_, ?_, ?_, held⟩
    · rw [running]
      simp [begun_eq, enterRunning]
    · rw [time]
      simp [begun_eq, enterRunning]
    · rw [hlp]
      simp [begun_eq, enterRunning]

end Sys2Proof.Machine
end

section
/-! SUPPORT. The sixteen checks of R26: a record passes the model's validation exactly when it passes them as the record formats write them. -/

namespace Sys2Proof.Machine

theorem firstRowFailing_eq_none {ok : Nat → Bool} : firstRowFailing ok = none ↔ ∀ i, i < 12 → ok i = true := by
  simp [firstRowFailing]

/-- A valid record passes check 1, the three row checks on every row, and each of the plain checks. -/
theorem validateLayout_eq_none {rec : List Byte} :
    validateLayout rec = none ↔ get32 rec 0 = layoutCode ∧ (∀ i, i < 12 → rowPagesOk i (rawRow rec i).pages = true) ∧
      (∀ i, i < 12 → (rawRow rec i).base + (rawRow rec i).pages ≤ Config.anchorPage) ∧
      (∀ i, i < 12 → rowClear rec i = true) ∧ ∀ c ∈ plainChecks rec, c.2 = true := by
  have pages := firstRowFailing_eq_none (ok := fun i => rowPagesOk i (rawRow rec i).pages)
  have below := firstRowFailing_eq_none (ok := fun i => decide ((rawRow rec i).base + (rawRow rec i).pages ≤ Config.anchorPage))
  have clear := firstRowFailing_eq_none (ok := rowClear rec)
  simp only [decide_eq_true_eq] at below
  unfold validateLayout
  rw [← pages, ← below, ← clear]
  by_cases marker : get32 rec 0 = layoutCode
  · rw [if_neg (not_not.mpr marker)]
    split
    · next failing => simp [failing]
    · next passed =>
      split
      · next failing => simp [failing]
      · next within =>
        split
        · next failing => simp [failing]
        · next apart => simp [marker, passed, within, apart]
  · simp [marker]

/-- The pages of the twelve rows (R26 check 2). -/
theorem rowPages_iff (rec : List Byte) :
    (∀ i, i < 12 → rowPagesOk i (rawRow rec i).pages = true) ↔
      get32 rec 0x14 = 501 ∧ get32 rec 0x1C = 501 ∧ get32 rec 0x24 = 1503 ∧ get32 rec 0x2C = 1503 ∧ get32 rec 0x34 = 1800 ∧
        1 ≤ get32 rec 0x3C ∧ 20 ≤ get32 rec 0x44 ∧ 2 ≤ get32 rec 0x4C ∧ 2 ≤ get32 rec 0x54 ∧ 1 ≤ get32 rec 0x5C ∧
        (1 ≤ get32 rec 0x64 ∧ get32 rec 0x64 ≤ 64) ∧ 1 ≤ get32 rec 0x6C ∧ get32 rec 0x6C ≤ 64 := by
  have rows : (∀ i, i < 12 → rowPagesOk i (rawRow rec i).pages = true) ↔
      ∀ i ∈ [0, 1, 2, 3, 4, 5, 6, 7, 8, 9, 10, 11], rowPagesOk i (rawRow rec i).pages = true := by
    simp only [← List.mem_range]
    rfl
  rw [rows]
  simp only [List.forall_mem_cons, List.not_mem_nil, false_imp_iff, implies_true, and_true, rawRow]
  simp [rowPagesOk]

/-- Two rows share no page when one ends before the other begins. -/
theorem rowsOverlap_eq_false (r q : Region) : rowsOverlap r q = false ↔ r.base + r.pages ≤ q.base ∨ q.base + q.pages ≤ r.base := by
  simp only [rowsOverlap, decide_eq_false_iff_not]
  omega

theorem rowClear_iff (rec : List Byte) :
    (∀ i, i < 12 → rowClear rec i = true) ↔ ∀ i j, i < 12 → j < 12 → i ≠ j →
      get32 rec (0x10 + 8 * i) + get32 rec (0x14 + 8 * i) ≤ get32 rec (0x10 + 8 * j) ∨
        get32 rec (0x10 + 8 * j) + get32 rec (0x14 + 8 * j) ≤ get32 rec (0x10 + 8 * i) := by
  have clear : ∀ i, rowClear rec i = true ↔ ∀ j, j < 12 → i ≠ j → rowsOverlap (rawRow rec i) (rawRow rec j) = false := fun i => by
    simp [rowClear, or_iff_not_imp_left]
  simp only [clear, rowsOverlap_eq_false]
  exact ⟨fun h i j hi hj => h i hi j hj, fun h i hi j hj => h i j hi hj⟩

theorem cadences_iff (rec : List Byte) :
    ([1, 2, 3, 4].all fun z => cadenceOk (rawCadence rec z)) = true ↔
      ∀ i, i < 4 → 20 ≤ get16 rec (0xA8 + 2 * i) ∧ get16 rec (0xA8 + 2 * i) ≤ 2000 ∧
        1 ≤ get16 rec (0xB0 + 2 * i) ∧ get16 rec (0xB0 + 2 * i) ≤ get16 rec (0xA8 + 2 * i) := by
  have zones : ([1, 2, 3, 4].all fun z => cadenceOk (rawCadence rec z)) =
      (List.range 4).all fun i => cadenceOk (rawCadence rec (i + 1)) := rfl
  rw [zones, List.all_eq_true]
  simp only [List.mem_range, cadenceOk, decide_eq_true_eq]
  simp only [rawCadence, Nat.add_sub_cancel]

theorem chimeEntries_iff (rec : List Byte) :
    ((List.range 4).all (chimeEntryOk rec)) = true ↔
      ∀ i, i < 4 → get8 rec (0xB8 + 4 * i) = 0xFF ∨ (get8 rec (0xB8 + 4 * i) ≤ 31 ∧ get8 rec (0xB9 + 4 * i) ≤ 7) := by
  have next : ∀ i, 0xB8 + 4 * i + 1 = 0xB9 + 4 * i := fun i => by omega
  simp [chimeEntryOk, next]

theorem plainChecks_iff (rec : List Byte) :
    (∀ c ∈ plainChecks rec, c.2 = true) ↔
      (get8 rec 0x70 ≤ 1 ∧ get8 rec 0x71 ≤ 1 ∧ get8 rec 0x72 ≤ 1) ∧
      ((get8 rec 0x76 ≤ 63 ∨ get8 rec 0x76 = 0xFF) ∧ (get8 rec 0x77 ≤ 63 ∨ get8 rec 0x77 = 0xFF)) ∧
      (get16 rec 0xA0 ≤ 224 ∧ get16 rec 0xA2 ≤ 672) ∧ get8 rec 0x74 ≤ 100 ∧
      (get8 rec 0x78 ≤ 60 ∧ get8 rec 0x79 ≤ 60 ∧ get8 rec 0x7A ≤ 60) ∧
      (1 ≤ get8 rec 0x75 ∧ get8 rec 0x75 ≤ 4 ∧
        get8 rec 0xA5 < get8 rec 0xA4 ∧ get8 rec 0xA6 < get8 rec 0xA5 ∧ get8 rec 0xA7 < get8 rec 0xA6 ∧ 1 ≤ get8 rec 0xA7) ∧
      (∀ i, i < 4 → 20 ≤ get16 rec (0xA8 + 2 * i) ∧ get16 rec (0xA8 + 2 * i) ≤ 2000 ∧
        1 ≤ get16 rec (0xB0 + 2 * i) ∧ get16 rec (0xB0 + 2 * i) ≤ get16 rec (0xA8 + 2 * i)) ∧
      (4 ≤ get8 rec 0x7D ∧ get8 rec 0x7D ≤ 240) ∧ (get8 rec 0x7B ≤ 16 ∧ get8 rec 0x7C ≤ 16) ∧
      (∀ i, i < 4 → get8 rec (0xB8 + 4 * i) = 0xFF ∨ (get8 rec (0xB8 + 4 * i) ≤ 31 ∧ get8 rec (0xB9 + 4 * i) ≤ 7)) ∧
      ((∀ k, k < 19 → get8 rec (0xE0 + k) ≤ 2) ∧ ∀ k, k < 3 → get8 rec (0xD0 + k) ≤ 2) ∧ get8 rec 0x73 ≤ 1 := by
  rw [← cadences_iff, ← chimeEntries_iff]
  simp only [plainChecks, List.forall_mem_cons, List.not_mem_nil, false_imp_iff, implies_true, and_true, Bool.and_eq_true,
    Bool.or_eq_true, decide_eq_true_eq, pageFieldOk, beq_iff_eq, and_assoc, gt_iff_lt, List.all_eq_true, List.mem_range]

/-- A record is valid exactly when it passes the sixteen checks of R26. -/
theorem validateLayout_iff (rec : List Byte) : validateLayout rec = none ↔ ValidLayout rec := by
  rw [validateLayout_eq_none, rowPages_iff, rowClear_iff, plainChecks_iff]
  constructor
  · rintro ⟨marker, pages, below, apart, films, menuPages, readout, hold, timeouts, thresholds, cadences, tone, ducks, chimes, policy, mode⟩
    exact ⟨marker, by simpa only [and_assoc] using pages, below, apart, films, menuPages, readout, hold, timeouts, thresholds, cadences,
      tone, ducks, chimes, policy, mode⟩
  · rintro ⟨marker, pages, below, apart, films, menuPages, readout, hold, timeouts, thresholds, cadences, tone, ducks, chimes, policy, mode⟩
    exact ⟨marker, by simpa only [and_assoc] using pages, below, apart, films, menuPages, readout, hold, timeouts, thresholds, cadences,
      tone, ducks, chimes, policy, mode⟩

end Sys2Proof.Machine
end

section
/-! The end of a record's validation: what a layout apply makes of the blocks that depend on it, and the decision (R26 to R29). -/

namespace Sys2Proof.Machine

/-! ## The blocks at a layout apply (R29, R106, R144, R155, R159) -/

section Blocks

variable (s : State)

@[simp] theorem withdrawMenuRequest_panels : (withdrawMenuRequest s).mnu.panels = s.mnu.panels := by
  unfold withdrawMenuRequest; repeat' split
  all_goals simp

@[simp] theorem answerMenu_panels (code : ResultCode) : (answerMenu code s).mnu.panels = s.mnu.panels := by simp [answerMenu]

@[simp] theorem applyMenuRequest_panels : (applyMenuRequest s).mnu.panels = s.mnu.panels := by
  unfold applyMenuRequest; dsimp only; repeat' split
  all_goals simp

/-- MNU's panels are empty after a layout apply (R106). -/
theorem menuApply_panels : (menuApply s).mnu.panels = ⟨MenuPanel.reset, MenuPanel.reset, MenuPanel.reset⟩ := by
  have panels : ∀ t : State, (applyMenuRequest (refillNotices (markDirty .s4
      (setMnu { t.mnu with panels := ⟨MenuPanel.reset, MenuPanel.reset, MenuPanel.reset⟩ } t)))).mnu.panels =
        ⟨MenuPanel.reset, MenuPanel.reset, MenuPanel.reset⟩ := fun t => by simp
  unfold menuApply
  dsimp only
  rw [menuKick_panels fun p => by rw [panels]; exact menusReset_calm p, panels]

/-- A stopped channel's ring is empty, and the other channel's stands (R82, R159). -/
theorem audioStop_rings (x y : Channel) :
    ((audioStop x s).aop.channels.get y).producer = (if y = x then 0 else (s.aop.channels.get y).producer) ∧
    ((audioStop x s).aop.channels.get y).consumer = (if y = x then 0 else (s.aop.channels.get y).consumer) := by
  obtain ⟨producer, consumer, -⟩ := ringsKept_aopKick (markDirty .s6 (setAop (s.aop.stopChannel x) s)) y
  obtain ⟨producer', consumer', -⟩ := ringsKept_giveUp s.aop x y
  rw [audioStop, producer, consumer, markDirty_aop, setAop_aop, Aop.stopChannel]
  dsimp only
  rw [PerChannel.get_set]
  split
  · exact ⟨rfl, rfl⟩
  · exact ⟨producer', consumer'⟩

theorem audioApply_rings (y : Channel) :
    ((audioApply s).aop.channels.get y).producer = 0 ∧ ((audioApply s).aop.channels.get y).consumer = 0 := by
  obtain ⟨producer, consumer⟩ := audioStop_rings (audioStop .a s) .b y
  obtain ⟨producer', consumer'⟩ := audioStop_rings s .a y
  rw [audioApply, producer, consumer, producer', consumer']
  cases y <;> exact ⟨rfl, rfl⟩

theorem works_audioApply : Works [.aop, .stw] s (audioApply s) := (works_audioStop s .a).seq (works_audioStop _ .b)

@[simp] theorem chimeApply_chu : (chimeApply s).chu = { s.chu.stopAll with tone := s.chu.tone.halt } := setChu_chu _ _

theorem works_chimeApply : Works [.chu, .stw] s (chimeApply s) := works_setChu s _

@[simp] theorem guideApply_gdu : (guideApply s).gdu =
    { s.gdu.giveUp with liveBank := none, stagedBank := none, staticCache := .absent, bucketCache := .absent } := by simp [guideApply]

@[simp] theorem guideApply_wdc : (guideApply s).wdc = { s.wdc with liveBank := none, stagedBank := none } := by simp [guideApply]

end Blocks

theorem Gdu.giveUp_steering (g : Gdu) : g.giveUp.steering = g.steering := by
  unfold Gdu.giveUp
  split <;> rfl

theorem Tone.halt_silent (t : Tone) : t.halt.sounding = false := by
  unfold Tone.halt
  split
  · rfl
  · next silent => exact Bool.eq_false_iff.mpr silent

theorem Chu.stopAll_pending {c : Chu} (busy : c.voice.state ≠ .idle) : c.stopAll.voice.pendingStop = true := by
  simp [Chu.stopAll, busy]

/-! ## The apply as a whole (R29) -/

/-- What a layout apply makes of the blocks that depend on the layout. -/
structure LayoutApplied (l : Layout) (s t : State) : Prop where
  lyu : t.lyu = { s.lyu with committed := l, source := .host, staged := none, layoutState := .configured }
  wdc : t.wdc = ⟨l.map, none, none⟩
  menus : t.mnu.panels = ⟨MenuPanel.reset, MenuPanel.reset, MenuPanel.reset⟩
  guide : t.gdu.liveBank = none ∧ t.gdu.stagedBank = none ∧ t.gdu.steering = s.gdu.steering
  chimes : t.chu.queue = [] ∧ t.chu.tone.sounding = false ∧ (s.chu.voice.state ≠ .idle → t.chu.voice.pendingStop = true)
  rings : ∀ x : Channel, (t.aop.channels.get x).producer = 0 ∧ (t.aop.channels.get x).consumer = 0
  marked : t.stw.dirty.has .s0 = true

/-- After the chimes' part of an apply only AOP and S0's mark are left. -/
theorem applyLayout_after (l : Layout) (s : State) :
    ChangesOnly [.aop, .stw] (chimeApply (guideApply (menuApply (committed l s)))) (applyLayout l s) :=
  ((works_audioApply _).seq (works_markDirty _ .s0) (blocks := [.aop, .stw])).only

theorem applyLayout_applied (l : Layout) (s : State) : LayoutApplied l s (applyLayout l s) := by
  let menus := menuApply (committed l s)
  let chimes := chimeApply (guideApply menus)
  have menuOnly := (works_menuApply (committed l s)).only
  have guideOnly := (works_guideApply menus).only
  have chimeOnly := (works_chimeApply (guideApply menus)).only
  have after : ChangesOnly [.aop, .stw] chimes (applyLayout l s) := applyLayout_after l s
  have afterGuide : ChangesOnly [.chu, .aop, .stw] (guideApply menus) (applyLayout l s) :=
    (chimeOnly.mono (by simp)).trans (after.mono (by simp))
  have chu : (guideApply menus).chu = s.chu := (guideOnly .chu (by decide)).trans (menuOnly .chu (by decide))
  have gdu : menus.gdu = s.gdu := menuOnly .gdu (by decide)
  have wdc : menus.wdc = { s.wdc with map := l.map } := menuOnly .wdc (by decide)
  have chu' : (applyLayout l s).chu = chimes.chu := after .chu (by decide)
  have gdu' : (applyLayout l s).gdu = (guideApply menus).gdu := afterGuide .gdu (by decide)
  have wdc' : (applyLayout l s).wdc = (guideApply menus).wdc := afterGuide .wdc (by decide)
  have mnu' : (applyLayout l s).mnu = menus.mnu := (afterGuide .mnu (by decide)).trans (guideOnly .mnu (by decide))
  exact
    { lyu := (applyLayout_works l s).only .lyu (by decide)
      wdc := by rw [wdc', guideApply_wdc, wdc]
      menus := by rw [mnu']; exact menuApply_panels _
      guide := by
        rw [gdu', guideApply_gdu, gdu]
        exact ⟨rfl, rfl, Gdu.giveUp_steering _⟩
      chimes := by
        rw [chu', show chimes.chu = _ from chimeApply_chu _, chu]
        exact ⟨rfl, Tone.halt_silent _, Chu.stopAll_pending⟩
      rings := fun x => audioApply_rings chimes x
      marked := by simp [applyLayout] }

/-! ## The decision (R26 to R29) -/

/-- A valid record taken: S0 is dirty, and nothing is under validation (R26). -/
def recordTaken (s : State) : State := markDirty .s0 (setLyu { s.lyu with commit := .none, lastCommitCheck := none } s)

theorem works_setLyu (l : Lyu) (s : State) : Works [.lyu] s (setLyu l s) := .of_only (setLyu_changesOnly l s) rfl rfl

theorem recordTaken_works (s : State) : Works [.lyu, .stw] s (recordTaken s) := (works_setLyu _ s).seq (works_markDirty _ .s0)

/-- LYU with a layout staged (R28). -/
def Lyu.withStaged (y : Lyu) (l : Layout) : Lyu := { y with staged := some l, layoutState := .staged }

theorem acceptCommit_normal {l : Layout} {s : State} (normal : s.rvc.view = .normal) :
    acceptCommit l s = giveResult .ok (applyLayout l (recordTaken s)) := by
  unfold acceptCommit
  simp only [normal]
  rfl

theorem acceptCommit_stages {l : Layout} {s : State} (away : s.rvc.view ≠ .normal) :
    acceptCommit l s = giveResult .deferred (setLyu ((recordTaken s).lyu.withStaged l) (recordTaken s)) := by
  unfold acceptCommit
  cases view : s.rvc.view with
  | normal => exact absurd view away
  | engaged | hold => rfl

section Ends

variable {s : State} {record : List Byte}

theorem exec_validationEnd_rejects {f : CheckFailure} (validating : s.lyu.commit = .validating record)
    (fails : validateLayout record = some f) : exec .validationEnd s = .next (rejectCommit f .badArgument s) := by
  rw [show exec .validationEnd s = execValidationEnd s from rfl]
  simp only [execValidationEnd, validating, fails]

theorem exec_validationEnd_accepts (validating : s.lyu.commit = .validating record) (valid : validateLayout record = none) :
    exec .validationEnd s = .next (acceptCommit (parseLayout record) s) := by
  rw [show exec .validationEnd s = execValidationEnd s from rfl]
  simp only [execValidationEnd, validating, valid]

end Ends

/-- Settles O39: the checks by `validateLayout_iff`, then a rejected, an applied and a staged record. -/
theorem validationEndDecides : Obligations.ValidationEndDecides := by
  refine ⟨validateLayout_iff, fun s record index phase validating entry =>
    ⟨fun f fails => ?rejected, fun valid normal => ?applied, fun valid away => ?staged⟩⟩
  case rejected =>
    obtain ⟨answered, lyu, flt, marked⟩ := rejectCommit_spec f .badArgument entry
    exact ⟨_, exec_validationEnd_rejects validating fails, answered, lyu, flt, marked, rejectCommit_reportsBeside f _ s⟩
  case applied =>
    have taken := recordTaken_works s
    have work := (taken.seq (committed_works (parseLayout record) _) (blocks := [.lyu, .stw, .wdc])).seq
      (applyLayout_works (parseLayout record) (recordTaken s)) (blocks := [.lyu, .rqe, .stw, .wdc, .mnu, .gdu, .chu, .aop])
    have applied := applyLayout_applied (parseLayout record) (recordTaken s)
    obtain ⟨after, entry'⟩ := work.entry index phase entry
    obtain ⟨result, writing, consumer, producer⟩ := giveResult_answered (code := .ok) entry'
    refine ⟨_, exec_validationEnd_accepts validating valid, ?_⟩
    rw [acceptCommit_normal normal]
    have lyu := applied.lyu
    have rings := applied.rings
    obtain ⟨bank, staged, steering⟩ := applied.guide
    obtain ⟨queue, silent, stopping⟩ := applied.chimes
    refine ⟨⟨result, writing, consumer.trans work.consumer, producer.trans work.producer⟩, ?_⟩
    rw [giveResult_lyu, giveResult_wdc, giveResult_mnu, giveResult_gdu, giveResult_chu, giveResult_aop, giveResult_dirty, lyu]
    exact ⟨rfl, rfl, rfl, rfl, rfl, rfl, applied.wdc, applied.menus, bank, staged, steering, queue, silent, stopping, rings, applied.marked,
      (work.seq (works_giveResult _ .ok)).only⟩
  case staged =>
    have work := (recordTaken_works s).seq (works_setLyu ((recordTaken s).lyu.withStaged (parseLayout record)) _)
      (blocks := [.lyu, .stw])
    obtain ⟨after, entry'⟩ := work.entry index phase entry
    obtain ⟨result, writing, consumer, producer⟩ := giveResult_answered (code := .deferred) entry'
    refine ⟨_, exec_validationEnd_accepts validating valid, ?_⟩
    rw [acceptCommit_stages away]
    refine ⟨⟨result, writing, consumer.trans work.consumer, producer.trans work.producer⟩, ?_, ?_,
      (work.seq (works_giveResult _ .deferred)).only⟩
    · rw [giveResult_lyu]
      rfl
    · rw [giveResult_dirty]
      simp [recordTaken]

end Sys2Proof.Machine
end

section
/-! SUPPORT. What CHU, RQE and CCP keep of a drain through the work of an event, so that the last boundary is seen at its end (R38, R48,
R127, R163). -/

namespace Sys2Proof.Machine

/-! ## CHU in a drain (R163) -/

/-- The drain state stands, and in a drain the clip voice is as busy as before: it takes no chime (R163). -/
def Chu.KeepsDrain (c c' : Chu) : Prop := c'.drain = c.drain ∧ (c.drain ≠ .none → c'.voice.state = c.voice.state)

theorem Chu.KeepsDrain.refl (c : Chu) : c.KeepsDrain c := ⟨rfl, fun _ => rfl⟩

theorem Chu.KeepsDrain.of_eq {c c' : Chu} (h : c' = c) : c.KeepsDrain c' := by rw [h]; exact .refl c

theorem Chu.KeepsDrain.trans {c c' c'' : Chu} (h : c.KeepsDrain c') (k : c'.KeepsDrain c'') : c.KeepsDrain c'' := by
  obtain ⟨drain, voice⟩ := h
  obtain ⟨drain', voice'⟩ := k
  exact ⟨drain'.trans drain, fun draining => (voice' (by rw [drain]; exact draining)).trans (voice draining)⟩

theorem Chu.keepsDrain_place (c : Chu) (n : Chime) (keep : Bool) : c.KeepsDrain (c.place n keep) := by
  unfold Chu.place Chu.freshArrival
  split
  · exact ⟨rfl, fun _ => rfl⟩
  · dsimp only
    split <;> exact ⟨rfl, fun _ => rfl⟩

theorem Chu.keepsDrain_insert (c : Chu) (n : Chime) (keep : Bool) : c.KeepsDrain (c.insert n keep).2 := by
  unfold Chu.insert
  repeat' split
  · exact ⟨rfl, fun _ => rfl⟩
  · exact ⟨rfl, fun _ => rfl⟩
  · exact c.keepsDrain_place n keep
  · exact Chu.KeepsDrain.trans ⟨rfl, fun _ => rfl⟩ (Chu.keepsDrain_place _ n keep)
  · exact .refl c
  · exact .refl c

theorem Chu.keepsDrain_insertCounted (c : Chu) (n : Chime) (keep : Bool) : c.KeepsDrain (c.insertCounted n keep) := by
  have inserted := c.keepsDrain_insert n keep
  unfold Chu.insertCounted
  split
  · next same => rw [same] at inserted; exact inserted
  · next same => rw [same] at inserted; exact inserted.trans ⟨rfl, fun _ => rfl⟩

theorem Chu.keepsDrain_settled (store : Option Region) (c : Chu) : c.KeepsDrain (c.voiceTake.kick store) := by
  have taken : c.KeepsDrain c.voiceTake := by
    rcases c.voiceTake_cases with same | ⟨_, _, _, calm, _, _, took⟩
    · rw [same]
      exact .refl c
    · rw [took]
      exact ⟨rfl, fun draining => absurd calm draining⟩
  obtain ⟨-, voice, -, -, -, drain, -⟩ := c.voiceTake.kick_keeps store
  exact taken.trans ⟨drain, fun _ => by rw [voice]⟩

theorem keepsDrain_settleChu (c : Chu) (s : State) : c.KeepsDrain (settleChu c s).chu := by
  rw [settleChu_chu]
  exact c.keepsDrain_settled _

theorem keepsDrain_chimeEvent (e : ChimeEvent) (s : State) : s.chu.KeepsDrain (chimeEvent e s).chu := by
  unfold chimeEvent
  split
  · exact .refl _
  · split
    · exact .refl _
    · exact (s.chu.keepsDrain_insertCounted _ _).trans (keepsDrain_settleChu _ s)

theorem keepsDrain_takeAction (a : FaultAction) (s : State) : s.chu.KeepsDrain (takeAction a s).chu := by
  cases a with
  | quiet => exact .refl _
  | signal => exact .of_eq (raiseCause_chu s .fault)
  | safe =>
    unfold takeAction
    dsimp only
    split
    · exact .refl _
    · refine Chu.KeepsDrain.trans (.of_eq ?_) (keepsDrain_chimeEvent .faultCritical _)
      simp

theorem keepsDrain_report (r : Report) (s : State) : s.chu.KeepsDrain (report r s).chu := by
  unfold report
  dsimp only
  split
  · exact .refl _
  · split
    · exact .refl _
    · exact keepsDrain_takeAction _ _

/-! ## A drain through reports -/

/-- A drain goes on as it is: the phase and the three blocks' parts in it stand. -/
structure DrainStands (s t : State) : Prop where
  phase : t.lyu.phase = s.lyu.phase
  ring : t.rqe.drain = s.rqe.drain
  capture : t.ccp.drain = s.ccp.drain
  chimes : s.chu.KeepsDrain t.chu

theorem DrainStands.refl (s : State) : DrainStands s s := ⟨rfl, rfl, rfl, .refl _⟩

theorem DrainStands.trans {s t u : State} (h : DrainStands s t) (k : DrainStands t u) : DrainStands s u :=
  ⟨k.phase.trans h.phase, k.ring.trans h.ring, k.capture.trans h.capture, h.chimes.trans k.chimes⟩

/-- Work in other blocks leaves a drain as it is. -/
theorem DrainStands.of_only {s t : State} (h : ChangesOnly [.fmc, .hlp, .wdc, .stw, .den, .fsq, .mnu, .rvc, .gdu, .pdu, .aop, .flt] s t) :
    DrainStands s t :=
  ⟨by rw [show t.lyu = s.lyu from h .lyu (by decide)], by rw [show t.rqe = s.rqe from h .rqe (by decide)],
    by rw [show t.ccp = s.ccp from h .ccp (by decide)], .of_eq (h .chu (by decide))⟩

theorem drainStands_report (r : Report) (s : State) : DrainStands s (report r s) :=
  ⟨by simp, by simp, by simp, keepsDrain_report r s⟩

theorem DrainStands.drains {s t : State} (h : DrainStands s t) {ring capture chimes : Drain} (drains : Drains s ring capture chimes) :
    Drains t ring capture chimes := by
  obtain ⟨phase, ring', capture', chimes'⟩ := drains
  exact ⟨h.phase.trans phase, h.ring.trans ring', h.capture.trans capture', h.chimes.1.trans chimes'⟩

/-! ## The last boundary (R38) -/

/-- The reset is applied in the event that leaves a state with all boundaries reported. -/
theorem resetIn_of_drained {s : State} (drained : Drains s .drained .drained .drained) : ResetIn s (checkDrain s) := by
  rw [checkDrain_of_drained drained]
  exact resetIn_resetNow s

/-- Two states that each differ from a third in some blocks alone differ from each other in those alone. -/
theorem ChangesOnly.between {blocks : List Block} {s t u : State} (h : ChangesOnly blocks s t) (k : ChangesOnly blocks s u) :
    ChangesOnly blocks t u := fun b hb => by
  have first := h b hb
  have second := k b hb
  cases b <;> exact second.trans first.symm

/-- A block that is the same may be struck from the list. -/
theorem ChangesOnly.except {b : Block} {blocks : List Block} {s t : State} (h : ChangesOnly (b :: blocks) s t) (same : b.kept s t) :
    ChangesOnly blocks s t := fun k hk => by
  by_cases one : k = b
  · rw [one]
    exact same
  · exact h k (by simp [one, hk])

end Sys2Proof.Machine
end

section
/-! SUPPORT. The events of the last boundary, block by block: RQE's result write, CCP's frames and the end of the view, CHU's block
boundary (R48, R127, R163). -/

namespace Sys2Proof.Machine

/-! ## CCP's frames (R120 to R123, R127) -/

theorem Ccp.kick_keeps (c : Ccp) : c.kick = { c with claim := c.kick.claim } := by
  unfold Ccp.kick
  split <;> rfl

/-- CCP once its receiving frame is damaged (R123). -/
def Ccp.damaged (c : Ccp) (f : ReceivingFrame) (reception : Reception) : Ccp :=
  Ccp.kick { c.dropLines f.slot with receiving := none, reception := reception, framesDamaged := c.framesDamaged + 1 }

theorem Ccp.damaged_keeps (c : Ccp) (f : ReceivingFrame) (reception : Reception) :
    (c.damaged f reception).receiving = none ∧ (c.damaged f reception).closing = c.closing ∧
    (c.damaged f reception).drain = c.drain ∧ (c.damaged f reception).pinned = c.pinned := by
  rw [Ccp.damaged, Ccp.kick_keeps]
  exact ⟨rfl, rfl, rfl, rfl⟩

theorem Ccp.damaged_reception (c : Ccp) (f : ReceivingFrame) (reception : Reception) :
    { c.damaged f reception with reception := reception } = c.damaged f reception := by rw [Ccp.damaged, Ccp.kick_keeps]

/-- The report of a damaged frame (R123). -/
def lineReport (detail : Detail) : Report := ⟨.cameraLineError, .camera, detail, none⟩

section Damaged

variable {s : State} {f : ReceivingFrame} (detail : Detail) (reception : Reception)

theorem damageFrame_eq (receiving : s.ccp.receiving = some f) :
    damageFrame detail reception s =
      damagedFrameNotice (report (lineReport detail) (markDirty .s3 (setCcp (s.ccp.damaged f reception) s))) := by
  unfold damageFrame
  simp only [receiving]
  rfl

theorem works_damagedFrameNotice (s : State) : Works [.rvc, .stw] s (damagedFrameNotice s) := by
  unfold damagedFrameNotice
  split
  · exact works_setRvc s _
  · exact .refl _ s
  · exact .refl _ s

/-- What a damaged frame leaves: CCP without it, and beside its report only RVC's notice (R118, R123). -/
theorem damageFrame_spec (receiving : s.ccp.receiving = some f) :
    (damageFrame detail reception s).ccp = s.ccp.damaged f reception ∧
    (damageFrame detail reception s).flt = (report (lineReport detail) s).flt ∧
    s.chu.KeepsDrain (damageFrame detail reception s).chu ∧
    ChangesOnly [.flt, .ccp, .rvc, .stw, .fsq, .chu] s (damageFrame detail reception s) := by
  rw [damageFrame_eq detail reception receiving]
  have notice := works_damagedFrameNotice (report (lineReport detail) (markDirty .s3 (setCcp (s.ccp.damaged f reception) s)))
  have reports := report_changesOnly (lineReport detail) (markDirty .s3 (setCcp (s.ccp.damaged f reception) s))
  have drops : ChangesOnly [.ccp, .stw] s (markDirty .s3 (setCcp (s.ccp.damaged f reception) s)) :=
    ((works_setCcp s _).seq (works_markDirty _ _)).only
  have flt : (damagedFrameNotice _).flt = (report (lineReport detail) _).flt := notice.only .flt (by decide)
  have chu : (damagedFrameNotice _).chu = (report (lineReport detail) _).chu := notice.only .chu (by decide)
  have ccp : (damagedFrameNotice _).ccp = (report (lineReport detail) _).ccp := notice.only .ccp (by decide)
  refine ⟨by rw [ccp]; simp, by rw [flt]; exact report_flt_congr _ rfl rfl, ?_, ?_⟩
  · rw [chu]
    exact keepsDrain_report (lineReport detail) (markDirty .s3 (setCcp (s.ccp.damaged f reception) s))
  · exact ((drops.mono (by simp)).trans (reports.mono (by simp))).trans (notice.only.mono (by simp))

/-- In a drain with no closing frame, the damage of the receiving frame is CCP's boundary, whatever reception it leaves (R127). -/
theorem damageFrame_resets (drains : Drains s .drained .draining .drained) (receiving : s.ccp.receiving = some f)
    (closing : s.ccp.closing = none) (left : Reception) :
    ResetIn (report (lineReport detail) s)
      (checkDrain (setCcp (Ccp.boundary { s.ccp.damaged f reception with reception := left }) (damageFrame detail reception s))) := by
  obtain ⟨-, flt, chimes, only⟩ := damageFrame_spec detail reception receiving
  obtain ⟨gone, closing', drain', pinned⟩ := s.ccp.damaged_keeps f reception
  obtain ⟨phase, ring, capture, chimes'⟩ := drains
  have lyu : (damageFrame detail reception s).lyu = s.lyu := only .lyu (by decide)
  have rqe : (damageFrame detail reception s).rqe = s.rqe := only .rqe (by decide)
  have drained : Drains (setCcp (Ccp.boundary { s.ccp.damaged f reception with reception := left }) (damageFrame detail reception s))
      .drained .drained .drained :=
    ⟨by rw [setCcp_lyu, lyu]; exact phase, by rw [setCcp_rqe, rqe]; exact ring,
      Ccp.boundary_reports (drain'.trans capture) gone (closing'.trans closing), by rw [setCcp_chu]; exact chimes.1.trans chimes'⟩
  have all : ChangesOnly [.flt, .ccp, .rvc, .stw, .fsq, .chu] s
      (setCcp (Ccp.boundary { s.ccp.damaged f reception with reception := left }) (damageFrame detail reception s)) :=
    only.trans ((works_setCcp _ _).only.mono (by simp))
  have reports := report_changesOnly (lineReport detail) s
  refine (resetIn_of_drained drained).of_before (((reports.mono (by simp)).between all).except flt |>.mono (by simp)) ?_
  rw [setCcp_ccp, Ccp.boundary_keeps, report_ccp]
  exact pinned

end Damaged

/-! ## The camera packets that damage a frame (R120 to R123) -/

section Packets

variable {s : State} {f : ReceivingFrame}

theorem takeFrameEnd_damages (taking : s.ccp.taking = true) (receiving : s.ccp.receiving = some f) (short : f.nextLine < 720) :
    takeFrameEnd s = setCcp (Ccp.boundary { s.ccp.damaged f .waiting with reception := .waiting })
      (damageFrame (.missingLines (720 - f.nextLine) f.frameNo) .waiting s) := by
  have ccp := (damageFrame_spec (.missingLines (720 - f.nextLine) f.frameNo) .waiting receiving).1
  rw [Ccp.damaged_reception]
  unfold takeFrameEnd
  simp only [taking, receiving, if_pos short, ccp]

theorem takeLine_damages {lineNo : Count} {data : List Byte} {check : BitVec 32} (taking : s.ccp.taking = true)
    (receiving : s.ccp.receiving = some f) (disordered : lineNo.toNat ≠ f.nextLine) :
    takeLine lineNo data check s = setCcp (Ccp.boundary { s.ccp.damaged f .discarding with reception := .discarding })
      (damageFrame (.outOfOrder f.nextLine lineNo f.frameNo) .discarding s) := by
  have ccp := (damageFrame_spec (.outOfOrder f.nextLine lineNo f.frameNo) .discarding receiving).1
  have fails : lineFailure s.ccp f lineNo data check = some (.outOfOrder f.nextLine lineNo f.frameNo) := by
    rw [lineFailure, if_pos (.inl disordered)]
  rw [Ccp.damaged_reception]
  unfold takeLine
  simp only [taking, receiving, fails, ccp]

/-- In a drain no frame starts (R120, R127). -/
theorem takeFrameStart_damages {frameNo : Count} (taking : s.ccp.taking = true) (receiving : s.ccp.receiving = some f)
    (draining : s.ccp.drain ≠ .none) :
    takeFrameStart frameNo s = setCcp (Ccp.boundary { s.ccp.damaged f .discarding with reception := .waiting })
      (damageFrame (.startBeforeEnd f.frameNo) .discarding s) := by
  have ccp := (damageFrame_spec (.startBeforeEnd f.frameNo) .discarding receiving).1
  have no : s.ccp.frameNo = f.frameNo := by simp [Ccp.frameNo, receiving]
  have drain := (s.ccp.damaged_keeps f .discarding).2.2.1
  unfold takeFrameStart startFrame
  rw [if_pos taking, no, ccp]
  dsimp only
  split
  · next calm _ => exact absurd (drain.symm.trans calm) draining
  · simp [setCcp]

end Packets

/-! ## A frame that ends whole (R122, R127) -/

/-- CCP once its closing frame is complete (R122). -/
def Ccp.closed (c : Ccp) (f : ClosingFrame) : Ccp :=
  { c with
    frameNos := c.frameNos.set f.slot (some f.frameNo), closing := none, latest := some f.slot, framesGood := c.framesGood + 1 }

section Whole

variable {s : State} {f : ClosingFrame}

theorem closeIfWritten_closes (closing : s.ccp.closing = some f) (written : ∀ l ∈ s.ccp.buffer, l.slot ≠ f.slot) :
    (closeIfWritten s).ccp = s.ccp.closed f ∧ Works [.ccp, .rvc, .stw] s (closeIfWritten s) := by
  have none_left : s.ccp.buffer.any (fun l => l.slot == f.slot) = false := by simpa using written
  have eq : closeIfWritten s = goodFrameNotice f.frameNo (markDirty .s3 (setCcp (s.ccp.closed f) s)) := by
    unfold closeIfWritten
    simp only [closing, none_left]
    rfl
  rw [eq, goodFrameNotice]
  refine ⟨by simp, ?_⟩
  exact ((works_setCcp s (s.ccp.closed f)).seq (works_markDirty _ .s3) (blocks := [.ccp, .stw])).seq (works_setRvc _ _)

/-- In a drain with no receiving frame, the end of the closing one is CCP's boundary (R127). -/
theorem closeIfWritten_resets (drains : Drains s .drained .draining .drained) (receiving : s.ccp.receiving = none)
    (closing : s.ccp.closing = some f) (written : ∀ l ∈ s.ccp.buffer, l.slot ≠ f.slot) :
    ResetIn s (checkDrain (setCcp (closeIfWritten s).ccp.boundary (closeIfWritten s))) := by
  obtain ⟨ccp, works⟩ := closeIfWritten_closes closing written
  obtain ⟨phase, ring, capture, chimes⟩ := drains
  have only := works.only
  have lyu : (closeIfWritten s).lyu = s.lyu := only .lyu (by decide)
  have rqe : (closeIfWritten s).rqe = s.rqe := only .rqe (by decide)
  have chu : (closeIfWritten s).chu = s.chu := only .chu (by decide)
  rw [ccp]
  have drained : Drains (setCcp (s.ccp.closed f).boundary (closeIfWritten s)) .drained .drained .drained :=
    ⟨by rw [setCcp_lyu, lyu]; exact phase, by rw [setCcp_rqe, rqe]; exact ring, Ccp.boundary_reports capture receiving rfl,
      by rw [setCcp_chu, chu]; exact chimes⟩
  refine (resetIn_of_drained drained).of_before ((only.mono (by simp)).trans ((works_setCcp _ _).only.mono (by simp))) ?_
  rw [setCcp_ccp, Ccp.boundary_keeps]
  rfl

end Whole

section Ends

variable {s : State}

/-- The last line of the receiving frame has come and is written, and its FRAME_END comes (R122). -/
theorem takeFrameEnd_resets {f : ReceivingFrame} (drains : Drains s .drained .draining .drained) (taking : s.ccp.taking = true)
    (receiving : s.ccp.receiving = some f) (whole : f.nextLine = 720) (written : ∀ l ∈ s.ccp.buffer, l.slot ≠ f.slot) :
    ResetIn s (checkDrain (takeFrameEnd s)) := by
  let closing := setCcp { s.ccp with receiving := none, closing := some ⟨f.slot, f.frameNo⟩, reception := .waiting } s
  have eq : takeFrameEnd s = setCcp (closeIfWritten closing).ccp.boundary (closeIfWritten closing) := by
    unfold takeFrameEnd
    simp only [taking, receiving, if_neg (show ¬ f.nextLine < 720 by omega)]
    rfl
  rw [eq]
  have reset := closeIfWritten_resets (s := closing) (f := ⟨f.slot, f.frameNo⟩) drains rfl rfl written
  exact reset.of_before ((works_setCcp s _).only.mono (by simp)) rfl

/-- The last line of the closing frame is written (R121, R122). -/
theorem lineWritten_resets {line : CameraLine} {rest : List CameraLine} {f : ClosingFrame} (drains : Drains s .drained .draining .drained)
    (claim : s.ccp.claim = .granted true) (buffer : s.ccp.buffer = line :: rest) (last : 160 ≤ line.written + line.request.beats)
    (receiving : s.ccp.receiving = none) (closing : s.ccp.closing = some f) (written : ∀ l ∈ rest, l.slot ≠ f.slot) :
    ResetIn s (checkDrain (lineWritten s)) := by
  let done := setCcp (Ccp.kick { s.ccp with claim := .idle, buffer := rest }) s
  have ccp : done.ccp = { s.ccp with claim := done.ccp.claim, buffer := rest } := Ccp.kick_keeps _
  have eq : lineWritten s = setCcp (closeIfWritten done).ccp.boundary (closeIfWritten done) := by
    unfold lineWritten
    simp only [claim, buffer, Claim.live, if_true, if_neg (Nat.not_lt.mpr last)]
    rfl
  rw [eq]
  obtain ⟨phase, ring, capture, chimes⟩ := drains
  have reset := closeIfWritten_resets (s := done) (f := f) ⟨phase, ring, by rw [ccp]; exact capture, chimes⟩ (by rw [ccp]; exact receiving)
    (by rw [ccp]; exact closing) (by rw [ccp]; exact written)
  exact reset.of_before ((works_setCcp s _).only.mono (by simp)) (by rw [ccp])

end Ends

/-! ## RQE's boundary (R48) -/

theorem resultDone_resets {s : State} (drains : Drains s .draining .drained .drained) : ResetIn (freeFmc s) (checkDrain (resultDone s)) := by
  obtain ⟨phase, ring, capture, chimes⟩ := drains
  have drained : Drains (resultDone s) .drained .drained .drained := by
    refine ⟨phase, ?_, capture, chimes⟩
    have drain := s.rqe.advance_ring.2.2
    rw [ring] at drain
    exact drain
  have only : ChangesOnly [.rqe, .stw] (freeFmc s) (resultDone s) := fun b hb => by
    cases b <;> first | rfl | exact absurd (by simp) hb
  exact (resetIn_of_drained drained).of_before (only.mono (by simp)) rfl

/-! ## CHU's boundary (R163) -/

/-- The voices and channels of a block boundary in a drain, before its reports (R159, R160, R163). -/
theorem settleVoice_drains {c : Chu} (draining : c.drain = .draining) :
    c.settleVoice = ({ c.silenceVoice with drain := .drained }, none) := by rw [Chu.settleVoice, if_pos draining]

theorem drainStands_reportIfDue (kind : FaultKind) (source : FaultSource) (detail : Option Detail) (s : State) :
    DrainStands s (reportIfDue kind source detail s) ∧ ChangesOnly [.stw, .flt, .fsq, .chu] s (reportIfDue kind source detail s) := by
  cases detail with
  | none => exact ⟨.refl s, .refl _ s⟩
  | some d => exact ⟨drainStands_report _ s, report_changesOnly _ s⟩

/-- A block boundary in a drain: CHU's boundary, AOP's work, and AOP's reports (R159, R163). -/
theorem settleBlock_draining {s : State} (draining : s.chu.drain = .draining) :
    ∃ (tone : Tone) (o : Aop) (a b : Option Detail), settleBlock s = reportIfDue .audioUnderrun .audio b
      (reportIfDue .audioUnderrun .audio a
        (aopKick (setAop o (settleChu { s.chu.silenceVoice with drain := .drained, tone := tone } s)))) := by
  unfold settleBlock
  dsimp only
  rw [settleVoice_drains draining]
  exact ⟨_, _, _, _, rfl⟩

/-- A block boundary in a drain silences the clip voice and reports CHU's boundary; the rest of its work is AOP's and the reports (R163). -/
theorem settleBlock_drains {s : State} (drains : Drains s .drained .drained .draining) :
    Drains (settleBlock s) .drained .drained .drained ∧ (settleBlock s).chu.voice.state = .idle ∧ ReportsBeside [.aop] s (settleBlock s) := by
  obtain ⟨phase, ring, capture, chimes⟩ := drains
  obtain ⟨tone, o, a, b, eq⟩ := settleBlock_draining chimes
  let settled := settleChu { s.chu.silenceVoice with drain := .drained, tone := tone } s
  obtain ⟨voice, -⟩ := s.chu.silenceVoice_spec
  obtain ⟨drain, quiet⟩ := keepsDrain_settleChu { s.chu.silenceVoice with drain := .drained, tone := tone } s
  have idle : settled.chu.voice.state = .idle := (quiet (show Drain.drained ≠ .none by decide)).trans (congrArg Voice.state voice)
  have drained : Drains settled .drained .drained .drained :=
    ⟨by rw [settleChu_lyu]; exact phase, by rw [settleChu_rqe]; exact ring, by rw [settleChu_ccp]; exact capture, drain⟩
  have audio : ChangesOnly [.aop, .stw] settled (aopKick (setAop o settled)) :=
    ((works_setAop settled o).seq (works_aopKick _) (blocks := [.aop, .stw])).only
  obtain ⟨first, firstOnly⟩ := drainStands_reportIfDue .audioUnderrun .audio a (aopKick (setAop o settled))
  obtain ⟨second, secondOnly⟩ := drainStands_reportIfDue .audioUnderrun .audio b
    (reportIfDue .audioUnderrun .audio a (aopKick (setAop o settled)))
  have stands : DrainStands settled (settleBlock s) := by
    rw [eq]
    exact ((DrainStands.of_only (audio.mono (by simp))).trans first).trans second
  refine ⟨stands.drains drained, ?_, ?_⟩
  · obtain ⟨-, still⟩ := stands.chimes
    exact (still (by rw [show settled.chu.drain = .drained from drain]; decide)).trans idle
  · rw [eq]
    have voiced := settleChu_changesOnly { s.chu.silenceVoice with drain := .drained, tone := tone } s
    unfold ReportsBeside
    exact (((voiced.mono (by simp)).trans (audio.mono (by simp))).trans (firstOnly.mono (by simp))).trans (secondOnly.mono (by simp))

end Sys2Proof.Machine
end

section
/-! SUPPORT. The end of the view in a drain (R114, R127), with a staged layout applied or not (R30). -/

namespace Sys2Proof.Machine

variable {s : State}

/-! ## A drain through the end of the view -/

theorem keepsDrain_staleCheck (s : State) : s.chu.KeepsDrain (staleCheck s).chu := by
  unfold staleCheck
  split
  · exact keepsDrain_report _ _
  · exact .refl _

theorem keepsDrain_handView (before : View) (s : State) : s.chu.KeepsDrain (handView before s).chu := by
  have guide : s.chu.KeepsDrain (guideViewNotice before s.rvc.view s).chu := by
    unfold guideViewNotice
    repeat' split
    · exact .refl _
    · refine Chu.KeepsDrain.trans (.of_eq ?_) (keepsDrain_staleCheck _)
      simp
    · exact .of_eq (by simp)
    · exact .refl _
  have park : (parkViewNotice s.rvc.view (guideViewNotice before s.rvc.view s)).chu = (guideViewNotice before s.rvc.view s).chu :=
    (works_parkViewNotice _ _).only .chu (by decide)
  refine (guide.trans (.of_eq park)).trans ?_
  unfold handView chuViewNotice
  split
  · rw [setChu_chu]
    exact ⟨rfl, fun _ => rfl⟩
  · exact .refl _

@[simp] theorem giveResult_drain (code : ResultCode) (s : State) : (giveResult code s).rqe.drain = s.rqe.drain := by
  unfold giveResult
  split <;> rfl

theorem applyMenuRequest_drain (s : State) : (applyMenuRequest s).rqe.drain = s.rqe.drain := by
  have withdrawn : (withdrawMenuRequest s).rqe = s.rqe := (works_withdrawMenuRequest s).only .rqe (by decide)
  unfold applyMenuRequest
  dsimp only
  repeat' split
  all_goals simp [answerMenu, withdrawn]

theorem menuApply_drain (s : State) : (menuApply s).rqe.drain = s.rqe.drain := by
  have dropped : ∀ (p : Panel) (t : State), (dropMenuFetch (.autoPop p) t).rqe = t.rqe := fun p t =>
    (works_dropMenuFetch t _).only .rqe (by decide)
  have kicked : ∀ t : State, (menuKick t).rqe = t.rqe := fun t => (works_menuKick t).only .rqe (by decide)
  have refilled : ∀ t : State, (refillNotices t).rqe = t.rqe := fun t => (works_refillNotices t).only .rqe (by decide)
  unfold menuApply
  dsimp only
  rw [kicked, applyMenuRequest_drain, refilled, markDirty_rqe, setMnu_rqe, dropped, dropped, dropped]

/-- A layout apply leaves a drain as it is: CHIME_STOP and the answer to a menu request report no boundary (R29). -/
theorem drainStands_applyLayout (l : Layout) (s : State) : DrainStands s (applyLayout l s) := by
  have after := applyLayout_after l s
  have guide : Works [.gdu, .wdc, .stw] (menuApply (committed l s)) (guideApply (menuApply (committed l s))) := works_guideApply _
  have chimes : Works [.chu, .stw] (guideApply (menuApply (committed l s))) (chimeApply (guideApply (menuApply (committed l s)))) :=
    works_chimeApply _
  have work := applyLayout_works l s
  have rqe : (applyLayout l s).rqe = (menuApply (committed l s)).rqe :=
    ((after .rqe (by decide)).trans (chimes.only .rqe (by decide))).trans (guide.only .rqe (by decide))
  have chu : (applyLayout l s).chu = { s.chu.stopAll with tone := s.chu.tone.halt } := by
    have before : (guideApply (menuApply (committed l s))).chu = s.chu :=
      (guide.only .chu (by decide)).trans ((works_menuApply _).only .chu (by decide))
    rw [show (applyLayout l s).chu = _ from after .chu (by decide), chimeApply_chu, before]
  refine ⟨by rw [(applyLayout_applied l s).lyu], by rw [rqe, menuApply_drain]; rfl, ?_, ?_⟩
  · rw [show (applyLayout l s).ccp = s.ccp from work.only .ccp (by decide)]
  · rw [chu]
    refine ⟨rfl, fun _ => ?_⟩
    dsimp only [Chu.stopAll]
    split <;> rfl

theorem drainStands_raiseCause (c : Cause) (s : State) : DrainStands s (raiseCause c s) :=
  .of_only ((works_raiseCause s c).only.mono (by simp))

theorem drainStands_normalEntryNotice (s : State) : DrainStands s (normalEntryNotice s) := by
  unfold normalEntryNotice
  split
  · exact (drainStands_applyLayout _ s).trans (drainStands_raiseCause _ _)
  · exact .refl s

/-- The end of a view in a drain is CCP's boundary: its frames are abandoned (R125, R127). -/
theorem enterNormal_drains (drains : Drains s .drained .draining .drained) : Drains (enterNormal s) .drained .drained .drained := by
  obtain ⟨phase, ring, capture, chimes⟩ := drains
  let ended := setRvc s.rvc.ended s
  have drained : Drains (stopCapture ended) .drained .drained .drained := by
    refine ⟨?_, ?_, Ccp.boundary_reports ?_ rfl rfl, ?_⟩
    · rw [show (stopCapture ended).lyu = s.lyu from setRvc_lyu s _]; exact phase
    · rw [show (stopCapture ended).rqe = s.rqe from setRvc_rqe s _]; exact ring
    · exact (congrArg Ccp.drain (setRvc_ccp s s.rvc.ended)).trans capture
    · rw [show (stopCapture ended).chu = s.chu from setRvc_chu s _]; exact chimes
  have told : DrainStands (stopCapture ended) (handView s.rvc.view (stopCapture ended)) := by
    have only := (works_handView (stopCapture ended) s.rvc.view).only
    exact ⟨by rw [show (handView _ _).lyu = _ from only .lyu (by decide)], by rw [show (handView _ _).rqe = _ from only .rqe (by decide)],
      by rw [show (handView _ _).ccp = _ from only .ccp (by decide)], keepsDrain_handView _ _⟩
  rw [enterNormal_eq]
  exact ((told.trans (drainStands_raiseCause _ _)).trans (drainStands_normalEntryNotice _)).drains drained

/-- What the end of a view in a drain is: the view has ended, and the reset is applied (R114, R127). -/
theorem enterNormal_resets (drains : Drains s .drained .draining .drained) (away : s.rvc.view ≠ .normal) :
    ViewEnded s.rvc s (enterNormal s) ∧ ResetIn (enterNormal s) (checkDrain (enterNormal s)) ∧
      (checkDrain (enterNormal s)).hlp = s.hlp ∧ (checkDrain (enterNormal s)).fmc = s.fmc := by
  obtain ⟨works, ended, -, -⟩ := enterNormal_ends away
  have reset := resetIn_of_drained (enterNormal_drains drains)
  obtain ⟨hlp, fmc, -⟩ := reset.1.kept
  exact ⟨ended, reset, hlp.trans (works.only .hlp (by decide)), fmc.trans (works.only .fmc (by decide))⟩

end Sys2Proof.Machine
end

section
/-! A warm reset is applied (R38, R39, R48, R127, R163). -/

namespace Sys2Proof.Machine

variable {s : State}

/-! ## WRST_ASSERT (R38) -/

theorem exec_wrstAssert (low : s.pins.wrst = .low) (running : s.lyu.partState = .running) (calm : s.lyu.phase = .none) :
    exec .wrstAssert s = .next (takeAssertion (withWrst .high s)) := by
  rw [show exec .wrstAssert s = execWrstAssert s from rfl]
  simp [execWrstAssert, low, running, calm, withWrst]

theorem withWrst_changesOnly (level : Level) (s : State) : ChangesOnly [.pins] s (withWrst level s) := fun b hb => by
  cases b <;> first | rfl | exact absurd (by simp) hb

/-! ## The view's timers in a drain (R108, R114) -/

theorem endHold_ends {expiry : Millis} (hold : s.rvc.view = .hold) (timer : s.rvc.holdTimer = .running expiry)
    (due : reached s.lyu.partTime expiry = true) : endHold s = enterNormal s := by
  simp [endHold, timer, Timer.due, now, due, hold]

/-- RVC with its pending fall of REV qualified (R108). -/
def revFallen (s : State) : State := setRvc { s.rvc with revQualified := .deasserted, revPending := none } s

theorem qualifyRev_ends {expiry : Millis} (acting : s.rvc.acting = true) (fall : s.rvc.revPending = some ⟨.deasserted, expiry⟩)
    (due : reached s.lyu.partTime expiry = true) (engaged : s.rvc.view = .engaged) (quiet : s.rvc.hostRequest = false)
    (short : s.lyu.committed.reverseHold = 0) : qualifyRev s = enterNormal (revFallen s) := by
  have view : (revFallen s).rvc.view = .engaged := by rw [revFallen, setRvc_rvc]; exact engaged
  have demand : (revFallen s).rvc.demand = false := by rw [revFallen, setRvc_rvc]; simp [Rvc.demand, quiet]
  have lyu : (revFallen s).lyu = s.lyu := setRvc_lyu s _
  have moves : qualifyRev s = evaluateDemand .rev (revFallen s) := by
    unfold qualifyRev
    simp only [fall]
    rw [if_pos ⟨acting, due⟩]
    rfl
  rw [moves, evaluateDemand, view, demand]
  dsimp only
  rw [viewHold, lyu]
  exact if_pos short

/-! ## The settlement -/

theorem wrstAssert_applies (low : s.pins.wrst = .low) (running : s.lyu.partState = .running) (calm : s.lyu.phase = .none)
    (applies : s.lyu.committed.warmResetMode = .immediate ∨ NothingInHand s) :
    ∃ t : State, exec .wrstAssert s = .next t ∧ WarmReset s t ∧ Held t ∧ t.lyu.resetCount = s.lyu.resetCount ∧
      t.pins = { s.pins with wrst := .high } ∧ t.pending = s.pending := by
  obtain ⟨reset, held, count, -, pins, pending⟩ := takeAssertion_high (s := withWrst .high s) rfl applies
  exact ⟨_, exec_wrstAssert low running calm, { reset with }, held, count, pins, pending⟩

theorem wrstAssert_drains (low : s.pins.wrst = .low) (running : s.lyu.partState = .running) (calm : s.lyu.phase = .none)
    (mode : s.lyu.committed.warmResetMode = .boundary) (hand : ¬ NothingInHand s) :
    exec .wrstAssert s = .next (startDrain (withWrst .high s)) := by
  rw [exec_wrstAssert low running calm, takeAssertion_drains (s := withWrst .high s) mode hand]

theorem Ccp.taking_of {c : Ccp} (capturing : c.capturing = true) (free : c.held = false) : c.taking = true := by
  simp [Ccp.taking, capturing, free]

/-- Settles O40: an assertion applies the reset or starts a drain, the limit applies it, and so does the last boundary, whichever block
reports it. -/
theorem warmResetIsApplied : Obligations.WarmResetIsApplied := by
  refine ⟨fun s low running calm => ⟨wrstAssert_applies low running calm, fun mode hand => ?drain⟩, fun s expiry limit due high => ?limit,
    fun s beats r index drains busy result entry => ?ring, fun s f drains capturing free receiving => ?frames,
    fun s beats line rest f drains busy claim buffer last receiving closing written => ?line, fun s drains free => ?chimes,
    fun s expiry drains hold timer due => ?hold, fun s expiry drains acting fall due engaged quiet short => ?rev⟩
  case drain =>
    have pins := (withWrst_changesOnly .high s).mono (more := [.lyu, .pins, .rqe, .ccp, .chu, .stw]) (by simp)
    have only := (startDrain_changesOnly (withWrst .high s)).mono (more := [.lyu, .pins, .rqe, .ccp, .chu, .stw]) (by simp)
    refine ⟨_, wrstAssert_drains low running calm mode hand, startDrain_lyu _, rfl, rfl, ?_, rfl, startDrain_marks _, pins.trans only⟩
    rw [startDrain_ccp, Ccp.boundary_keeps]
    rfl
  case limit =>
    obtain ⟨reset, held, -⟩ := resetIn_resetNow s
    exact ⟨_, exec_drainLimitExpiry_due limit due, reset, held high⟩
  case ring => exact ⟨_, exec_resultWriteComplete busy result entry, resultDone_resets drains⟩
  case frames =>
    have taking := Ccp.taking_of capturing free
    have draining : s.ccp.drain ≠ .none := by
      obtain ⟨-, -, capture, -⟩ := drains
      rw [capture]
      decide
    refine ⟨fun whole written => ⟨_, rfl, takeFrameEnd_resets drains taking receiving whole written⟩, fun short closing => ⟨_, rfl, ?_⟩,
      fun no closing => ⟨_, rfl, ?_⟩, fun lineNo data check disordered closing => ⟨_, rfl, ?_⟩⟩
    · rw [takeFrameEnd_damages taking receiving short]
      exact damageFrame_resets _ _ drains receiving closing _
    · rw [takeFrameStart_damages taking receiving draining]
      exact damageFrame_resets _ _ drains receiving closing _
    · rw [takeLine_damages taking receiving disordered]
      exact damageFrame_resets _ _ drains receiving closing _
  case line =>
    refine ⟨_, ?_, lineWritten_resets (s := freeFmc s) drains claim buffer last receiving closing written⟩
    simp only [exec, execCameraLineWriteComplete, busy]
  case chimes =>
    obtain ⟨drained, idle, only⟩ := settleBlock_drains drains
    have block : blockBoundary s = settleBlock s := if_neg (by simp [free])
    exact ⟨settleBlock s, _, by rw [← block]; rfl, only, idle, resetIn_of_drained drained⟩
  case hold =>
    have reset := enterNormal_resets drains (by rw [hold]; decide)
    rw [← endHold_ends hold timer due] at reset
    obtain ⟨ended, applied, hlp, fmc⟩ := reset
    exact ⟨_, _, rfl, ended, applied, hlp, fmc⟩
  case rev =>
    have only : ChangesOnly [.rvc, .stw] s (revFallen s) := (works_setRvc s _).only
    have fallen : Drains (revFallen s) .drained .draining .drained := (DrainStands.of_only (only.mono (by simp))).drains drains
    have away : (revFallen s).rvc.view ≠ .normal := by rw [revFallen, setRvc_rvc]; simp [engaged]
    obtain ⟨ended, applied, hlp, fmc⟩ := enterNormal_resets fallen away
    have memory : MemoryKept s (revFallen s) := by rw [MemoryKept, revFallen, setRvc_fmc]; exact ⟨rfl, rfl⟩
    have seen := ended.within (only.mono (by simp)) memory (.refl _ _)
    rw [show (revFallen s).rvc = _ from setRvc_rvc s _] at seen
    refine ⟨enterNormal (revFallen s), checkDrain (enterNormal (revFallen s)), ?_, seen, applied, hlp.trans (only .hlp (by decide)),
      fmc.trans (only .fmc (by decide))⟩
    rw [← qualifyRev_ends acting fall due engaged quiet short]
    rfl

end Sys2Proof.Machine
end

section
/-! SUPPORT. The frame of the entry in execution. What R42 to R49 and R92 to R106 speak of is one view of the state: the ring, the menu unit,
the stage of a LAYOUT_COMMIT and the result in hand at STW. Every operation outside the ring, the menus, LYU's commit and the resets leaves
it, and each such operation has one lemma here. -/

namespace Sys2Proof.Machine

/-! ## The view -/

/-- What the owners of the entry in execution hold: RQE, MNU, the stage of a LAYOUT_COMMIT in hand and the result in hand at STW. -/
@[ext] structure EntryView where
  rqe : Rqe
  mnu : Mnu
  commit : CommitStage
  result : Option ResultWrite

/-- The entry in execution as its owners hold it. -/
def entryView (s : State) : EntryView := ⟨s.rqe, s.mnu, s.lyu.commit, s.stw.result⟩

theorem entryView_of_fields {s t : State} (rqe : t.rqe = s.rqe) (mnu : t.mnu = s.mnu) (commit : t.lyu.commit = s.lyu.commit)
    (result : t.stw.result = s.stw.result) : entryView t = entryView s := by
  rw [entryView, rqe, mnu, commit, result, entryView]

/-- Work in other blocks than RQE, MNU, LYU and STW leaves the view. -/
theorem ChangesOnly.entryView {blocks : List Block} {s t : State} (h : ChangesOnly blocks s t)
    (rqe : Block.rqe ∉ blocks := by decide) (mnu : Block.mnu ∉ blocks := by decide) (lyu : Block.lyu ∉ blocks := by decide)
    (stw : Block.stw ∉ blocks := by decide) : entryView t = entryView s :=
  entryView_of_fields (h .rqe rqe) (h .mnu mnu) (by rw [h .lyu lyu]) (by rw [h .stw stw])

/-! The two directions in which `simp` meets a record update that leaves the view. -/

@[simp] theorem entryView_mk (fmc : Fmc) (hlp : Hlp) (wdc : Wdc) (lyu : Lyu) (stw : Stw) (rqe : Rqe) (den : Engines)
    (fsq : PerChannel FilmChannel) (mnu : Mnu) (rvc : Rvc) (ccp : Ccp) (gdu : Gdu) (pdu : Pdu) (chu : Chu) (aop : Aop) (flt : Flt)
    (pins : Pins) (freeCount : Nat) (pending : List Instr) :
    entryView ⟨fmc, hlp, wdc, lyu, stw, rqe, den, fsq, mnu, rvc, ccp, gdu, pdu, chu, aop, flt, pins, freeCount, pending⟩ =
      ⟨rqe, mnu, lyu.commit, stw.result⟩ := rfl

@[simp] theorem entryView_fields (s : State) : (⟨s.rqe, s.mnu, s.lyu.commit, s.stw.result⟩ : EntryView) = entryView s := rfl

section Frame

variable (s : State)

@[simp] theorem entryView_rqe : (entryView s).rqe = s.rqe := rfl
@[simp] theorem entryView_mnu : (entryView s).mnu = s.mnu := rfl
@[simp] theorem entryView_commit : (entryView s).commit = s.lyu.commit := rfl
@[simp] theorem entryView_result : (entryView s).result = s.stw.result := rfl

/-! ## Shared operations -/

@[simp] theorem entryView_freeFmc : entryView (freeFmc s) = entryView s := rfl
@[simp] theorem entryView_markDirty (k : StatusSection) : entryView (markDirty k s) = entryView s :=
  entryView_of_fields rfl rfl rfl (markDirty_result k s)
@[simp] theorem entryView_setCauses (set : BitVec 6) : entryView (setCauses set s) = entryView s := by
  unfold setCauses; split <;> simp
@[simp] theorem entryView_raiseCause (c : Cause) : entryView (raiseCause c s) = entryView s := entryView_setCauses s _
@[simp] theorem entryView_setCcp (c : Ccp) : entryView (setCcp c s) = entryView s := rfl
@[simp] theorem entryView_setEngine (p : Panel) (d : Den) : entryView (setEngine p d s) = entryView s := rfl
@[simp] theorem entryView_setRvc (r : Rvc) : entryView (setRvc r s) = entryView s := by unfold setRvc; split <;> simp
@[simp] theorem entryView_setChu (c : Chu) : entryView (setChu c s) = entryView s := by unfold setChu; split <;> simp
@[simp] theorem entryView_setAop (o : Aop) : entryView (setAop o s) = entryView s := by unfold setAop; split <;> simp
@[simp] theorem entryView_setGdu (g : Gdu) : entryView (setGdu g s) = entryView s := by simp only [setGdu]; split <;> simp
@[simp] theorem entryView_setChannel (x : Channel) (r : FilmChannel) : entryView (setChannel x r s) = entryView s := by
  unfold setChannel; split <;> simp
@[simp] theorem entryView_setRqe (r : Rqe) : entryView (setRqe r s) = { entryView s with rqe := r } := rfl
@[simp] theorem entryView_setMnu (m : Mnu) : entryView (setMnu m s) = { entryView s with mnu := m } := rfl
@[simp] theorem entryView_setLyu (l : Lyu) : entryView (setLyu l s) = { entryView s with commit := l.commit } := rfl
@[simp] theorem entryView_settleChu (c : Chu) : entryView (settleChu c s) = entryView s := entryView_setChu s _
@[simp] theorem entryView_chimeEvent (e : ChimeEvent) : entryView (chimeEvent e s) = entryView s := by
  unfold chimeEvent; repeat' split
  all_goals simp
@[simp] theorem entryView_cadenceNotice (n : CadenceNotice) : entryView (cadenceNotice n s) = entryView s := by
  unfold cadenceNotice; split <;> simp
@[simp] theorem entryView_takeAction (a : FaultAction) : entryView (takeAction a s) = entryView s := by
  simp only [takeAction, degradedNotice]; repeat' split
  all_goals simp
@[simp] theorem entryView_report (r : Report) : entryView (report r s) = entryView s := by
  simp only [report]; repeat' split
  all_goals simp
@[simp] theorem entryView_reportPlain (kind : FaultKind) (source : FaultSource) (detail : Detail) :
    entryView (reportPlain kind source detail s) = entryView s := entryView_report s _
@[simp] theorem entryView_reportHost (kind : FaultKind) (source : FaultSource) (detail : Detail) (p : HostRequest) :
    entryView (reportHost kind source detail p s) = entryView s := entryView_report s _
theorem entryView_reportMemory {each : FaultKind → Nat → Nat → State → State} (h : ∀ k l n u, entryView (each k l n u) = entryView u)
    (corrected poisoned : List Nat) : entryView (reportMemory corrected poisoned each s) = entryView s := by
  simp only [reportMemory]; split <;> split <;> simp [h]
@[simp] theorem entryView_reportMemoryFor (port : Port) (m : Moved) : entryView (reportMemoryFor port m s) = entryView s :=
  entryView_reportMemory s (fun _ _ _ u => entryView_report u _) _ _
@[simp] theorem entryView_reportMemoryHost (p : HostRequest) (target : Nat) (m : Moved) :
    entryView (reportMemoryHost p target m s) = entryView s :=
  entryView_reportMemory s (fun _ _ _ u => entryView_report u _) _ _
@[simp] theorem entryView_reportIfDue (kind : FaultKind) (source : FaultSource) (detail : Option Detail) :
    entryView (reportIfDue kind source detail s) = entryView s := by unfold reportIfDue; split <;> simp

/-! ## Faults, guide lines and park distance -/

@[simp] theorem entryView_requestFaultAck (classes clear : Nat) : entryView (requestFaultAck classes clear s).1 = entryView s := by
  simp only [requestFaultAck]; split <;> simp
@[simp] theorem entryView_requestAttnAck (causes : Nat) : entryView (requestAttnAck causes s).1 = entryView s := by
  unfold requestAttnAck; split <;> simp
@[simp] theorem entryView_requestResume : entryView (requestResume s).1 = entryView s := by
  unfold requestResume; repeat' split
  all_goals simp
@[simp] theorem entryView_staleCheck : entryView (staleCheck s) = entryView s := by unfold staleCheck; split <;> simp
@[simp] theorem entryView_steeringBeat (bytes : List Byte) : entryView (steeringBeat bytes s) = entryView s := by
  simp only [steeringBeat]; split <;> simp
@[simp] theorem entryView_guideViewNotice (before after : View) : entryView (guideViewNotice before after s) = entryView s := by
  unfold guideViewNotice; repeat' split
  all_goals simp
@[simp] theorem entryView_requestGuideBank (b : Nat) : entryView (requestGuideBank b s).1 = entryView s := by
  unfold requestGuideBank; repeat' split
  all_goals simp
@[simp] theorem entryView_guideSwitch : entryView (guideSwitch s) = entryView s := by simp only [guideSwitch]; split <;> simp
@[simp] theorem entryView_guideApply : entryView (guideApply s) = entryView s := by simp [guideApply]
@[simp] theorem entryView_reportList (f : GuideFetch) (v : GuideVerdict) : entryView (reportList f v s) = entryView s := by
  unfold reportList; split <;> simp
@[simp] theorem entryView_parkViewNotice (after : View) : entryView (parkViewNotice after s) = entryView s := by
  simp only [parkViewNotice]; split <;> simp
@[simp] theorem entryView_chuViewNotice (before after : View) : entryView (chuViewNotice before after s) = entryView s := by
  unfold chuViewNotice; split <;> simp
@[simp] theorem entryView_handCadence (k : ParkSettings) : entryView (handCadence k s) = entryView s := by
  unfold handCadence; split <;> simp
@[simp] theorem entryView_enterSensorFault (k : ParkSettings) (detail : Detail) :
    entryView (enterSensorFault k detail s) = entryView s := by unfold enterSensorFault; split <;> simp
@[simp] theorem entryView_evaluatePark (k : ParkSettings) (d : Distance) : entryView (evaluatePark k d s) = entryView s := by
  simp only [evaluatePark]; split <;> simp
@[simp] theorem entryView_distanceBeat (bytes : List Byte) : entryView (distanceBeat bytes s) = entryView s := by
  simp only [distanceBeat]; repeat' split
  all_goals simp

/-! ## Display, film, chimes and film audio -/

@[simp] theorem entryView_setHold (p : RearPanel) (h : Option Hold) : entryView (p.setHold h s) = entryView s := by cases p <;> rfl
@[simp] theorem entryView_handPresented (x : Channel) (p : Presented) : entryView (handPresented x p s) = entryView s := by
  cases p <;> simp [handPresented]
@[simp] theorem entryView_filmRefresh (p : RearPanel) (showing : Bool) : entryView (filmRefresh p showing s) = entryView s := by
  simp only [filmRefresh]; split <;> simp
@[simp] theorem entryView_aopKick : entryView (aopKick s) = entryView s := (aopKick_changesOnly s).entryView
@[simp] theorem entryView_rearRefresh (p : RearPanel) : entryView (rearRefresh p s) = entryView s := by simp [rearRefresh]
@[simp] theorem entryView_exchangePin (move : Bool) : entryView (exchangePin move s) = entryView s := by
  simp only [exchangePin]; split <;> simp
@[simp] theorem entryView_pinExchange (move : Bool) : entryView (pinExchange move s) = entryView s := entryView_exchangePin s move
@[simp] theorem entryView_centreRow : entryView (centreRow s).1 = entryView s := by unfold centreRow; split <;> simp
@[simp] theorem entryView_centreRefresh : entryView (centreRefresh s) = entryView s := by simp only [centreRefresh]; split <;> simp
@[simp] theorem entryView_uiBaseBeat (bytes : List Byte) : entryView (uiBaseBeat bytes s) = entryView s := by
  simp only [uiBaseBeat]; repeat' split
  all_goals simp
@[simp] theorem entryView_changeChannel (x : Channel) (f : FilmChannel → FilmChannel) : entryView (changeChannel x f s) = entryView s :=
  entryView_setChannel s _ _
@[simp] theorem entryView_audioProducerBeat (x : Channel) (bytes : List Byte) :
    entryView (audioProducerBeat x bytes s) = entryView s := by
  simp only [audioProducerBeat]; repeat' split
  all_goals simp
@[simp] theorem entryView_audioStop (x : Channel) : entryView (audioStop x s) = entryView s := by simp [audioStop]
@[simp] theorem entryView_audioApply : entryView (audioApply s) = entryView s := by simp [audioApply]
@[simp] theorem entryView_blockBoundary : entryView (blockBoundary s) = entryView s := by
  unfold blockBoundary; split <;> simp [settleBlock]
@[simp] theorem entryView_requestChimePlay (clip priority plays route requeue : Nat) :
    entryView (requestChimePlay clip priority plays route requeue s).1 = entryView s := by
  unfold requestChimePlay; repeat' split
  all_goals simp
@[simp] theorem entryView_requestChimeStop (clip : Option Nat) : entryView (requestChimeStop clip s).1 = entryView s := by
  unfold requestChimeStop; repeat' split
  all_goals simp
@[simp] theorem entryView_chimeApply : entryView (chimeApply s) = entryView s := entryView_setChu s _
@[simp] theorem entryView_requestFilmPlay (x : Channel) : entryView (requestFilmPlay x s).1 = entryView s := by
  unfold requestFilmPlay; repeat' split
  all_goals simp
@[simp] theorem entryView_requestFilmPause (x : Channel) : entryView (requestFilmPause x s).1 = entryView s := by
  simp [requestFilmPause]
@[simp] theorem entryView_requestFilmStop (x : Channel) : entryView (requestFilmStop x s).1 = entryView s := by
  simp [requestFilmStop]
@[simp] theorem entryView_requestFilmSeek (h m sec : Nat) (x : Channel) : entryView (requestFilmSeek h m sec x s).1 = entryView s := by
  unfold requestFilmSeek; split <;> simp
theorem entryView_filmRequest (channel : Nat) {act : Channel → State → State × ResultCode}
    (h : ∀ x, entryView (act x s).1 = entryView s) : entryView (filmRequest channel act s).1 = entryView s := by
  unfold filmRequest; repeat' split
  all_goals simp [h]

/-! ## Camera capture and the reverse view -/

@[simp] theorem entryView_enterLost (deadline : Bool) : entryView (enterLost deadline s) = entryView s := by simp [enterLost]
@[simp] theorem entryView_goodFrameNotice (frameNo : Count) : entryView (goodFrameNotice frameNo s) = entryView s := entryView_setRvc s _
@[simp] theorem entryView_damagedFrameNotice : entryView (damagedFrameNotice s) = entryView s := by
  unfold damagedFrameNotice; split <;> simp
@[simp] theorem entryView_closeIfWritten : entryView (closeIfWritten s) = entryView s := by
  unfold closeIfWritten; repeat' split
  all_goals simp
@[simp] theorem entryView_damageFrame (detail : Detail) (reception : Reception) :
    entryView (damageFrame detail reception s) = entryView s := by simp only [damageFrame]; split <;> simp
@[simp] theorem entryView_startFrame (frameNo : Count) : entryView (startFrame frameNo s) = entryView s := by
  unfold startFrame; split <;> simp
@[simp] theorem entryView_takeFrameStart (frameNo : Count) : entryView (takeFrameStart frameNo s) = entryView s := by
  simp only [takeFrameStart]; split <;> simp
@[simp] theorem entryView_takeLine (lineNo : Count) (data : List Byte) (check : BitVec 32) :
    entryView (takeLine lineNo data check s) = entryView s := by
  simp only [takeLine]; repeat' split
  all_goals simp
@[simp] theorem entryView_takeFrameEnd : entryView (takeFrameEnd s) = entryView s := by
  simp only [takeFrameEnd]; repeat' split
  all_goals simp
@[simp] theorem entryView_lineWritten : entryView (lineWritten s) = entryView s := by
  simp only [lineWritten]; repeat' split
  all_goals simp
@[simp] theorem entryView_startCapture : entryView (startCapture s) = entryView s := by unfold startCapture; split <;> simp
@[simp] theorem entryView_stopCapture : entryView (stopCapture s) = entryView s := by simp [stopCapture]
@[simp] theorem entryView_drainCapture : entryView (drainCapture s) = entryView s := rfl
@[simp] theorem entryView_handView (before : View) : entryView (handView before s) = entryView s := by simp [handView]
@[simp] theorem entryView_engageChime (cause : EngageCause) : entryView (engageChime cause s) = entryView s := by
  unfold engageChime; split <;> simp
@[simp] theorem entryView_viewEngage (cause : EngageCause) : entryView (viewEngage cause s) = entryView s := by simp [viewEngage]
@[simp] theorem entryView_viewReengage (cause : EngageCause) : entryView (viewReengage cause s) = entryView s := by simp [viewReengage]
@[simp] theorem entryView_viewStopped : entryView (viewStopped s) = entryView s := by simp [viewStopped]
@[simp] theorem entryView_beginActing : entryView (beginActing s) = entryView s := entryView_setRvc s _

/-! ## What the host's WRITE hands on but for the producer beat, and grants -/

@[simp] theorem entryView_takeTrailer (x : Channel) (bytes : List Byte) : entryView (takeTrailer x bytes s) = entryView s := by
  simp only [takeTrailer]; split <;> simp
@[simp] theorem entryView_sendResponse (r : Response) : entryView (sendResponse r s) = entryView s := rfl
@[simp] theorem entryView_beginGrant (port : Port) (kind : GrantKind) (m : Moved) : entryView (beginGrant port kind m s) = entryView s := by
  simp [beginGrant]

end Frame

end Sys2Proof.Machine
end

section
/-! SUPPORT. The ring's indices and the entry's one owner, each said of the blocks it speaks of, and what RQE's moves and a result given do to
them (R42 to R49). -/

namespace Sys2Proof.Machine

/-! ## The ring's indices (R42, R43, R47, R48) -/

/-- `RingSafe`, said of RQE. -/
structure Rqe.Safe (r : Rqe) : Prop where
  room : (r.producer - r.consumer).toNat ≤ 32
  entry : ∀ e, r.entry = some e → e.index = r.consumer ∧ r.producer ≠ r.consumer
  draining : r.drain = .draining → r.entry.isSome = true
  drained : r.drain = .drained → r.entry = none

theorem ringSafe_iff (s : State) : RingSafe s ↔ s.rqe.Safe :=
  ⟨fun ⟨room, entry, draining, drained⟩ => ⟨room, entry, draining, drained⟩,
    fun safe => ⟨safe.room, safe.entry, safe.draining, safe.drained⟩⟩

/-- RQE with its entry in another phase. -/
def Rqe.enter (phase : EntryPhase) (r : Rqe) : Rqe := { r with entry := r.entry.map fun e => { e with phase := phase } }

namespace Rqe

variable {r : Rqe}

/-- An RQE that has no entry and is in no drain is safe while its ring has room. -/
theorem Safe.of_resting (room : (r.producer - r.consumer).toNat ≤ 32) (entry : r.entry = none) (drain : r.drain ≠ .draining) : r.Safe :=
  ⟨room, fun e some => (by rw [entry] at some; cases some), fun drains => absurd drains drain, fun _ => entry⟩

theorem Safe.enter (h : r.Safe) (phase : EntryPhase) : (r.enter phase).Safe where
  room := h.room
  entry := fun e some => by
    obtain ⟨e', some', rfl⟩ := Option.map_eq_some_iff.mp some
    exact h.entry e' some'
  draining := fun drains => by simpa [Rqe.enter] using h.draining drains
  drained := fun drains => by simp [Rqe.enter, h.drained drains]

theorem Safe.withClaim (h : r.Safe) (claim : Claim) (fetched : List Byte) (held : Bool) :
    ({ r with claim := claim, fetched := fetched, held := held } : Rqe).Safe := ⟨h.room, h.entry, h.draining, h.drained⟩

/-- A kick leaves the entry, or starts to fetch one where there was none, with producer ahead and no drain in progress (R43, R48). -/
theorem kick_entry (r : Rqe) : r.kick.entry = r.entry ∨
    (r.entry = none ∧ r.consumer ≠ r.producer ∧ r.drain = .none ∧ r.kick.entry = some ⟨r.consumer, .fetching⟩) := by
  cases starts : r.mayStart with
  | false => exact .inl (kick_resting starts).2.2
  | true =>
    obtain ⟨⟨⟨free, ahead⟩, calm⟩, -⟩ : ((r.entry = none ∧ r.consumer ≠ r.producer) ∧ r.drain = .none) ∧ r.held = false := by
      simpa [mayStart] using starts
    exact .inr ⟨free, ahead, calm, (kick_starting starts).2.2.1⟩

/-- An entry starts at consumer, with producer ahead and no drain in progress (R43, R48). -/
theorem Safe.kick (h : r.Safe) : r.kick.Safe := by
  obtain ⟨producer, consumer⟩ := r.kick_ring
  rcases r.kick_entry with same | ⟨-, ahead, calm, starts⟩
  · exact ⟨by rw [producer, consumer]; exact h.room, by rw [same, producer, consumer]; exact h.entry,
      by rw [same, kick_drain]; exact h.draining, by rw [same, kick_drain]; exact h.drained⟩
  · refine ⟨by rw [producer, consumer]; exact h.room, fun e started => ?_, by simp [calm], by simp [calm]⟩
    rw [starts] at started
    cases started
    rw [producer, consumer]
    exact ⟨rfl, ahead.symm⟩

/-- An accepted producer is 0 to 32 ahead, and beyond an entry in execution (R42). -/
theorem Safe.accepted (h : r.Safe) {value : Count} (accepts : r.accepts value = true) : ({ r with producer := value } : Rqe).Safe := by
  obtain ⟨beyond, room⟩ := (r.accepts_iff value).mp accepts
  refine ⟨room, fun e some => ⟨(h.entry e some).1, ?_⟩, h.draining, h.drained⟩
  have busy : r.entry ≠ none := fun none => Option.some_ne_none e (some.symm.trans none)
  exact ((ne_iff_ahead _ _).mpr (beyond busy)).symm

/-- The advance leaves producer one less ahead, and a drain DRAINED (R47, R48). -/
theorem Safe.advance (h : r.Safe) (busy : r.entry.isSome = true) : r.advance.Safe := by
  obtain ⟨e, entry⟩ := Option.isSome_iff_exists.mp busy
  have ahead := (ne_iff_ahead _ _).mp (h.entry e entry).2.symm
  have room := h.room
  rw [advance_eq]
  refine (Safe.of_resting ?_ rfl ?_).kick
  · simp only [advanced]
    bv_omega
  · simp only [advanced]
    split <;> decide

theorem Safe.beginDrain (h : r.Safe) : r.beginDrain.Safe := by
  refine ⟨h.room, h.entry, ?_, ?_⟩ <;> simp only [Rqe.beginDrain] <;> cases entry : r.entry <;> simp

theorem safe_reset (claim : Claim) (held : Bool) : ({ Rqe.reset with held := held, claim := claim } : Rqe).Safe :=
  .of_resting (by simp [Rqe.reset]) rfl (by simp [Rqe.reset])

/-- A kick leaves the claim or raises one for an entry to be fetched (R43, R44). -/
theorem kick_claim (r : Rqe) : r.kick.claim = r.claim ∨ r.kick.entry.map Entry.phase = some .fetching := by
  have started : r.start.claim = r.claim := by
    unfold start
    split <;> rfl
  unfold kick raise
  split
  · next entry => exact .inr (by simp [entry])
  · exact .inl started

end Rqe

/-! ## The entry's one owner (R45 to R47, R49) -/

/-- The phase of the entry in execution. -/
def EntryView.phase (v : EntryView) : Option EntryPhase := v.rqe.entry.map Entry.phase

/-- `EntrySafe`, said of the view. -/
structure EntryView.OneOwner (v : EntryView) : Prop where
  fetch : v.rqe.claim.req.isSome = true ∨ v.rqe.claim.live = true → v.phase = some .fetching
  menu : v.mnu.request.isSome = true → v.phase = some .withOwner ∧ v.commit = .none
  commit : v.commit ≠ .none → v.phase = some .withOwner
  result : v.result.isSome = true ↔ v.phase = some .writingResult

theorem entrySafe_iff (s : State) : EntrySafe s ↔ (entryView s).OneOwner :=
  ⟨fun ⟨fetch, menu, commit, result⟩ => ⟨fetch, menu, commit, result⟩, fun h => ⟨h.fetch, h.menu, h.commit, h.result⟩⟩

/-- An entry that only RQE knows of: no claim for it stands, and none of MNU, LYU and STW has it in hand. -/
structure EntryView.Unheld (v : EntryView) : Prop where
  entry : v.rqe.entry.isSome = true
  claim : v.rqe.claim.req = none ∧ v.rqe.claim.live = false
  request : v.mnu.request = none
  commit : v.commit = .none
  result : v.result = none
  unwritten : v.phase ≠ some .writingResult

/-- The view once the entry in execution has been given a result, which stands at STW (R46). -/
def EntryView.answered (code : ResultCode) (v : EntryView) : EntryView :=
  { v with
    rqe := v.rqe.enter .writingResult
    result := (v.rqe.entry.map fun e => (⟨e.index.toNat % 32, code⟩ : ResultWrite)).or v.result }

@[simp] theorem entryView_giveResult (code : ResultCode) (s : State) : entryView (giveResult code s) = (entryView s).answered code := by
  unfold giveResult
  split
  · next none =>
    have same : s.rqe.enter .writingResult = s.rqe := by
      rw [Rqe.enter, none, Option.map_none, ← none]
    rw [EntryView.answered, entryView_rqe, same, none]
    rfl
  · next e some =>
    rw [EntryView.answered, Rqe.enter, entryView_rqe, some]
    exact EntryView.ext rfl rfl rfl (Stw.take_result _ _)

namespace EntryView

variable {v : EntryView}

theorem phase_enter {phase : EntryPhase} (entry : v.rqe.entry.isSome = true) {m : Mnu} {c : CommitStage} {w : Option ResultWrite} :
    (⟨v.rqe.enter phase, m, c, w⟩ : EntryView).phase = some phase := by
  obtain ⟨e, some⟩ := Option.isSome_iff_exists.mp entry
  simp [EntryView.phase, Rqe.enter, some]

/-- With nothing in hand, an entry is safe in any phase but the one in which its result is written. -/
theorem OneOwner.of_idle (claim : v.rqe.claim.req = none ∧ v.rqe.claim.live = false) (request : v.mnu.request = none)
    (commit : v.commit = .none) (result : v.result.isSome = true ↔ v.phase = some .writingResult) : v.OneOwner where
  fetch := fun waits => by simp [claim] at waits
  menu := fun hand => by simp [request] at hand
  commit := fun hand => absurd commit hand
  result := result

/-- The owner that alone has the entry in hand lets it go. -/
theorem OneOwner.released (h : v.OneOwner) (owned : v.phase = some .withOwner) {m : Mnu} (request : m.request = none) :
    (⟨v.rqe, m, .none, v.result⟩ : EntryView).Unheld where
  entry := by simpa [EntryView.phase] using congrArg Option.isSome owned
  claim := by
    have fetching := h.fetch
    rw [owned] at fetching
    simpa using fetching
  request := request
  commit := rfl
  result := by
    have writing := h.result
    rw [owned] at writing
    simpa using writing
  unwritten := fun writing => by cases owned.symm.trans writing

/-- A fetched entry of a claim that is still wanted: the entry is FETCHING, so nobody has it in hand (R44, R46). -/
theorem OneOwner.fetched (h : v.OneOwner) (live : v.rqe.claim.live = true) (data : List Byte) :
    ({ v with rqe := { v.rqe with claim := .idle, fetched := data } } : EntryView).Unheld := by
  have phase := h.fetch (.inr live)
  have request : ¬ v.mnu.request.isSome = true := fun hand => by simpa [phase] using (h.menu hand).1
  have commit : ¬ v.commit ≠ .none := fun hand => by simpa [phase] using h.commit hand
  have result : ¬ v.result.isSome = true := fun hand => by simpa [phase] using h.result.mp hand
  exact ⟨by simpa [EntryView.phase] using congrArg Option.isSome phase, ⟨rfl, rfl⟩, by simpa using request, by simpa using commit,
    by simpa using result, fun writing => by cases phase.symm.trans writing⟩

/-- With nobody to have the entry in hand its one owner is RQE. -/
theorem Unheld.oneOwner (h : v.Unheld) : v.OneOwner :=
  .of_idle h.claim h.request h.commit ⟨fun hand => by simp [h.result] at hand, fun writing => absurd writing h.unwritten⟩

/-- An entry that nobody has in hand may be given its result (R46). -/
theorem Unheld.answered (h : v.Unheld) (code : ResultCode) : (v.answered code).OneOwner := by
  obtain ⟨e, some⟩ := Option.isSome_iff_exists.mp h.entry
  refine .of_idle h.claim h.request h.commit ?_
  rw [EntryView.answered, phase_enter h.entry]
  simp [some]

/-- An entry that nobody has in hand goes to its owner (R45). -/
theorem Unheld.dispatched (h : v.Unheld) : ({ v with rqe := v.rqe.enter .withOwner } : EntryView).Unheld :=
  ⟨by simpa [Rqe.enter] using h.entry, h.claim, h.request, h.commit, h.result, by rw [phase_enter h.entry]; decide⟩

/-- RQE's claim ends: an entry may be in any phase without one. -/
theorem OneOwner.unclaimed (h : v.OneOwner) : ({ v with rqe := { v.rqe with claim := .idle } } : EntryView).OneOwner where
  fetch := fun waits => by simp [Claim.req, Claim.live] at waits
  menu := h.menu
  commit := h.commit
  result := h.result

/-- RQE starts an entry only where there was none, and claims only for an entry to be fetched (R43, R44). -/
theorem OneOwner.kick (h : v.OneOwner) : ({ v with rqe := v.rqe.kick } : EntryView).OneOwner := by
  have claim := v.rqe.kick_claim
  rcases v.rqe.kick_entry with same | ⟨free, -, -, starts⟩
  · have phase : ({ v with rqe := v.rqe.kick } : EntryView).phase = v.phase := congrArg (Option.map Entry.phase) same
    refine ⟨fun waits => ?_, by rw [phase]; exact h.menu, by rw [phase]; exact h.commit, by rw [phase]; exact h.result⟩
    rcases claim with kept | fetching
    · rw [phase]
      exact h.fetch (by simpa only [kept] using waits)
    · exact fetching
  · have before : v.phase = none := by simp [EntryView.phase, free]
    have after : ({ v with rqe := v.rqe.kick } : EntryView).phase = some .fetching := by simp [EntryView.phase, starts]
    refine ⟨fun _ => after, fun hand => ?_, fun hand => ?_, ?_⟩
    · simpa [before] using (h.menu hand).1
    · simpa [before] using h.commit hand
    · rw [after]
      simpa [before] using h.result

/-- The result of an entry is written: the entry ends, and RQE goes on to the next (R47). -/
theorem OneOwner.advance (h : v.OneOwner) (writing : v.phase = some .writingResult) :
    ({ v with rqe := v.rqe.advance, result := none } : EntryView).OneOwner := by
  have request : ¬ v.mnu.request.isSome = true := fun hand => by simpa [writing] using (h.menu hand).1
  have commit : ¬ v.commit ≠ .none := fun hand => by simpa [writing] using h.commit hand
  have claim := h.fetch
  rw [writing] at claim
  have ended : ({ v with rqe := v.rqe.advanced, result := none } : EntryView).OneOwner :=
    .of_idle (by simpa [Rqe.advanced] using claim) (by simpa using request) (by simpa using commit)
      (by simp [EntryView.phase, Rqe.advanced])
  rw [Rqe.advance_eq]
  exact ended.kick

/-- After a reset there is no entry, and nobody has one in hand (R49, R107). -/
theorem OneOwner.of_reset {m : Mnu} (request : m.request = none) {claim : Claim} (quiet : claim.req = none ∧ claim.live = false) (held : Bool) :
    (⟨{ Rqe.reset with held := held, claim := claim }, m, .none, none⟩ : EntryView).OneOwner :=
  .of_idle quiet request rfl (by simp [EntryView.phase, Rqe.reset])

end EntryView

end Sys2Proof.Machine
end

section
/-! SUPPORT. The menu unit's stacks (R92 to R107): what makes them safe, said of MNU alone, and what each of MNU's operations does to them and
to the entry whose request it has in hand. -/

namespace Sys2Proof.Machine

/-! ## MNU on its own -/

/-- A fetch that still counts is that of a panel's auto-pop (R101). -/
def Mnu.Pops (m : Mnu) (p : Panel) : Prop := ∃ f : MenuFetch, m.fetch = some f ∧ f.live = true ∧ f.purpose = .autoPop p

/-- `MenuSafe`, said of MNU. -/
structure Mnu.Safe (m : Mnu) : Prop where
  panels : ∀ p : Panel, (m.panels.get p).safe
  request : ∀ r, m.request = some r → r.fits (m.panels.get r.panel)
  pops : ∀ p : Panel, m.Pops p → (m.panels.get p).autoPop = .inFlight

theorem menuSafe_iff (s : State) : MenuSafe s ↔ s.mnu.Safe := by
  constructor
  · rintro ⟨rl, rr, c, request, fetch⟩
    exact ⟨fun p => by cases p <;> assumption, request, fun p ⟨f, started, live, purpose⟩ => fetch f started live p purpose⟩
  · intro h
    exact ⟨h.panels .rl, h.panels .rr, h.panels .c, h.request, fun f started live p purpose => h.pops p ⟨f, started, live, purpose⟩⟩

theorem Mnu.pops_of_fetch {m m' : Mnu} (same : m'.fetch = m.fetch) {p : Panel} (pops : m'.Pops p) : m.Pops p := by
  obtain ⟨f, started, rest⟩ := pops
  exact ⟨f, same ▸ started, rest⟩

theorem Mnu.not_pops_of_idle {m : Mnu} (idle : m.fetch = none) (p : Panel) : ¬ m.Pops p := by
  rintro ⟨f, started, -⟩
  rw [idle] at started
  cases started

@[simp] theorem PerPanel.set_set {α : Type} (t : PerPanel α) (p : Panel) (v w : α) : (t.set p v).set p w = t.set p w := by cases p <;> rfl

namespace Mnu.Safe

variable {m m' : Mnu}

/-- The panels stand, and no request or auto-pop is new. -/
theorem fewer (h : m.Safe) (panels : m'.panels = m.panels) (request : ∀ r, m'.request = some r → m.request = some r)
    (pops : ∀ p, m'.Pops p → m.Pops p) : m'.Safe := by
  refine ⟨by rw [panels]; exact h.panels, fun r hand => ?_, fun p popping => ?_⟩
  · rw [panels]
    exact h.request r (request r hand)
  · rw [panels]
    exact h.pops p (pops p popping)

/-- One panel's state is replaced by one that is safe, that the request in hand fits and that an auto-pop's fetch agrees with. -/
theorem setPanel (h : m.Safe) {p : Panel} {x : MenuPanel} (panels : m'.panels = m.panels.set p x) (safe : x.safe)
    (request : ∀ r, m'.request = some r → m.request = some r ∧ (r.panel = p → r.fits x))
    (pops : ∀ q, m'.Pops q → (q = p → x.autoPop = .inFlight) ∧ (q ≠ p → m.Pops q)) : m'.Safe := by
  refine ⟨fun q => ?_, fun r hand => ?_, fun q popping => ?_⟩ <;> rw [panels, PerPanel.get_set]
  · split
    · exact safe
    · exact h.panels q
  · obtain ⟨hand', fits⟩ := request r hand
    split
    · next same => exact fits same
    · exact h.request r hand'
  · obtain ⟨here, other⟩ := pops q popping
    split
    · next same => exact here same
    · next differs => exact h.pops q (other differs)

/-- A request that fits becomes the request in hand. -/
theorem take (h : m.Safe) {r : MenuRequest} (fits : r.fits (m.panels.get r.panel)) : ({ m with request := some r } : Mnu).Safe :=
  ⟨h.panels, fun r' hand => by cases hand; exact fits, h.pops⟩

/-- Empty stacks are safe with at most a push in hand. -/
theorem of_reset (panels : m.panels = ⟨MenuPanel.reset, MenuPanel.reset, MenuPanel.reset⟩)
    (request : ∀ r, m.request = some r → r.kind = .push ∧ r.page ≤ 63) (pops : ∀ p, ¬ m.Pops p) : m.Safe := by
  have empty : ∀ p, m.panels.get p = MenuPanel.reset := fun p => by rw [panels]; cases p <;> rfl
  refine ⟨fun p => ?_, fun r hand => ?_, fun p popping => absurd popping (pops p)⟩ <;> rw [empty]
  · exact MenuPanel.safe_reset
  · obtain ⟨push, page⟩ := request r hand
    simp [MenuRequest.fits, push, page, MenuPanel.reset]

theorem not_pops (h : m.Safe) {p : Panel} (resting : (m.panels.get p).autoPop ≠ .inFlight) : ¬ m.Pops p :=
  fun popping => resting (h.pops p popping)

/-- A request in hand is not for a panel with an auto-pop (R94). -/
theorem other_panel (h : m.Safe) {p : Panel} (busy : (m.panels.get p).autoPop ≠ .none) {r : MenuRequest} (hand : m.request = some r) :
    r.panel ≠ p := by
  rintro rfl
  exact busy (h.request r hand).1

end Mnu.Safe

/-! ## One panel -/

/-- A panel's idle timer as a restart leaves it with this stack (R100). -/
def restartedIdle (p : Panel) (stack : List Nat) (s : State) : Timer :=
  if stack ≠ [] ∧ 1 ≤ s.lyu.committed.idleTimeout.get p ∧ s.lyu.committed.idleTimeout.get p ≤ 60 then
    Timer.start (now s) (1000 * s.lyu.committed.idleTimeout.get p)
  else .stopped

theorem restartedIdle_empty (p : Panel) (s : State) : restartedIdle p [] s = .stopped := if_neg fun h => h.1 rfl

/-- A panel without an auto-pop is safe with its idle timer restarted. -/
theorem MenuPanel.safe_restarted {stack : List Nat} {top : TopCache} (few : stack.length ≤ 8) (pages : ∀ page ∈ stack, page ≤ 63)
    (cache : top = .none ↔ stack = []) (p : Panel) (s : State) : (⟨stack, top, restartedIdle p stack s, .none⟩ : MenuPanel).safe :=
  ⟨few, pages, cache, fun empty => by rw [show stack = [] from empty]; exact restartedIdle_empty p s, fun busy => absurd rfl busy⟩

theorem setMenuPanel_mnu (p : Panel) (x : MenuPanel) (s : State) : (setMenuPanel p x s).mnu = { s.mnu with panels := s.mnu.panels.set p x } := rfl

theorem restartIdle_mnu (p : Panel) (s : State) : (restartIdle p s).mnu = { s.mnu with
    panels := s.mnu.panels.set p { menuPanel p s with idle := restartedIdle p (menuPanel p s).stack s } } := rfl

/-- A changed stack has its top cache and its idle timer restarted, and its auto-pop as it was (R92, R100). -/
theorem changeStack_mnu (p : Panel) (stack : List Nat) (top : TopCache) (s : State) : (changeStack p stack top s).mnu = { s.mnu with
    panels := s.mnu.panels.set p ⟨stack, top, restartedIdle p stack s, (menuPanel p s).autoPop⟩ } := by
  unfold changeStack
  rw [markDirty_mnu, restartIdle_mnu]
  simp [setMenuPanel, menuPanel, restartedIdle, now]

/-! ## Work of MNU alone -/

/-- Work of MNU that leaves the entry to its owner: no request is taken in hand, answered or dropped. -/
structure MenuWork (s t : State) : Prop where
  view : entryView t = { entryView s with mnu := t.mnu }
  request : t.mnu.request = s.mnu.request

theorem MenuWork.refl (s : State) : MenuWork s s := ⟨rfl, rfl⟩

theorem MenuWork.trans {s t u : State} (h : MenuWork s t) (k : MenuWork t u) : MenuWork s u :=
  ⟨k.view.trans (by rw [h.view]), k.request.trans h.request⟩

theorem MenuWork.of_works {s t : State} (h : Works [.mnu, .stw] s t) (result : t.stw.result = s.stw.result)
    (request : t.mnu.request = s.mnu.request) : MenuWork s t :=
  ⟨EntryView.ext (h.only .rqe (by decide)) rfl (congrArg Lyu.commit (h.only .lyu (by decide))) result, request⟩

section Work

variable (s : State)

theorem menuWork_markDirty (k : StatusSection) : MenuWork s (markDirty k s) := ⟨entryView_markDirty s k, rfl⟩

theorem menuWork_setMnu {m : Mnu} (request : m.request = s.mnu.request) : MenuWork s (setMnu m s) := ⟨rfl, request⟩

theorem menuWork_setMenuPanel (p : Panel) (x : MenuPanel) : MenuWork s (setMenuPanel p x s) := ⟨rfl, rfl⟩

theorem menuWork_restartIdle (p : Panel) : MenuWork s (restartIdle p s) := menuWork_setMenuPanel s _ _

theorem menuWork_changeStack (p : Panel) (stack : List Nat) (top : TopCache) : MenuWork s (changeStack p stack top s) :=
  ((menuWork_setMenuPanel s _ _).trans (menuWork_restartIdle _ _)).trans (menuWork_markDirty _ _)

theorem menuWork_menuKick : MenuWork s (menuKick s) := .of_works (works_menuKick s) (menuKick_result s) (menuKick_request s)

theorem menuWork_dropMenuFetch (purpose : MenuPurpose) : MenuWork s (dropMenuFetch purpose s) :=
  .of_works ((works_dropMenuFetch s purpose).seq (.refl [] _)) (congrArg Stw.result (dropMenuFetch_stw s purpose))
    (dropMenuFetch_request s purpose)

theorem menuWork_refillNotices : MenuWork s (refillNotices s) :=
  .of_works (works_refillNotices s) (refillNotices_result s) (refillNotices_request s)

theorem menuWork_withdrawMenuRequest : MenuWork s (withdrawMenuRequest s) := by
  unfold withdrawMenuRequest
  repeat' split
  · exact menuWork_setMnu s rfl
  · exact .refl s
  · exact menuWork_dropMenuFetch s _
  · exact .refl s

theorem menuWork_touchPanel (p : Panel) : MenuWork s (touchPanel p s) := by
  unfold touchPanel
  dsimp only
  split
  · exact menuWork_restartIdle s p
  · exact (menuWork_restartIdle s p).trans (menuWork_setMenuPanel _ _ _)
  · exact ((menuWork_restartIdle s p).trans (menuWork_setMenuPanel _ _ _)).trans (menuWork_dropMenuFetch _ _)

end Work

/-! ## The fetch port (R93) -/

section Fetches

variable {s : State}

/-- A fetch given up counts no more, and no other fetch begins to. -/
theorem dropMenuFetch_pops {purpose : MenuPurpose} {p : Panel} (pops : (dropMenuFetch purpose s).mnu.Pops p) :
    s.mnu.Pops p ∧ .autoPop p ≠ purpose := by
  unfold dropMenuFetch at pops
  split at pops
  · next f started =>
    split at pops
    · obtain ⟨f', dropped, live, -⟩ := pops
      cases dropped
      cases live
    · next other =>
      refine ⟨pops, ?_⟩
      obtain ⟨f', started', -, purpose'⟩ := pops
      rw [started] at started'
      cases started'
      rintro rfl
      exact other purpose'
  · next idle => exact absurd pops (Mnu.not_pops_of_idle idle p)

theorem Mnu.Safe.dropMenuFetch (h : s.mnu.Safe) (purpose : MenuPurpose) : (dropMenuFetch purpose s).mnu.Safe :=
  h.fewer (dropMenuFetch_panels s purpose) (by rw [dropMenuFetch_request]; exact fun _ => id) fun _ pops => (dropMenuFetch_pops pops).1

theorem refillNotices_pops {p : Panel} (pops : (refillNotices s).mnu.Pops p) : s.mnu.Pops p := by
  have set : ∀ (service cameraLost : NoticeCache) (u : State), (setNotices service cameraLost u).mnu.fetch = u.mnu.fetch :=
    fun _ _ u => by unfold setNotices; split <;> rfl
  exact (dropMenuFetch_pops (dropMenuFetch_pops (Mnu.pops_of_fetch (set _ _ _) pops)).1).1

theorem Mnu.Safe.refillNotices (h : s.mnu.Safe) : (refillNotices s).mnu.Safe :=
  h.fewer (refillNotices_panels s) (by rw [refillNotices_request]; exact fun _ => id) fun _ => refillNotices_pops

/-- What withdrawing the fetch of the request in hand leaves (R106). -/
theorem withdrawMenuRequest_keeps :
    (withdrawMenuRequest s).mnu.panels = s.mnu.panels ∧ ∀ p, (withdrawMenuRequest s).mnu.Pops p → s.mnu.Pops p := by
  unfold withdrawMenuRequest
  repeat' split
  · exact ⟨rfl, fun p pops => absurd pops (Mnu.not_pops_of_idle rfl p)⟩
  · exact ⟨rfl, fun _ => id⟩
  · exact ⟨dropMenuFetch_panels s _, fun _ pops => (dropMenuFetch_pops pops).1⟩
  · exact ⟨rfl, fun _ => id⟩

/-- An auto-pop that waits becomes IN_FLIGHT when its fetch starts; any other fetch leaves the panels (R93). -/
theorem Mnu.Safe.menuKick (h : s.mnu.Safe) : (menuKick s).mnu.Safe := by
  have first := nextMenuFetch_first s
  unfold Machine.menuKick
  split
  · split
    · exact h
    · next purpose page next =>
      rw [next] at first
      cases purpose with
      | request | service | cameraLost =>
        refine h.fewer rfl (fun _ => id) ?_
        rintro p ⟨f, started, -, purpose⟩
        cases started
        cases purpose
      | autoPop p =>
        have waits : (menuPanel p s).autoPop = .pending ∧ 2 ≤ (menuPanel p s).stack.length :=
          (waitingPage_isSome s (.autoPop p)).mp (by rw [first.1]; rfl)
        have busy : (s.mnu.panels.get p).autoPop ≠ .none := by rw [show (s.mnu.panels.get p).autoPop = _ from waits.1]; decide
        obtain ⟨few, pages, cache, stopped, pending⟩ := h.panels p
        refine h.setPanel (p := p) (x := { menuPanel p s with autoPop := .inFlight }) rfl
          ⟨few, pages, cache, stopped, fun _ => pending busy⟩ (fun r hand => ⟨hand, fun same => absurd same (h.other_panel busy hand)⟩) ?_
        rintro q ⟨f, started, -, purpose⟩
        refine ⟨fun _ => rfl, fun other => ?_⟩
        cases started
        cases purpose
        exact absurd rfl other
  · exact h

end Fetches

/-! ## Requests at their dispatch (R94 to R99) -/

section Requests

variable {s : State}

/-- The touched panel has its idle timer restarted and no auto-pop, whose fetch counts no more (R94). -/
theorem touchPanel_spec (p : Panel) (s : State) :
    (touchPanel p s).mnu.panels =
      s.mnu.panels.set p { menuPanel p s with idle := restartedIdle p (menuPanel p s).stack s, autoPop := .none } ∧
    ∀ q, (touchPanel p s).mnu.Pops q → s.mnu.Pops q ∧ (q = p → (menuPanel p s).autoPop ≠ .inFlight) := by
  have restarted : menuPanel p (restartIdle p s) = { menuPanel p s with idle := restartedIdle p (menuPanel p s).stack s } := by
    simp [menuPanel, restartIdle_mnu]
  unfold touchPanel
  simp only [restarted]
  split
  · next rests => exact ⟨by rw [restartIdle_mnu, ← rests], fun q pops => ⟨pops, fun _ => by rw [rests]; decide⟩⟩
  · next waits => exact ⟨by simp [setMenuPanel_mnu, restartIdle_mnu], fun q pops => ⟨pops, fun _ => by rw [waits]; decide⟩⟩
  · refine ⟨by simp [setMenuPanel_mnu, restartIdle_mnu], fun q pops => ?_⟩
    obtain ⟨popped, other⟩ := dropMenuFetch_pops pops
    exact ⟨popped, fun same => absurd (congrArg MenuPurpose.autoPop same) other⟩

theorem touchPanel_autoPop (p : Panel) (s : State) : (menuPanel p (touchPanel p s)).autoPop = .none := by
  rw [menuPanel, (touchPanel_spec p s).1, PerPanel.get_set_same]

/-- A touch is safe, whatever request is in hand (R94). -/
theorem Mnu.Safe.touchPanel (h : s.mnu.Safe) (p : Panel) : (touchPanel p s).mnu.Safe := by
  obtain ⟨panels, pops⟩ := touchPanel_spec p s
  obtain ⟨few, pages, cache, -, -⟩ := h.panels p
  refine h.setPanel panels (MenuPanel.safe_restarted few pages cache p s) (fun r hand => ?_) fun q popping => ?_
  · rw [(menuWork_touchPanel s p).request] at hand
    refine ⟨hand, ?_⟩
    rintro rfl
    exact ⟨rfl, (h.request r hand).2⟩
  · obtain ⟨popped, other⟩ := pops q popping
    refine ⟨fun same => ?_, fun _ => popped⟩
    subst same
    exact absurd (h.pops q popped) (other rfl)

/-- A panel without an auto-pop takes another stack, with no request in hand for it. -/
theorem Mnu.Safe.changeStack (h : s.mnu.Safe) {p : Panel} {stack : List Nat} {top : TopCache} (rests : (menuPanel p s).autoPop = .none)
    (few : stack.length ≤ 8) (pages : ∀ page ∈ stack, page ≤ 63) (cache : top = .none ↔ stack = [])
    (free : ∀ r, s.mnu.request = some r → r.panel ≠ p) : (changeStack p stack top s).mnu.Safe := by
  rw [changeStack_mnu, rests]
  have quiet : ¬ s.mnu.Pops p := h.not_pops (by rw [show (s.mnu.panels.get p).autoPop = _ from rests]; decide)
  exact h.setPanel rfl (MenuPanel.safe_restarted few pages cache p s) (fun r hand => ⟨hand, fun same => absurd same (free r hand)⟩)
    fun q popping => ⟨fun same => absurd (same ▸ popping) quiet, fun _ => popping⟩

/-- What a request answered or taken at its dispatch leaves of the entry: the ring and the result in hand stand, and MNU or LYU has the entry
in hand only where no answer is given, and not both (R45, R46). -/
structure EntryView.LeftBy (v : EntryView) (r : State × Option ResultCode) : Prop where
  rqe : (entryView r.1).rqe = v.rqe
  result : (entryView r.1).result = v.result
  answered : r.2 ≠ none → (entryView r.1).mnu.request = none ∧ (entryView r.1).commit = .none
  taken : (entryView r.1).mnu.request = none ∨ (entryView r.1).commit = .none

/-- What a request does at its dispatch to the ring, and to an entry that nobody has in hand yet and the menus beside it. -/
structure Dispatched (v : EntryView) (r : State × Option ResultCode) : Prop where
  ring : v.rqe.Safe → (entryView r.1).rqe.Safe
  entry : v.Unheld → v.LeftBy r
  menus : v.Unheld → v.mnu.Safe → (entryView r.1).mnu.Safe

/-- A request answered by work of MNU alone. -/
theorem MenuWork.dispatched {t : State} (work : MenuWork s t) (safe : s.mnu.request = none → s.mnu.Safe → t.mnu.Safe)
    (answer : Option ResultCode) : Dispatched (entryView s) (t, answer) where
  ring := by rw [work.view]; exact id
  entry := fun unheld =>
    { rqe := by rw [work.view]
      result := by rw [work.view]
      answered := fun _ => ⟨work.request.trans unheld.request, by rw [work.view]; exact unheld.commit⟩
      taken := .inl (work.request.trans unheld.request) }
  menus := fun unheld => safe unheld.request

/-- A request taken in hand (R95 to R97). -/
theorem MenuWork.dispatched_takes {t : State} (work : MenuWork s t) (safe : s.mnu.Safe → t.mnu.Safe)
    {r : MenuRequest} (fits : r.fits (menuPanel r.panel t)) : Dispatched (entryView s) (takeInHand r t, none) := by
  have kicked := menuWork_menuKick (markDirty .s4 (setMnu { t.mnu with request := some r } t))
  have view : entryView (takeInHand r t) = { entryView s with mnu := (takeInHand r t).mnu } := by
    rw [takeInHand, kicked.view, entryView_markDirty, entryView_setMnu, work.view]
  exact
    { ring := by rw [view]; exact id
      entry := fun unheld =>
        { rqe := by rw [view]
          result := by rw [view]
          answered := fun answer => absurd rfl answer
          taken := .inr (by rw [view]; exact unheld.commit) }
      menus := fun _ h => ((safe h).take fits).menuKick (s := markDirty .s4 (setMnu { t.mnu with request := some r } t)) }

theorem touchPanel_dispatched (p : Panel) (answer : ResultCode) : Dispatched (entryView s) (touchPanel p s, some answer) :=
  (menuWork_touchPanel s p).dispatched (fun _ h => h.touchPanel p) _

theorem refused_dispatched (answer : ResultCode) : Dispatched (entryView s) (s, some answer) :=
  (MenuWork.refl s).dispatched (fun _ => id) _

/-- A touched panel's stack is emptied (R97, R98). -/
theorem emptied_dispatched (p : Panel) : Dispatched (entryView s) (changeStack p [] .none (touchPanel p s), some .ok) := by
  have touch := menuWork_touchPanel s p
  refine (touch.trans (menuWork_changeStack _ _ _ _)).dispatched (fun free h => ?_) _
  exact (h.touchPanel p).changeStack (touchPanel_autoPop p s) (by simp) (by simp) (by simp)
    fun r hand => by rw [touch.request, free] at hand; cases hand

/-- A touched panel's request is taken in hand. -/
theorem touched_dispatched {r : MenuRequest} (fits : r.fits (menuPanel r.panel (touchPanel r.panel s))) :
    Dispatched (entryView s) (takeInHand r (touchPanel r.panel s), none) :=
  (menuWork_touchPanel s r.panel).dispatched_takes (fun h => h.touchPanel r.panel) fits

theorem requestMenuPush_dispatched (panel page : Nat) : Dispatched (entryView s) (requestMenuPush panel page s) := by
  unfold requestMenuPush
  split
  · exact refused_dispatched _
  · next p _ =>
    dsimp only
    repeat' split
    · exact touchPanel_dispatched p _
    · exact touchPanel_dispatched p _
    · exact touchPanel_dispatched p _
    · exact touched_dispatched (r := ⟨.push, p, page⟩) ⟨touchPanel_autoPop p s, by dsimp only; omega⟩

theorem requestMenuReplace_dispatched (panel page : Nat) : Dispatched (entryView s) (requestMenuReplace panel page s) := by
  unfold requestMenuReplace
  split
  · exact refused_dispatched _
  · next p _ =>
    dsimp only
    repeat' split
    · exact touchPanel_dispatched p _
    · exact touchPanel_dispatched p _
    · next low filled => exact touched_dispatched (r := ⟨.replace, p, page⟩) ⟨touchPanel_autoPop p s, filled, by dsimp only; omega⟩

theorem requestMenuPop_dispatched (panel : Nat) : Dispatched (entryView s) (requestMenuPop panel s) := by
  unfold requestMenuPop
  split
  · exact refused_dispatched _
  · next p _ =>
    dsimp only
    split
    · exact touchPanel_dispatched p _
    · exact emptied_dispatched p
    · next page _ below =>
      have two : 2 ≤ (menuPanel p (touchPanel p s)).stack.length := by
        simpa [below] using (menuPanel p (touchPanel p s)).below_isSome
      exact touched_dispatched (r := ⟨.pop, p, page⟩) ⟨touchPanel_autoPop p s, two⟩

theorem requestMenuClear_dispatched (panel : Nat) : Dispatched (entryView s) (requestMenuClear panel s) := by
  unfold requestMenuClear
  split
  · exact refused_dispatched _
  · next p _ =>
    dsimp only
    split
    · exact touchPanel_dispatched p _
    · exact emptied_dispatched p

theorem requestMenuTouch_dispatched (panel : Nat) : Dispatched (entryView s) (requestMenuTouch panel s) := by
  unfold requestMenuTouch
  split
  · exact refused_dispatched _
  · next p _ => exact touchPanel_dispatched p _

end Requests

end Sys2Proof.Machine
end

section
/-! SUPPORT. What the part's work does to the entry in execution: the ring's indices, its one owner and the menus stay safe under each
operation that touches them, from the end of a descriptor fetch to the apply of a layout and the warm reset. -/

namespace Sys2Proof.Machine

/-! ## Moves of the view -/

/-- A move that keeps the ring's indices, the entry's one owner and, while the entry has one, the menus. -/
structure EntryView.Moves (v w : EntryView) : Prop where
  ring : v.rqe.Safe → w.rqe.Safe
  owner : v.OneOwner → w.OneOwner
  menus : v.OneOwner → v.mnu.Safe → w.mnu.Safe

/-- A move that, with no menu request in hand, leaves the entry to whoever has it. -/
structure EntryView.Spares (v w : EntryView) : Prop extends v.Moves w where
  spared : v.mnu.request = none → w = { v with mnu := w.mnu } ∧ w.mnu.request = none

namespace EntryView

variable {u v w : EntryView}

@[simp] theorem Moves.refl (v : EntryView) : v.Moves v := ⟨id, id, fun _ => id⟩

theorem Moves.of_eq (same : w = v) : v.Moves w := same ▸ .refl v

theorem Moves.trans (h : u.Moves v) (k : v.Moves w) : u.Moves w :=
  ⟨fun safe => k.ring (h.ring safe), fun one => k.owner (h.owner one), fun one safe => k.menus (h.owner one) (h.menus one safe)⟩

/-- A view that is safe however it was reached. -/
theorem Moves.of_safe (ring : w.rqe.Safe) (owner : w.OneOwner) (menus : w.mnu.Safe) : v.Moves w :=
  ⟨fun _ => ring, fun _ => owner, fun _ _ => menus⟩

theorem Spares.refl (v : EntryView) : v.Spares v := ⟨.refl v, fun free => ⟨rfl, free⟩⟩

theorem Spares.of_eq (same : w = v) : v.Spares w := same ▸ .refl v

theorem Spares.trans (h : u.Spares v) (k : v.Spares w) : u.Spares w := by
  refine ⟨h.toMoves.trans k.toMoves, fun free => ?_⟩
  obtain ⟨same, free'⟩ := h.spared free
  obtain ⟨same', free''⟩ := k.spared free'
  exact ⟨same'.trans (by rw [same]), free''⟩

end EntryView

theorem MenuWork.spares {s t : State} (work : MenuWork s t) (safe : s.mnu.Safe → t.mnu.Safe) : (entryView s).Spares (entryView t) := by
  have view := work.view
  refine ⟨⟨?_, fun one => ?_, fun _ => safe⟩, fun free => ⟨view, work.request.trans free⟩⟩ <;> rw [view]
  · exact id
  · exact ⟨one.fetch, by rw [show EntryView.mnu _ = t.mnu from rfl, work.request]; exact one.menu, one.commit, one.result⟩

theorem MenuWork.moves {s t : State} (work : MenuWork s t) (safe : s.mnu.Safe → t.mnu.Safe) : (entryView s).Moves (entryView t) :=
  (work.spares safe).toMoves

theorem menuKick_spares (s : State) : (entryView s).Spares (entryView (menuKick s)) := (menuWork_menuKick s).spares fun h => h.menuKick

/-! ## The end of a descriptor fetch (R91, R95 to R97, R101, R103) -/

section Fetched

variable {s t : State}

/-- A request that is no longer in hand leaves the menus safe. -/
theorem Mnu.Safe.withoutRequest {m : Mnu} (h : m.Safe) : ({ m with request := none } : Mnu).Safe :=
  h.fewer rfl (fun _ hand => by cases hand) fun _ => id

/-- The request in hand is answered after work of MNU alone: its owner lets the entry go, and its result is given (R46). -/
theorem MenuWork.answers (work : MenuWork s t) {r : MenuRequest} (hand : s.mnu.request = some r)
    (safe : s.mnu.Safe → ({ t.mnu with request := none } : Mnu).Safe) (code : ResultCode) :
    (entryView s).Moves (entryView (answerMenu code t)) := by
  have answered : entryView (answerMenu code t) = ({ entryView s with mnu := { t.mnu with request := none } } : EntryView).answered code := by
    rw [answerMenu, entryView_giveResult, entryView_markDirty, entryView_setMnu, work.view]
  rw [answered]
  refine ⟨fun ring => ring.enter _, fun one => ?_, fun _ => safe⟩
  obtain ⟨owned, calm⟩ := one.menu (by simp [hand])
  have unheld := one.released owned (m := { t.mnu with request := none }) rfl
  rw [← calm] at unheld
  exact unheld.answered code

/-- The request in hand changes its panel's stack, and is answered. -/
theorem changeStack_answers {r : MenuRequest} (hand : s.mnu.request = some r) {stack : List Nat} {top : TopCache} (code : ResultCode)
    (fits : (menuPanel r.panel s).safe → r.fits (menuPanel r.panel s) →
      stack.length ≤ 8 ∧ (∀ page ∈ stack, page ≤ 63) ∧ (top = .none ↔ stack = [])) :
    (entryView s).Moves (entryView (answerMenu code (changeStack r.panel stack top s))) := by
  refine (menuWork_changeStack s _ _ _).answers hand (fun h => ?_) code
  have fit := h.request r hand
  obtain ⟨few, pages, cache⟩ := fits (h.panels r.panel) fit
  exact Mnu.Safe.changeStack (s := setMnu { s.mnu with request := none } s) h.withoutRequest fit.1 few pages cache
    fun _ none => by cases none

theorem pages_append {stack rest : List Nat} {page : Nat} (sub : rest ⊆ stack) (pages : ∀ q ∈ stack, q ≤ 63) (low : page ≤ 63) :
    ∀ q ∈ rest ++ [page], q ≤ 63 := by
  simp only [List.mem_append, List.mem_singleton]
  rintro q (old | rfl)
  · exact pages q (sub old)
  · exact low

/-- A popped stack that held two pages still holds one. -/
theorem popped_stack {stack : List Nat} (two : 2 ≤ stack.length) {top : TopCache} (few : stack.length ≤ 8) (pages : ∀ q ∈ stack, q ≤ 63)
    (cached : top ≠ .none) :
    stack.dropLast.length ≤ 8 ∧ (∀ q ∈ stack.dropLast, q ≤ 63) ∧ (top = .none ↔ stack.dropLast = []) := by
  have length := stack.length_dropLast
  refine ⟨by omega, fun q old => pages q (List.mem_of_mem_dropLast old), fun none => absurd none cached, fun empty => ?_⟩
  rw [empty, List.length_nil] at length
  omega

theorem finishMenuRequest_moves {r : MenuRequest} (hand : s.mnu.request = some r) (verdict : Option Descriptor) :
    (entryView s).Moves (entryView (finishMenuRequest r verdict s)) := by
  have refused : (entryView s).Moves (entryView (answerMenu .pageInvalid s)) :=
    (MenuWork.refl s).answers hand (fun h => h.withoutRequest) _
  unfold finishMenuRequest
  dsimp only
  split
  · next push =>
    refine changeStack_answers hand _ fun ⟨_, pages, _⟩ ⟨_, fit⟩ => ?_
    simp only [push] at fit
    exact ⟨by rw [List.length_append, List.length_singleton]; omega, pages_append (fun _ => id) pages fit.2, by simp⟩
  · exact refused
  · next replace =>
    refine changeStack_answers hand _ fun ⟨few, pages, _⟩ ⟨_, fit⟩ => ?_
    simp only [replace] at fit
    refine ⟨?_, pages_append (List.dropLast_subset _) pages fit.2, by simp⟩
    rw [List.length_append, List.length_singleton, List.length_dropLast]
    have := List.length_pos_iff.mpr fit.1
    omega
  · exact refused
  all_goals
    next pop =>
    refine changeStack_answers hand _ fun ⟨few, pages, _⟩ ⟨_, fit⟩ => ?_
    simp only [pop] at fit
    exact popped_stack fit few pages (by simp)

theorem cacheOf_ne_none (verdict : Option Descriptor) : cacheOf verdict ≠ .none := by cases verdict <;> simp [cacheOf]

/-- The state once the fetch in progress has ended, before it is judged. -/
def descriptorTaken (s : State) : State := setMnu { s.mnu with fetch := none, claim := .idle } (freeFmc s)

/-- The judgement of a descriptor leaves MNU as the end of its fetch did: a report at most. -/
theorem judged_work {u : State} (judged : entryView u = entryView (descriptorTaken s)) :
    MenuWork s u ∧ u.mnu = { s.mnu with fetch := none, claim := .idle } := by
  have mnu : u.mnu = { s.mnu with fetch := none, claim := .idle } := congrArg EntryView.mnu judged
  exact ⟨⟨judged.trans (by rw [mnu]; rfl), by rw [mnu]⟩, mnu⟩

theorem Mnu.Safe.unfetched {m : Mnu} (h : m.Safe) (claim : Claim) : ({ m with fetch := none, claim := claim } : Mnu).Safe :=
  h.fewer rfl (fun _ => id) fun p pops => absurd pops (Mnu.not_pops_of_idle rfl p)

section Judged

variable {u : State} (judged : entryView u = entryView (descriptorTaken s))

include judged

/-- A notice's descriptor fills its notice cache alone (R103). -/
theorem notice_moves {m : Mnu} (panels : m.panels = u.mnu.panels) (request : m.request = u.mnu.request) (fetch : m.fetch = u.mnu.fetch) :
    (entryView s).Moves (entryView (markDirty .s4 (setMnu m u))) := by
  obtain ⟨work, mnu⟩ := judged_work judged
  refine ((work.trans (menuWork_setMnu u request)).trans (menuWork_markDirty _ _)).moves fun h => ?_
  rw [mnu] at panels request fetch
  exact (h.unfetched .idle).fewer panels (by rw [markDirty_mnu, setMnu_mnu, request]; exact fun _ => id) fun _ => Mnu.pops_of_fetch fetch

/-- The page on top is popped by the auto-pop, which ends (R101). -/
theorem autoPop_moves {p : Panel} (flight : s.mnu.Safe → (menuPanel p s).autoPop = .inFlight) (verdict : Option Descriptor) :
    (entryView s).Moves (entryView (finishMenuFetch (.autoPop p) verdict u)) := by
  obtain ⟨taken, mnu⟩ := judged_work judged
  have work : MenuWork s (finishMenuFetch (.autoPop p) verdict u) :=
    (taken.trans (menuWork_changeStack _ _ _ _)).trans (menuWork_setMenuPanel _ _ _)
  refine work.moves fun h => ?_
  have busy : (s.mnu.panels.get p).autoPop = .inFlight := flight h
  obtain ⟨few, pages, -, -, two⟩ := h.panels p
  obtain ⟨few', pages', cache'⟩ := popped_stack (two (by rw [busy]; decide)).2 few pages (cacheOf_ne_none verdict)
  refine h.setPanel (p := p) ?_ (MenuPanel.safe_restarted few' pages' cache' p u) (fun r hand => ?_) fun q pops => ?_
  · simp [finishMenuFetch, setMenuPanel_mnu, changeStack_mnu, menuPanel, mnu]
  · rw [work.request] at hand
    exact ⟨hand, fun same => absurd same (h.other_panel (by rw [busy]; decide) hand)⟩
  · refine absurd pops (Mnu.not_pops_of_idle ?_ q)
    simp [finishMenuFetch, setMenuPanel_mnu, changeStack_mnu, mnu]

theorem finishMenuFetch_moves {f : MenuFetch} (fetch : s.mnu.fetch = some f) (live : f.live = true) (verdict : Option Descriptor) :
    (entryView s).Moves (entryView (finishMenuFetch f.purpose verdict u)) := by
  obtain ⟨taken, mnu⟩ := judged_work judged
  have ended : (entryView s).Moves (entryView u) := taken.moves fun h => by rw [mnu]; exact h.unfetched .idle
  cases purpose : f.purpose with
  | request =>
    unfold finishMenuFetch
    dsimp only
    split
    · next r hand => exact ended.trans (finishMenuRequest_moves hand verdict)
    · exact ended
  | service | cameraLost => exact notice_moves judged rfl rfl rfl
  | autoPop p => exact autoPop_moves judged (fun h => h.pops p ⟨f, fetch, live, purpose⟩) verdict

end Judged

end Fetched

end Sys2Proof.Machine
end

section
/-! SUPPORT. What the ring, a layout apply, the end of a view, a request's dispatch and a LAYOUT_COMMIT do to the entry in execution; then the
warm reset, which abandons it (R25 to R30, R44 to R49, R106, R107). -/

namespace Sys2Proof.Machine

/-! ## A result given (R46) -/

/-- A move of an entry that nobody has in hand. -/
structure EntryView.Settles (v w : EntryView) : Prop where
  ring : v.rqe.Safe → w.rqe.Safe
  owner : v.Unheld → w.OneOwner
  menus : v.Unheld → v.mnu.Safe → w.mnu.Safe

namespace EntryView

variable {v w : EntryView}

theorem Settles.answered (v : EntryView) (code : ResultCode) : v.Settles (v.answered code) :=
  ⟨fun h => h.enter _, fun h => h.answered code, fun _ => id⟩

/-- Work that leaves an entry to whoever has it, and then its result. -/
theorem Spares.answers (h : v.Spares w) (code : ResultCode) : v.Settles (w.answered code) := by
  refine ⟨fun ring => (h.ring ring).enter _, fun unheld => ?_, fun unheld => h.menus unheld.oneOwner⟩
  obtain ⟨same, free⟩ := h.spared unheld.request
  have left : w.Unheld := by
    rw [same]
    exact ⟨unheld.entry, unheld.claim, free, unheld.commit, unheld.result, unheld.unwritten⟩
  exact left.answered code

/-- LYU lets go of the entry whose commit it has in hand (R25 to R28). -/
theorem Settles.committed (h : ({ v with commit := .none } : EntryView).Settles w) (hand : v.commit ≠ .none) : v.Moves w := by
  have unheld : v.OneOwner → ({ v with commit := .none } : EntryView).Unheld := fun one => by
    refine one.released (one.commit hand) ?_
    by_contra busy
    exact hand (one.menu (Option.isSome_iff_ne_none.mpr busy)).2
  exact ⟨h.ring, fun one => h.owner (unheld one), fun one => h.menus (unheld one)⟩

end EntryView

/-! ## A layout apply (R29, R106) -/

section Apply

variable (s : State)

/-- MNU with every auto-pop's fetch given up (R106). -/
def autoPopsDropped (s : State) : State := dropMenuFetch (.autoPop .c) (dropMenuFetch (.autoPop .rr) (dropMenuFetch (.autoPop .rl) s))

/-- MNU with every stack empty (R106). -/
def stacksEmptied (s : State) : State :=
  setMnu { s.mnu with panels := ⟨MenuPanel.reset, MenuPanel.reset, MenuPanel.reset⟩ } s

/-- MNU with every stack emptied and the notices filled afresh, before the request in hand takes notice (R106). -/
def menusEmptied (s : State) : State := refillNotices (markDirty .s4 (stacksEmptied (autoPopsDropped s)))

theorem menuApply_eq : menuApply s = menuKick (applyMenuRequest (menusEmptied s)) := rfl

theorem autoPopsDropped_work : MenuWork s (autoPopsDropped s) :=
  ((menuWork_dropMenuFetch s _).trans (menuWork_dropMenuFetch _ _)).trans (menuWork_dropMenuFetch _ _)

theorem stacksEmptied_work : MenuWork s (stacksEmptied s) := menuWork_setMnu s rfl

theorem menusEmptied_work : MenuWork s (menusEmptied s) :=
  (((autoPopsDropped_work s).trans (stacksEmptied_work _)).trans (menuWork_markDirty _ _)).trans (menuWork_refillNotices _)

theorem menusEmptied_panels : (menusEmptied s).mnu.panels = ⟨MenuPanel.reset, MenuPanel.reset, MenuPanel.reset⟩ :=
  refillNotices_panels _

theorem menusEmptied_not_pops (p : Panel) : ¬ (menusEmptied s).mnu.Pops p := by
  intro pops
  have dropped : (autoPopsDropped s).mnu.Pops p :=
    refillNotices_pops (s := markDirty .s4 (stacksEmptied (autoPopsDropped s))) pops
  obtain ⟨dropped, notC⟩ := dropMenuFetch_pops dropped
  obtain ⟨dropped, notRr⟩ := dropMenuFetch_pops dropped
  obtain ⟨-, notRl⟩ := dropMenuFetch_pops dropped
  cases p
  · exact notRl rfl
  · exact notRr rfl
  · exact notC rfl

/-- At an apply a push in hand proceeds, and a replace or a pop is answered (R106). -/
theorem applyMenuRequest_spares : (entryView s).Spares (entryView (applyMenuRequest (menusEmptied s))) := by
  have emptied := menusEmptied_work s
  have work := emptied.trans (menuWork_withdrawMenuRequest _)
  obtain ⟨panels, pops⟩ := withdrawMenuRequest_keeps (s := menusEmptied s)
  rw [menusEmptied_panels] at panels
  have quiet : ∀ p, ¬ (withdrawMenuRequest (menusEmptied s)).mnu.Pops p := fun p popping => menusEmptied_not_pops s p (pops p popping)
  unfold applyMenuRequest
  dsimp only
  split
  · next free =>
    exact emptied.spares fun _ => .of_reset (menusEmptied_panels s) (fun r hand => by rw [free] at hand; cases hand) (menusEmptied_not_pops s)
  · next r hand =>
    rw [emptied.request] at hand
    have answered : (entryView s).Spares (entryView (answerMenu .stackEmpty (withdrawMenuRequest (menusEmptied s)))) :=
      ⟨work.answers hand (fun _ => .of_reset panels (fun _ none => by cases none) quiet) _,
        fun free => by rw [entryView_mnu, hand] at free; cases free⟩
    split
    · next push =>
      refine work.spares fun h => .of_reset panels (fun r' hand' => ?_) quiet
      rw [work.request, hand] at hand'
      cases hand'
      have fits := (h.request r hand).2
      simp only [push] at fits
      exact ⟨push, fits.2⟩
    · exact answered
    · exact answered

theorem menuApply_spares : (entryView s).Spares (entryView (menuApply s)) := by
  rw [menuApply_eq]
  exact (applyMenuRequest_spares s).trans (menuKick_spares _)

theorem applyLayout_spares (l : Layout) : (entryView s).Spares (entryView (applyLayout l s)) := by
  have applied : entryView (applyLayout l s) = entryView (menuApply (committed l s)) := by simp [applyLayout, committed]
  rw [applied]
  exact menuApply_spares (committed l s)

/-! ## The end of a view (R30, R109 to R114) -/

theorem enterNormal_spares : (entryView s).Spares (entryView (enterNormal s)) := by
  rw [← entryView_viewStopped s, enterNormal_eq, normalEntryNotice]
  split
  · rw [entryView_raiseCause]
    exact applyLayout_spares _ _
  · exact .refl _

theorem viewHold_spares : (entryView s).Spares (entryView (viewHold s)) := by
  simp only [viewHold]
  split
  · exact enterNormal_spares s
  · exact .of_eq (by simp)

theorem evaluateDemand_spares (cause : EngageCause) : (entryView s).Spares (entryView (evaluateDemand cause s)) := by
  unfold evaluateDemand
  split
  · exact .of_eq (by simp)
  · exact viewHold_spares s
  · exact .of_eq (by simp)
  all_goals exact .refl _

theorem requestViewCamera_spares (argument : Nat) : (entryView s).Spares (entryView (requestViewCamera argument s).1) := by
  have ended := enterNormal_spares (setRvc { s.rvc with hostRequest := false } s)
  have asked := evaluateDemand_spares (setRvc { s.rvc with hostRequest := true } s) .host
  rw [entryView_setRvc] at ended asked
  unfold requestViewCamera
  split
  · simp only [viewCameraOff]
    split
    · exact .of_eq (by simp)
    · exact .of_eq (by simp)
    · exact ended
    · exact ended
  · exact asked
  · exact .refl _

theorem qualifyRev_spares : (entryView s).Spares (entryView (qualifyRev s)) := by
  unfold qualifyRev
  repeat' split
  · exact .refl _
  · next p _ _ => simpa using evaluateDemand_spares (setRvc { s.rvc with revQualified := p.level, revPending := none } s) .rev
  · exact .refl _

theorem endHold_spares : (entryView s).Spares (entryView (endHold s)) := by
  unfold endHold
  repeat' split
  · exact enterNormal_spares s
  all_goals exact .refl _

end Apply

/-! ## The dispatch of an entry (R45, R46) -/

section Dispatch

variable {s : State}

/-- A request that its owner answers at once, having left the entry to RQE. -/
theorem EntryView.Spares.dispatched {r : State × ResultCode} (h : (entryView s).Spares (entryView r.1)) :
    Dispatched (entryView s) (Machine.answered r) where
  ring := h.ring
  entry := fun unheld => by
    obtain ⟨same, free⟩ := h.spared unheld.request
    exact
      { rqe := by rw [Machine.answered, same]
        result := by rw [Machine.answered, same]
        answered := fun _ => ⟨free, (congrArg EntryView.commit same).trans unheld.commit⟩
        taken := .inl free }
  menus := fun unheld => h.menus unheld.oneOwner

theorem requestLayoutCommit_dispatched : Dispatched (entryView s) (requestLayoutCommit s) := by
  cases idle : channelsIdle s with
  | false =>
    rw [requestLayoutCommit_busy idle]
    exact refused_dispatched _
  | true =>
    rw [requestLayoutCommit_fetches idle]
    exact ⟨id, fun unheld => ⟨rfl, rfl, fun answer => absurd rfl answer, .inl unheld.request⟩, fun _ => id⟩

theorem dispatchKind_dispatched {kind : Nat} {e : List Byte} {r : State × Option ResultCode} (h : dispatchKind kind e s = some r) :
    Dispatched (entryView s) r := by
  unfold dispatchKind at h
  dsimp only at h
  split at h
  case h_1 => cases h; exact requestLayoutCommit_dispatched
  case h_6 => cases h; exact requestMenuPush_dispatched _ _
  case h_7 => cases h; exact requestMenuPop_dispatched _
  case h_8 => cases h; exact requestMenuReplace_dispatched _ _
  case h_9 => cases h; exact requestMenuClear_dispatched _
  case h_10 => cases h; exact requestMenuTouch_dispatched _
  case h_11 => cases h; exact (requestViewCamera_spares s _).dispatched
  case h_18 => cases h
  all_goals
    cases h
    exact EntryView.Spares.dispatched (.of_eq (by simp [entryView_filmRequest]))

/-- The owner's answer is written, or the entry is with the one owner that has taken it (R46). -/
theorem finishDispatch_settles {v : EntryView} {r : State × Option ResultCode}
    (h : Dispatched { v with rqe := v.rqe.enter .withOwner } r) : v.Settles (entryView (finishDispatch r)) := by
  have menus : v.Unheld → v.mnu.Safe → (entryView r.1).mnu.Safe := fun unheld => h.menus unheld.dispatched
  unfold finishDispatch
  split
  · next code answer =>
    rw [entryView_giveResult]
    refine ⟨fun ring => (h.ring (ring.enter _)).enter _, fun unheld => ?_, menus⟩
    have owned := unheld.dispatched
    have left := h.entry owned
    obtain ⟨free, calm⟩ := left.answered (by simp [answer])
    refine EntryView.Unheld.answered ⟨?_, ?_, free, calm, left.result.trans owned.result, ?_⟩ code
    · rw [left.rqe]; exact owned.entry
    · rw [left.rqe]; exact owned.claim
    · rw [EntryView.phase, left.rqe]; exact owned.unwritten
  · refine ⟨fun ring => h.ring (ring.enter _), fun unheld => ?_, menus⟩
    have owned := unheld.dispatched
    have left := h.entry owned
    have phase : (entryView r.1).phase = some .withOwner := by
      rw [EntryView.phase, left.rqe]
      exact EntryView.phase_enter unheld.entry (m := v.mnu) (c := v.commit) (w := v.result)
    refine ⟨fun waits => ?_, fun hand => ⟨phase, ?_⟩, fun _ => phase, ?_⟩
    · rw [left.rqe] at waits
      simp [owned.claim] at waits
    · exact left.taken.resolve_left (Option.isSome_iff_ne_none.mp hand)
    · rw [phase, left.result]
      simp [unheld.result]

/-- An unpoisoned entry is answered or goes to its owner (R45). -/
theorem judgeEntry_settles (index : Count) (e : List Byte) : (entryView s).Settles (entryView (judgeEntry index e s)) := by
  simp only [judgeEntry]
  repeat' split
  · simpa using EntryView.Settles.answered (entryView s) .unknownKind
  · simpa using EntryView.Settles.answered (entryView s) .notConfigured
  · next r dispatched => exact finishDispatch_settles (dispatchKind_dispatched dispatched)
  · exact ⟨id, fun unheld => unheld.oneOwner, fun _ => id⟩

/-- The end of an entry's fetch: a fetch still wanted is judged, and after an abandoned one RQE goes on (R44, R49). -/
theorem entryFetched_moves_entry (beats : List ReadBeat) (s : State) : (entryView s).Moves (entryView (entryFetched beats s)) := by
  simp only [entryFetched]
  split
  · next e live some =>
    have settles : ∀ {w : EntryView},
        (entryView (setRqe { s.rqe with claim := .idle, fetched := beatData beats } s)).Settles w → (entryView s).Moves w := fun h =>
      ⟨fun ring => h.ring (ring.withClaim _ _ _), fun one => h.owner (one.fetched live _), fun one => h.menus (one.fetched live _)⟩
    split
    · exact settles (by rw [entryView_giveResult]; exact .answered _ _)
    · exact settles (judgeEntry_settles _ _)
  · exact ⟨fun ring => (ring.withClaim _ _ _).kick, fun one => one.unclaimed.kick, fun _ => id⟩

end Dispatch

/-! ## The ring (R42, R47, R48) -/

section Ring

variable (s : State)

theorem producerBeat_moves (bytes : List Byte) : (entryView s).Moves (entryView (producerBeat bytes s)) := by
  rw [producerBeat_eq]
  repeat' split
  · exact .refl _
  · next accepts =>
    have started : (entryView s).OneOwner →
        ({ entryView s with rqe := { s.rqe with producer := BitVec.ofNat 16 (get16 bytes 0) } } : EntryView).OneOwner :=
      fun one => ⟨one.fetch, one.menu, one.commit, one.result⟩
    exact ⟨fun ring => (ring.accepted accepts).kick, fun one => (started one).kick, fun _ => id⟩
  · exact .of_eq (by simp)

/-- A result written ends its entry; that of an entry abandoned since ends nothing (R47, R49). -/
theorem resultWritten_moves : (entryView s).Moves (entryView (resultWritten s)) := by
  simp only [resultWritten]
  split
  · next index result writing =>
    have phase : (entryView s).phase = some .writingResult := by
      rw [EntryView.phase, entryView_rqe, writing]
      rfl
    rw [entryView_markDirty]
    exact ⟨fun ring => ring.advance (by simp [writing]), fun one => one.advance phase, fun _ => id⟩
  · next other =>
    have view : ∀ w : Stw, entryView { s with stw := w.raise } = { entryView s with result := w.result } := fun w =>
      EntryView.ext rfl rfl rfl w.raise_result
    rw [view]
    refine ⟨id, fun one => ⟨one.fetch, one.menu, one.commit, ⟨fun hand => (by cases hand), fun writing => ?_⟩⟩, fun _ => id⟩
    obtain ⟨r, hand⟩ := Option.isSome_iff_exists.mp (one.result.mpr writing)
    obtain ⟨⟨index, phase⟩, entry, rfl⟩ := Option.map_eq_some_iff.mp (show s.rqe.entry.map Entry.phase = _ from writing)
    exact (other r index hand entry).elim

theorem startDrain_moves : (entryView s).Moves (entryView (startDrain s)) := by
  have view : entryView (startDrain s) = { entryView s with rqe := s.rqe.beginDrain } := by simp [startDrain]
  rw [view]
  exact ⟨fun ring => ring.beginDrain, fun one => ⟨one.fetch, one.menu, one.commit, one.result⟩, fun _ => id⟩

/-! ## LAYOUT_COMMIT in hand (R25 to R28) -/

variable {s}

theorem rejectCommit_moves (hand : s.lyu.commit ≠ .none) (f : CheckFailure) (code : ResultCode) :
    (entryView s).Moves (entryView (rejectCommit f code s)) := by
  have view : entryView (rejectCommit f code s) = ({ entryView s with commit := .none } : EntryView).answered code := by
    simp [rejectCommit]
  rw [view]
  exact (EntryView.Settles.answered _ code).committed hand

theorem acceptCommit_moves_entry (hand : s.lyu.commit ≠ .none) (l : Layout) : (entryView s).Moves (entryView (acceptCommit l s)) := by
  let t := markDirty .s0 (setLyu { s.lyu with commit := .none, lastCommitCheck := none } s)
  have taken : entryView t = { entryView s with commit := .none } := by simp [t]
  have applied := applyLayout_spares t l
  rw [taken] at applied
  have staged : entryView (setLyu { t.lyu with staged := some l, layoutState := .staged } t) = { entryView s with commit := .none } := by
    rw [← taken]
    rfl
  simp only [acceptCommit]
  split <;> rw [entryView_giveResult]
  · exact (applied.answers _).committed hand
  · exact ((EntryView.Spares.of_eq staged).answers _).committed hand
  · exact ((EntryView.Spares.of_eq staged).answers _).committed hand

/-- A record in hand stays in hand from one stage to the next (R25). -/
theorem nextStage_moves (hand : s.lyu.commit ≠ .none) (c : CommitStage) :
    (entryView s).Moves { entryView s with commit := c } :=
  ⟨id, fun one => ⟨one.fetch, fun busy => absurd (one.menu busy).2 hand, fun _ => one.commit hand, one.result⟩, fun _ => id⟩

/-! ## The warm reset (R39, R40, R49, R107) -/

variable (s)

theorem entryView_applyReset : entryView (applyReset s) =
    ⟨{ Rqe.reset with held := true, claim := s.rqe.claim.giveUp }, { Mnu.reset with held := true, claim := s.mnu.claim.giveUp }, .none,
      none⟩ := by
  have result := applyReset_result s
  rw [applyReset_eq]
  exact EntryView.ext rfl rfl rfl result

/-- MNU as a reset leaves it is safe. -/
theorem Mnu.safe_reset (held : Bool) (claim : Claim) : ({ Mnu.reset with held := held, claim := claim } : Mnu).Safe :=
  .of_reset rfl (fun _ hand => by cases hand) fun _ => Mnu.not_pops_of_idle rfl _

theorem applyReset_moves : (entryView s).Moves (entryView (applyReset s)) := by
  rw [entryView_applyReset]
  exact .of_safe (Rqe.safe_reset _ _) (.of_reset rfl ⟨Claim.giveUp_req _, Claim.giveUp_live _⟩ _) (Mnu.safe_reset _ _)

/-- MNU's release leaves the panels to their owners and fills the notices (R107). -/
theorem menuRelease_moves : (entryView s).Moves (entryView (menuRelease s)) := by
  have released := (menuWork_setMnu s (m := { s.mnu with held := false }) rfl).trans (menuWork_refillNotices _)
  refine (released.moves fun h => ?_).trans (menuKick_spares _).toMoves
  exact Mnu.Safe.refillNotices (s := setMnu { s.mnu with held := false } s) (h.fewer rfl (fun _ => id) fun _ => Mnu.pops_of_fetch rfl)

theorem releaseReset_moves : (entryView s).Moves (entryView (releaseReset s)) := by
  have view : entryView (menuReleases s) = { entryView s with rqe := { s.rqe with held := false } } :=
    EntryView.ext rfl rfl rfl (markDirty_result _ _)
  have unheld : (entryView s).Moves (entryView (menuReleases s)) := by
    rw [view]
    exact ⟨fun ring => ring.withClaim _ _ _, fun one => ⟨one.fetch, one.menu, one.commit, one.result⟩, fun _ => id⟩
  rw [releaseReset_eq, entryView_raiseCause, entryView_beginActing]
  exact unheld.trans (menuRelease_moves _)

theorem resetNow_moves : (entryView s).Moves (entryView (resetNow s)) := by
  unfold resetNow
  split
  · exact applyReset_moves s
  · exact (applyReset_moves s).trans (releaseReset_moves _)

theorem checkDrain_moves : (entryView s).Moves (entryView (checkDrain s)) := by
  unfold checkDrain
  split
  · exact resetNow_moves s
  · exact .refl _

theorem takeAssertion_moves_entry : (entryView s).Moves (entryView (takeAssertion s)) := by
  unfold takeAssertion
  split
  · exact resetNow_moves s
  · exact (startDrain_moves s).trans (checkDrain_moves _)

end Ring

end Sys2Proof.Machine
end

section
/-! What every command can do to the entry in execution, and the statements of the ring, of the entry's one owner and of the menu stacks. -/

namespace Sys2Proof.Machine

/-! ## Commands -/

/-- A drain that ends in the event applies the reset after the event's own work (R38). -/
theorem EntryView.Moves.checkDrain {v : EntryView} {s : State} (h : v.Moves (entryView s)) : v.Moves (entryView (checkDrain s)) :=
  h.trans (checkDrain_moves s)

/-- Every next state of an outcome is a move of the entry in execution. -/
def MovesEntry (s : State) (o : Host.Outcome State Fault Refusal) : Prop := ∀ t : State, o = .next t → (entryView s).Moves (entryView t)

@[simp] theorem movesEntry_next (s t : State) : MovesEntry s (.next t) ↔ (entryView s).Moves (entryView t) :=
  ⟨fun h => h t rfl, fun h _ next => by cases next; exact h⟩

@[simp] theorem movesEntry_fault (s : State) (f : Fault) : MovesEntry s (.fault f) := fun _ h => by cases h

@[simp] theorem movesEntry_refused (s : State) (r : Refusal) : MovesEntry s (.refused r) := fun _ h => by cases h

section Commands

variable (s : State)

/-! ### Grants -/

/-- A watched beat reaches the ring as a producer beat, or an owner outside the view (R12). -/
theorem takeWatched_moves (w : Nat × List Byte) : (entryView s).Moves (entryView (takeWatched s w)) := by
  unfold takeWatched
  split
  · exact producerBeat_moves s w.2
  · repeat' split
    all_goals simp

theorem foldl_takeWatched_moves (ws : List (Nat × List Byte)) : (entryView s).Moves (entryView (ws.foldl takeWatched s)) := by
  induction ws generalizing s with
  | nil => exact .refl _
  | cons w ws ih => exact (takeWatched_moves s w).trans (ih _)

theorem handOn_moves (window : Option Channel) (p : HostRequest) : (entryView s).Moves (entryView (handOn window p s)) := by
  unfold handOn
  split
  · exact .refl _
  · simp only [handTrailer]
    split <;> simp
  · exact foldl_takeWatched_moves s _

theorem movesEntry_grantHost (p : HostRequest) : MovesEntry s (grantHost p s) := by
  unfold grantHost
  repeat' split
  · simp [answerTake]
  · next target window _ _ =>
    let moved : State := { s with fmc := { (moveHost p target s.fmc).fmc with
      busy := some ⟨.hostTake (performedResponse p (moveHost p target s.fmc)), []⟩ } }
    have handed := handOn_moves (reportMemoryHost p target (moveHost p target s.fmc) moved) window p
    rw [entryView_reportMemoryHost] at handed
    rw [movesEntry_next]
    exact handed
  · simp

theorem movesEntry_grantStatus : MovesEntry s (grantStatus s) := by
  unfold grantStatus
  split <;> simp [grantSection, grantResult]

theorem movesEntry_grantRead {port : Port} {kind : GrantKind} {r : Req} {granted : State → State}
    (h : (entryView s).Moves (entryView (granted s))) : MovesEntry s (grantRead port kind r granted s) := by
  unfold grantRead
  split
  · simpa using h
  · simp

theorem movesEntry_withClaim {c : Claim} {f : Req → Host.Outcome State Fault Refusal} (h : ∀ r, c = .waiting r → MovesEntry s (f r)) :
    MovesEntry s (withClaim c s f) := by
  unfold withClaim
  split
  · next r => exact h r rfl
  · simp
  · simp

/-- A claim granted to RQE is still that of the entry being fetched (R44). -/
theorem entryGranted_moves {r : Req} (waits : s.rqe.claim = .waiting r) :
    (entryView s).Moves (entryView { s with rqe := { s.rqe with claim := .granted true } }) :=
  ⟨fun ring => ring.withClaim _ _ _,
    fun one => ⟨fun _ => one.fetch (.inl (by simp [waits, Claim.req])), one.menu, one.commit, one.result⟩, fun _ => id⟩

/-- A claim granted to MNU leaves the panels and the entry to their owners (R93). -/
theorem descriptorGranted_moves : (entryView s).Moves (entryView { s with mnu := { s.mnu with claim := .granted true } }) :=
  (menuWork_setMnu s (m := { s.mnu with claim := .granted true }) rfl).moves fun h =>
    h.fewer rfl (fun _ => id) fun _ => Mnu.pops_of_fetch rfl

theorem movesEntry_grantCapture (r : Req) : MovesEntry s (grantCapture r s) := by
  simp only [grantCapture]
  repeat' split
  all_goals simp

theorem movesEntry_grantTo (port : Port) : MovesEntry s (grantTo port s) := by
  unfold grantTo
  cases port with
  | host =>
    dsimp only
    split
    · exact movesEntry_grantHost s _
    · simp
  | stw => exact movesEntry_grantStatus s
  | rqe => exact movesEntry_withClaim s fun _ waits => movesEntry_grantRead s (entryGranted_moves s waits)
  | mnu => exact movesEntry_withClaim s fun _ _ => movesEntry_grantRead s (descriptorGranted_moves s)
  | ccp => exact movesEntry_withClaim s fun r _ => movesEntry_grantCapture s r
  | lyu | gdu | denRl | denRr | denC | aop | chu =>
    exact movesEntry_withClaim s fun _ _ => movesEntry_grantRead s (by simp)

theorem movesEntry_execArbiterGrant : MovesEntry s (execArbiterGrant s) := by
  unfold execArbiterGrant
  split
  · next k port _ _ _ => exact fun t h => by simpa using movesEntry_grantTo { s with fmc := s.fmc.setRotation k port } port t h
  all_goals simp

/-! ### The request ring and LAYOUT_COMMIT -/

theorem movesEntry_execEntryFetchComplete : MovesEntry s (execEntryFetchComplete s) := by
  unfold execEntryFetchComplete
  split
  · next beats _ => exact (movesEntry_next _ _).mpr (entryFetched_moves_entry beats (freeFmc s)).checkDrain
  · simp

theorem movesEntry_execResultWriteComplete : MovesEntry s (execResultWriteComplete s) := by
  unfold execResultWriteComplete
  split
  · exact (movesEntry_next _ _).mpr (resultWritten_moves (freeFmc s)).checkDrain
  · simp

theorem movesEntry_execStatusSectionWriteComplete : MovesEntry s (execStatusSectionWriteComplete s) := by
  simp only [execStatusSectionWriteComplete]
  split
  · refine (movesEntry_next _ _).mpr (.of_eq (entryView_of_fields rfl rfl rfl ?_))
    exact Stw.raise_result _
  · simp

/-- LYU's kick changes its claim alone, which is no part of the view. -/
theorem entryView_setLyu_kick (l : Lyu) : entryView (setLyu l.kick s) = { entryView s with commit := l.commit } := by
  rw [entryView_setLyu, (Lyu.kick_keeps l).1]

theorem movesEntry_execLayoutFetchGrantComplete : MovesEntry s (execLayoutFetchGrantComplete s) := by
  let t := setLyu { s.lyu with claim := .idle } (freeFmc s)
  have rejected (hand : s.lyu.commit ≠ .none) : MovesEntry s (.next (rejectCommit ⟨0, none⟩ .memError t)) :=
    (movesEntry_next _ _).mpr (rejectCommit_moves (s := t) hand _ _)
  simp only [execLayoutFetchGrantComplete]
  split
  · split
    · split
      · next first =>
        have hand : s.lyu.commit ≠ .none := by rw [first]; decide
        split
        · exact rejected hand
        · rw [movesEntry_next, entryView_setLyu_kick]
          exact nextStage_moves hand _
      · next half second =>
        have hand : s.lyu.commit ≠ .none := by rw [second]; exact fun h => by cases h
        split
        · exact rejected hand
        · exact (movesEntry_next _ _).mpr (nextStage_moves hand _)
      · simp
      · simp
    · rw [movesEntry_next, entryView_setLyu_kick]
      exact .refl _
  · simp

theorem movesEntry_execValidationEnd : MovesEntry s (execValidationEnd s) := by
  unfold execValidationEnd
  split
  · next record validating =>
    have hand : s.lyu.commit ≠ .none := by rw [validating]; exact fun h => by cases h
    split
    · exact (movesEntry_next _ _).mpr (rejectCommit_moves hand _ _)
    · exact (movesEntry_next _ _).mpr (acceptCommit_moves_entry hand _)
  all_goals simp

/-! ### The menu unit -/

theorem entryView_judgeDescriptor (beats : List ReadBeat) (panel : Panel) (page : Nat) :
    entryView (judgeDescriptor beats panel page s).2 = entryView s := by unfold judgeDescriptor; split <;> simp

/-- A fetch given up ends, and MNU starts the next (R93). -/
theorem descriptorDiscarded_moves : (entryView s).Moves (entryView (menuKick (descriptorTaken s))) :=
  ((judged_work (s := s) rfl).1.moves fun h => h.unfetched .idle).trans (menuKick_spares _).toMoves

theorem movesEntry_execDescriptorFetchComplete : MovesEntry s (execDescriptorFetchComplete s) := by
  have discarded := (movesEntry_next _ _).mpr (descriptorDiscarded_moves s)
  simp only [execDescriptorFetchComplete]
  split
  · next beats _ =>
    split
    · next f fetch =>
      split
      · next live =>
        have judged := entryView_judgeDescriptor (descriptorTaken s) beats (f.purpose.panel s.mnu.request) f.page
        exact (movesEntry_next _ _).mpr ((finishMenuFetch_moves judged fetch live.1 _).trans (menuKick_spares _).toMoves)
      · exact discarded
    · exact discarded
  · simp

/-- A running idle timer has no auto-pop beside it (R100, R101). -/
theorem MenuPanel.rests_of_due {m : MenuPanel} (safe : m.safe) {t : Millis} (due : m.idle.due t = true) : m.autoPop = .none := by
  obtain ⟨-, -, -, -, pending⟩ := safe
  by_contra busy
  rw [(pending busy).1] at due
  cases due

section Idle

variable {s} {p : Panel}

theorem restartIdle_moves (due : (menuPanel p s).idle.due (now s) = true) : (entryView s).Moves (entryView (restartIdle p s)) := by
  refine (menuWork_restartIdle s p).moves fun h => ?_
  have rests := MenuPanel.rests_of_due (h.panels p) due
  obtain ⟨few, pages, cache, -, -⟩ := h.panels p
  have safe := MenuPanel.safe_restarted few pages cache p s
  rw [← rests] at safe
  refine h.setPanel rfl safe (fun r hand => ⟨hand, ?_⟩) fun q pops => ⟨?_, fun _ => pops⟩
  · rintro rfl
    exact h.request r hand
  · rintro rfl
    exact h.pops q pops

theorem requestFor_eq_false (other : ¬ requestFor p s = true) {r : MenuRequest} (hand : s.mnu.request = some r) : r.panel ≠ p := by
  simpa [requestFor, hand] using other

/-- A panel that no request is in hand for takes another state, with no fetch of an auto-pop for it. -/
theorem setMenuPanel_moves {x : MenuPanel} (due : (menuPanel p s).idle.due (now s) = true) (other : ¬ requestFor p s = true)
    (safe : (menuPanel p s).safe → x.safe) : (entryView s).Moves (entryView (setMenuPanel p x s)) := by
  refine (menuWork_setMenuPanel s p x).moves fun h => ?_
  have rests : (s.mnu.panels.get p).autoPop = .none := MenuPanel.rests_of_due (h.panels p) due
  have quiet : ¬ s.mnu.Pops p := h.not_pops (by rw [rests]; decide)
  exact h.setPanel rfl (safe (h.panels p)) (fun r hand => ⟨hand, fun same => absurd same (requestFor_eq_false other hand)⟩)
    fun q pops => ⟨fun same => absurd (same ▸ pops) quiet, fun _ => pops⟩

/-- An idle timer's expiry empties a stack of one page, and asks for an auto-pop of a higher one (R101). -/
theorem movesEntry_execIdleTimerExpiry (p : Panel) (s : State) : MovesEntry s (execIdleTimerExpiry p s) := by
  simp only [execIdleTimerExpiry]
  split
  · next due =>
    split
    · exact (movesEntry_next _ _).mpr (restartIdle_moves due)
    · next other =>
      split
      · next empty =>
        refine (movesEntry_next _ _).mpr (setMenuPanel_moves due other ?_)
        rintro ⟨few, pages, cache, -, pending⟩
        exact ⟨few, pages, cache, fun _ => rfl, fun busy => ⟨rfl, (pending busy).2⟩⟩
      · refine (movesEntry_next _ _).mpr ((menuWork_changeStack s p [] .none).moves fun h => ?_)
        exact h.changeStack (MenuPanel.rests_of_due (h.panels p) due) (by simp) (by simp) (by simp) fun _ => requestFor_eq_false other
      · next stack =>
        refine (movesEntry_next _ _).mpr ((setMenuPanel_moves due other ?_).trans (menuKick_spares _).toMoves)
        rintro ⟨few, pages, cache, -, -⟩
        exact ⟨few, pages, cache, fun _ => rfl, fun _ => ⟨rfl, by simp [stack]⟩⟩
  · simp

end Idle

/-! ### The resets -/

theorem movesEntry_execPowerOnReset : MovesEntry s (execPowerOnReset s) := by
  rw [execPowerOnReset, movesEntry_next]
  exact .of_safe ((ringSafe_iff _).mp ringSafe_reset) ((entrySafe_iff _).mp entrySafe_reset) ((menuSafe_iff _).mp menuSafe_reset)

theorem movesEntry_execInitEnd : MovesEntry s (execInitEnd s) := by
  have begun : entryView (beginActing (raiseCause .resetDone (markDirty .s0 (enterRunning s)))) = entryView s := by
    simp [enterRunning]
  simp only [execInitEnd]
  repeat' split
  · simp
  · simp [begun]
  · rw [movesEntry_next, ← begun]
    exact takeAssertion_moves_entry _

theorem movesEntry_execWrstAssert : MovesEntry s (execWrstAssert s) := by
  simp only [execWrstAssert]
  repeat' split
  · simp
  · exact (movesEntry_next _ _).mpr (takeAssertion_moves_entry { s with pins := { s.pins with wrst := .high } })
  all_goals simp

theorem movesEntry_execWrstDeassert : MovesEntry s (execWrstDeassert s) := by
  simp only [execWrstDeassert]
  repeat' split
  · simp
  · exact (movesEntry_next _ _).mpr (releaseReset_moves { s with pins := { s.pins with wrst := .low } })
  all_goals simp

theorem movesEntry_execDrainLimitExpiry : MovesEntry s (execDrainLimitExpiry s) := by
  unfold execDrainLimitExpiry
  split
  · exact (movesEntry_next _ _).mpr (resetNow_moves s)
  · simp

end Commands

/-- What every command can do to the entry in execution. -/
theorem exec_movesEntry (c : Instr) (s : State) : MovesEntry s (exec c s) := by
  have drains : ∀ u : State, entryView u = entryView s → MovesEntry s (.next (checkDrain u)) := fun u same =>
    (movesEntry_next _ _).mpr (EntryView.Moves.of_eq same).checkDrain
  cases c
  case powerOnReset => exact movesEntry_execPowerOnReset s
  case initEnd => exact movesEntry_execInitEnd s
  case arbiterGrant => exact movesEntry_execArbiterGrant s
  case entryFetchComplete => exact movesEntry_execEntryFetchComplete s
  case resultWriteComplete => exact movesEntry_execResultWriteComplete s
  case statusSectionWriteComplete => exact movesEntry_execStatusSectionWriteComplete s
  case layoutFetchGrantComplete => exact movesEntry_execLayoutFetchGrantComplete s
  case validationEnd => exact movesEntry_execValidationEnd s
  case descriptorFetchComplete => exact movesEntry_execDescriptorFetchComplete s
  case idleTimerExpiry p => exact movesEntry_execIdleTimerExpiry p s
  case wrstAssert => exact movesEntry_execWrstAssert s
  case wrstDeassert => exact movesEntry_execWrstDeassert s
  case drainLimitExpiry => exact movesEntry_execDrainLimitExpiry s
  case revPendingExpiry => exact (movesEntry_next _ _).mpr (qualifyRev_spares s).toMoves.checkDrain
  case holdTimerExpiry => exact (movesEntry_next _ _).mpr (endHold_spares s).toMoves.checkDrain
  case frameStart | line | frameEnd | blockBoundary => exact drains _ (by simp)
  case cameraLineWriteComplete =>
    simp only [exec, execCameraLineWriteComplete]
    split
    · exact drains _ (by simp)
    · simp
  case memoryCellDisturbance | hostRequestPacket | hostGrantComplete | refreshStart | lineDue | lineFetchGrantComplete | revEdge |
      firstFrameDeadlineExpiry | lostTimerExpiry | unknownCameraPacket | staleTimerExpiry | guideListGrantComplete |
      distanceTimerExpiry | clipDirectoryFetchComplete | clipBlockFetchComplete | tonePeriodWrap | audioBlockFetchComplete |
      partTimeTick =>
    simp only [exec, execMemoryCellDisturbance, execHostRequestPacket, execHostGrantComplete, execRefreshStart, execLineDue,
      execLineFetchGrantComplete, execRevEdge, execFirstFrameDeadlineExpiry, execLostTimerExpiry, execUnknownCameraPacket,
      execStaleTimerExpiry, execGuideListGrantComplete, execDistanceTimerExpiry, execClipDirectoryFetchComplete,
      execClipBlockFetchComplete, execTonePeriodWrap, execAudioBlockFetchComplete, execPartTimeTick]
    repeat' split
    all_goals simp

/-! ## The statements -/

/-- Settles O9: the ring's indices are part of the view, and every command is a move of the view that keeps them. -/
theorem ringIndicesHold : Obligations.RingIndicesHold :=
  step_keeps (fun _ _ => id) fun c s t safe h => (ringSafe_iff t).mpr ((exec_movesEntry c s t h).ring ((ringSafe_iff s).mp safe))

/-- Settles O10: the owners of the entry are the view, and every command is a move of the view that keeps one of them. -/
theorem entryHasOneOwner : Obligations.EntryHasOneOwner :=
  step_keeps (fun _ _ => id) fun c s t safe h => (entrySafe_iff t).mpr ((exec_movesEntry c s t h).owner ((entrySafe_iff s).mp safe))

/-- Settles O12: while the entry has one owner a move of the view keeps the menus, and it keeps the one owner. -/
theorem menuStacksHold : Obligations.MenuStacksHold := fun s t safe h => by
  refine (step_keeps (P := fun u => MenuSafe u ∧ EntrySafe u) (fun _ _ => id) (fun c u v safe h => ?_) s t safe h).1
  have moves := exec_movesEntry c u v h
  have one := (entrySafe_iff u).mp safe.2
  exact ⟨(menuSafe_iff v).mpr (moves.menus one ((menuSafe_iff u).mp safe.1)), (entrySafe_iff v).mpr (moves.owner one)⟩

end Sys2Proof.Machine
end

section
/-! The statement of an entry that RQE answers itself (R44, R45). -/

namespace Sys2Proof.Machine

/-- The state in which a fetched entry is judged: its grant has ended, and RQE holds its beats. -/
def judgedState (e : List Byte) (s : State) : State := setRqe { s.rqe with claim := .idle, fetched := e } (freeFmc s)

theorem judgedState_changesOnly (e : List Byte) (s : State) : ChangesOnly [.fmc, .rqe] s (judgedState e s) := fun b hb => by
  cases b with
  | fmc | rqe => exact absurd (by simp) hb
  | _ => rfl

section Judge

variable {s u : State} {index : Count} {e : List Byte} {code : ResultCode}

/-- A poisoned entry is not decoded (R45). -/
theorem entryFetched_poisoned {beats : List ReadBeat} {x : Entry} (claim : s.rqe.claim = .granted true) (entry : s.rqe.entry = some x)
    (poison : anyPoison beats = true) : entryFetched beats (freeFmc s) = giveResult .memError (judgedState (beatData beats) s) := by
  have live : s.rqe.claim.live = true := by rw [claim]; rfl
  unfold entryFetched
  rw [freeFmc_rqe, live, entry]
  exact if_pos poison

theorem judgeEntry_unknown (unknown : get16 e 0 = 0 ∨ 17 < get16 e 0) (index : Count) (s : State) :
    judgeEntry index e s =
      giveResult .unknownKind (reportPlain .requestInvalid .request (.unknownKind (BitVec.ofNat 16 (get16 e 0)) index) s) := by
  have kind : knownKind (get16 e 0) = false := by
    rw [knownKind, decide_eq_false_iff_not]
    omega
  simp only [judgeEntry, kind, if_true]

/-- A gated kind is not taken while the default layout is committed (R45). -/
theorem judgeEntry_gated (low : 1 ≤ get16 e 0) (high : get16 e 0 ≤ 17) (gated : get16 e 0 ∉ [1, 11, 15, 16])
    (source : s.lyu.source = .default) (index : Count) : judgeEntry index e s = giveResult .notConfigured s := by
  have known : knownKind (get16 e 0) = true := decide_eq_true ⟨low, high⟩
  have closed : ungatedKind (get16 e 0) = false := by simpa [ungatedKind, and_assoc] using gated
  simp only [judgeEntry, known, closed, source, Bool.true_eq_false, and_self, if_true, if_false]

/-- RQE's own answer, given in the event in which the fetch ends. -/
theorem judged_answered (entry : s.rqe.entry = some ⟨index, .fetching⟩) (calm : NotDraining s) (rqe : u.rqe = (judgedState e s).rqe)
    (lyu : u.lyu = s.lyu) (fmc : u.fmc = { s.fmc with busy := none }) :
    checkDrain (giveResult code u) = giveResult code u ∧ Answered code index s (giveResult code u) ∧ GrantEnded s (giveResult code u) := by
  refine ⟨checkDrain_of_notDraining _ ?_, ?_, (giveResult_fmc u code).trans fmc⟩
  · rw [NotDraining, giveResult_lyu, lyu]
    exact calm
  · obtain ⟨result, written, consumer, producer⟩ := giveResult_answered (code := code) (s := u) ((congrArg Rqe.entry rqe).trans entry)
    exact ⟨result, written, consumer.trans (congrArg Rqe.consumer rqe :), producer.trans (congrArg Rqe.producer rqe :)⟩

/-- RQE's own answer without a report changes no owner. -/
theorem giveResult_judgedState_changesOnly (e : List Byte) (s : State) :
    ChangesOnly [.fmc, .rqe, .stw] s (giveResult code (judgedState e s)) :=
  ((judgedState_changesOnly e s).mono (by simp)).trans ((giveResult_changesOnly code _).mono (by simp))

end Judge

/-- Settles O30: each of RQE's own answers is given in the state in which the entry is judged, after the one report of an unknown kind. -/
theorem entryIsJudged : Obligations.EntryIsJudged := by
  refine ⟨fun s index beats busy poison claim entry calm => ?_, fun s index e fetched unknown => ?_,
    fun s index e fetched source low high gated => ?_⟩
  · obtain ⟨rests, answered, ended⟩ := judged_answered (code := .memError) (e := beatData beats) entry calm rfl rfl rfl
    refine ⟨_, ?_, answered, ended, giveResult_judgedState_changesOnly _ s⟩
    simp only [exec, execEntryFetchComplete, busy, entryFetched_poisoned claim entry poison, rests]
  · let r : Report := ⟨.requestInvalid, .request, .unknownKind (BitVec.ofNat 16 (get16 e 0)) index, none⟩
    obtain ⟨rests, answered, ended⟩ := judged_answered (u := report r (judgedState e s)) (code := .unknownKind) (e := e) fetched.entry
      fetched.calm (by simp) (by simp; rfl) (by simp; rfl)
    refine ⟨_, ?_, answered, ended, ?_, ?_⟩
    · rw [exec_entryFetchComplete fetched, judgeEntry_unknown unknown]
      exact congrArg Host.Outcome.next rests
    · rw [giveResult_flt]
      exact report_flt_congr _ rfl rfl
    · exact ((ReportsBeside.of_changesOnly (judgedState_changesOnly e s)).trans (.of_reports (report_changesOnly r _))).trans
        ((giveResult_changesOnly _ _).mono (by simp))
  · obtain ⟨rests, answered, ended⟩ := judged_answered (code := .notConfigured) (e := e) fetched.entry fetched.calm rfl rfl rfl
    refine ⟨_, ?_, answered, ended, giveResult_judgedState_changesOnly _ s⟩
    rw [exec_entryFetchComplete fetched, judgeEntry_gated low high gated (by exact source)]
    exact congrArg Host.Outcome.next rests

end Sys2Proof.Machine
end

section
/-! SUPPORT. A film channel's record on its own: what its slots owe to its ready queue and its fill slot, and that each operation of the film
sequencer on the record keeps the record safe and every slot's scan holds (R67 to R77, R80 to R85, R89). -/

namespace Sys2Proof.Machine

/-! ## What a safe record holds -/

/-- A slot's frame part and scan holds fit its state (section 5.1). -/
structure Slot.Fits (t : Slot) : Prop where
  frame : t.frame.isSome = true ↔ t.state = .ready ∨ t.state = .shown ∨ t.state = .retired
  held : t.scanHolds ≠ 0 → t.state = .shown ∨ t.state = .retired
  retired : t.state = .retired → t.scanHolds ≠ 0

/-- The slots agree with a ready queue and a fill slot, and at most one is SHOWN (section 5.1). -/
structure SlotsAgree (slots : PerSlot Slot) (queue : List (Fin 3)) (fill : Option (Fin 3)) : Prop where
  fits : ∀ i : Fin 3, (slots.get i).Fits
  once : queue.Nodup
  ready : ∀ i : Fin 3, i ∈ queue ↔ (slots.get i).state = .ready
  filling : ∀ i : Fin 3, fill = some i ↔ (slots.get i).state = .filling
  shown : ∀ i j : Fin 3, (slots.get i).state = .shown → (slots.get j).state = .shown → i = j

/-- A safe record, with the parts of `FilmChannel.safe` by name. -/
structure FilmChannel.Sound (r : FilmChannel) : Prop where
  agree : SlotsAgree r.slots r.queue r.fill
  idle : r.state = .idle → ∀ i : Fin 3, (r.slots.get i).state = .free ∨ (r.slots.get i).state = .retired
  short : r.queue.length ≤ 2
  filling : r.fill.isSome = true → r.queue.length ≤ 1
  elapsed : r.elapsed.valid
  starve : r.starveRun ≤ 255

theorem FilmChannel.safe_iff (r : FilmChannel) : r.safe ↔ r.Sound :=
  ⟨fun ⟨once, ready, filling, shown, frame, held, retired, idle, short, fill, elapsed, starve⟩ =>
      ⟨⟨fun i => ⟨frame i, held i, retired i⟩, once, ready, filling, shown⟩, idle, short, fill, elapsed, starve⟩,
    fun ⟨⟨fits, once, ready, filling, shown⟩, idle, short, fill, elapsed, starve⟩ =>
      ⟨once, ready, filling, shown, fun i => (fits i).frame, fun i => (fits i).held, fun i => (fits i).retired, idle, short, fill,
        elapsed, starve⟩⟩

/-- A slot that is neither SHOWN nor RETIRED has no scan holds. -/
theorem Slot.Fits.unheld {t : Slot} (h : t.Fits) (shown : t.state ≠ .shown) (retired : t.state ≠ .retired) : t.scanHolds = 0 := by
  by_contra held
  exact (h.held held).elim shown retired

/-- A slot that takes over the fill: no frame and no holds (R67, R70). -/
theorem Slot.Fits.fill {t : Slot} (h : t.Fits) (shown : t.state ≠ .shown) (retired : t.state ≠ .retired) :
    ({ t with state := .filling, frame := none } : Slot).Fits :=
  ⟨by simp, fun held => absurd (h.unheld shown retired) held, by simp⟩

theorem Slot.Fits.retire {t : Slot} (h : t.Fits) (shown : t.state = .shown) : t.retire.Fits := by
  unfold Slot.retire
  split
  · next none => exact ⟨by simp, fun held => absurd none held, by simp⟩
  · next some => exact ⟨by simp [h.frame, shown], by simp, fun _ => some⟩

theorem Slot.Fits.release {t : Slot} (h : t.Fits) : t.release.Fits := by
  unfold Slot.release
  dsimp only
  split
  · exact ⟨by simp, by simp, by simp⟩
  · next other =>
    exact ⟨h.frame, fun held => h.held fun none => held (by simp [none]), fun retired none => other ⟨retired, none⟩⟩

theorem Slot.Fits.stop {t : Slot} (h : t.Fits) : t.stop.Fits := by
  unfold Slot.stop
  split
  · next none => exact ⟨by simp, fun held => absurd none held, by simp⟩
  · next some => exact ⟨by simp [h.frame, h.held some], by simp, fun _ => some⟩

theorem Slot.Fits.unready {t : Slot} (h : t.Fits) : t.unready.Fits := by
  unfold Slot.unready
  split
  · next ready => exact ⟨by simp, fun held => absurd (h.unheld (by simp [ready]) (by simp [ready])) held, by simp⟩
  · exact h

/-- A stopped slot is FREE, or RETIRED while it is scanned (R82). -/
theorem Slot.stop_state (t : Slot) : t.stop.state = .free ∨ t.stop.state = .retired := by
  unfold Slot.stop
  split
  · exact .inl rfl
  · exact .inr rfl

/-- Slots that stay as they are but for READY ones, which become FREE (R83). -/
theorem Slot.unready_state (t : Slot) :
    (t.unready.state = t.state ∧ t.state ≠ .ready) ∨ (t.unready.state = .free ∧ t.state = .ready) := by
  unfold Slot.unready
  split
  · next ready => exact .inr ⟨rfl, ready⟩
  · next other => exact .inl ⟨rfl, other⟩

@[simp] theorem Slot.retire_scanHolds (t : Slot) : t.retire.scanHolds = t.scanHolds := by unfold Slot.retire; split <;> rfl
@[simp] theorem Slot.stop_scanHolds (t : Slot) : t.stop.scanHolds = t.scanHolds := by unfold Slot.stop; split <;> rfl
@[simp] theorem Slot.unready_scanHolds (t : Slot) : t.unready.scanHolds = t.scanHolds := by unfold Slot.unready; split <;> rfl
@[simp] theorem Slot.release_scanHolds (t : Slot) : t.release.scanHolds = t.scanHolds - 1 := by
  simp only [Slot.release]
  split
  · next last => exact last.2.symm
  · rfl

/-- A release leaves the state of a slot, but for a RETIRED one that becomes FREE (R77). -/
theorem Slot.release_state (t : Slot) : t.release.state = t.state ∨ (t.state = .retired ∧ t.release.state = .free) := by
  simp only [Slot.release]
  split
  · next last => exact .inr ⟨last.1, rfl⟩
  · exact .inl rfl

theorem Slot.retire_state (t : Slot) : t.retire.state = .free ∨ t.retire.state = .retired := by
  unfold Slot.retire
  split
  · exact .inl rfl
  · exact .inr rfl

namespace SlotsAgree

variable {slots : PerSlot Slot} {queue : List (Fin 3)} {fill : Option (Fin 3)} {i : Fin 3} {t : Slot}

/-- One slot is replaced, and the queue and the fill slot follow it. -/
theorem set (h : SlotsAgree slots queue fill) {queue' : List (Fin 3)} {fill' : Option (Fin 3)} (fits : t.Fits) (once : queue'.Nodup)
    (ready : ∀ j, j ∈ queue' ↔ if j = i then t.state = .ready else j ∈ queue)
    (filling : ∀ j, fill' = some j ↔ if j = i then t.state = .filling else fill = some j)
    (shown : t.state = .shown → ∀ j, j ≠ i → (slots.get j).state ≠ .shown) : SlotsAgree (slots.set i t) queue' fill' := by
  refine ⟨fun j => ?_, once, fun j => ?_, fun j => ?_, fun j k => ?_⟩
  · rw [PerSlot.get_set]
    split
    · exact fits
    · exact h.fits j
  · rw [ready j, PerSlot.get_set]
    split
    · rfl
    · exact h.ready j
  · rw [filling j, PerSlot.get_set]
    split
    · rfl
    · exact h.filling j
  · rw [PerSlot.get_set, PerSlot.get_set]
    split <;> split
    · next here there => exact fun _ _ => here.trans there.symm
    · next there => exact fun now other => absurd other (shown now k there)
    · next there _ => exact fun other now => absurd other (shown now j there)
    · exact h.shown j k

/-- A slot is replaced that neither joins nor leaves the queue or the fill, and is not newly SHOWN. -/
theorem setSame (h : SlotsAgree slots queue fill) (fits : t.Fits) (ready : t.state = .ready ↔ (slots.get i).state = .ready)
    (filling : t.state = .filling ↔ (slots.get i).state = .filling) (shown : t.state = .shown → (slots.get i).state = .shown) :
    SlotsAgree (slots.set i t) queue fill := by
  refine h.set fits h.once (fun j => ?_) (fun j => ?_) fun now j other before => other (h.shown j i before (shown now))
  · split
    · next same => rw [same, ready, h.ready]
    · rfl
  · split
    · next same => rw [same, filling, h.filling]
    · rfl

/-- A slot that takes over the fill, from the FREE slots or from the queue (R67, R70). -/
theorem fillWith (h : SlotsAgree slots queue fill) (unfilled : fill = none) (shown : (slots.get i).state ≠ .shown)
    (retired : (slots.get i).state ≠ .retired) {queue' : List (Fin 3)} (once : queue'.Nodup) (rest : ∀ j, j ∈ queue' ↔ j ≠ i ∧ j ∈ queue) :
    SlotsAgree (slots.set i { slots.get i with state := .filling, frame := none }) queue' (some i) := by
  refine h.set ((h.fits i).fill shown retired) once (fun j => ?_) (fun j => ?_) fun now => by cases now
  · rw [rest j]
    split <;> simp [*]
  · rw [unfilled]
    split
    · simp [*]
    · next other => simpa using fun same => other same.symm

end SlotsAgree

/-! ## What an operation on a record keeps -/

/-- An operation on a record that keeps it safe, and every slot's scan holds. -/
structure FilmChannel.Moves (r q : FilmChannel) : Prop where
  safe : r.safe → q.safe
  holds : ∀ i : Fin 3, (q.slots.get i).scanHolds = (r.slots.get i).scanHolds

namespace FilmChannel

variable {r q p : FilmChannel}

theorem Moves.refl (r : FilmChannel) : r.Moves r := ⟨id, fun _ => rfl⟩

theorem Moves.trans (h : r.Moves q) (k : q.Moves p) : r.Moves p := ⟨fun safe => k.safe (h.safe safe), fun i => (k.holds i).trans (h.holds i)⟩

/-- The slots, the queue and the fill slot stay; an IDLE channel stays IDLE or its slots need not change for another state. -/
theorem Moves.of_slots (slots : q.slots = r.slots) (queue : q.queue = r.queue) (fill : q.fill = r.fill) (idle : q.state = .idle → r.state = .idle)
    (elapsed : r.elapsed.valid → q.elapsed.valid) (starve : r.starveRun ≤ 255 → q.starveRun ≤ 255) : r.Moves q := by
  refine ⟨fun safe => (safe_iff q).mpr ?_, fun i => by rw [slots]⟩
  have sound := (safe_iff r).mp safe
  refine ⟨?_, ?_, ?_, ?_, elapsed sound.elapsed, starve sound.starve⟩
  · rw [slots, queue, fill]; exact sound.agree
  · rw [slots]; exact fun rests => sound.idle (idle rests)
  · rw [queue]; exact sound.short
  · rw [queue, fill]; exact sound.filling

theorem lowestFree_state {i : Fin 3} (h : r.lowestFree = some i) : (r.slots.get i).state = .free :=
  of_decide_eq_true (PerSlot.lowest_passes (ok := fun t : Slot => decide (t.state = .free)) h)

theorem shown_state {i : Fin 3} (h : r.shown = some i) : (r.slots.get i).state = .shown :=
  of_decide_eq_true (PerSlot.lowest_passes (ok := fun t : Slot => decide (t.state = .shown)) h)

theorem shown_none (h : r.shown = none) (i : Fin 3) : (r.slots.get i).state ≠ .shown :=
  of_decide_eq_false (PerSlot.lowest_none (ok := fun t : Slot => decide (t.state = .shown)) h i)

@[simp] theorem setSlot_slots (r : FilmChannel) (i : Fin 3) (t : Slot) : (r.setSlot i t).slots = r.slots.set i t := rfl

/-- A slot replaced by one with the same holds. -/
theorem holds_set {slots : PerSlot Slot} {i : Fin 3} {t : Slot} (same : t.scanHolds = (slots.get i).scanHolds) (j : Fin 3) :
    ((slots.set i t).get j).scanHolds = (slots.get j).scanHolds := by
  rw [PerSlot.get_set]
  split
  · next here => rw [same, here]
  · rfl

/-! ## The fill slot (R67, R70) -/

/-- A FREE slot becomes the fill slot of a channel that is not IDLE. -/
theorem fillWith_moves {i : Fin 3} (free : (r.slots.get i).state = .free) (unfilled : r.fill = none) (works : r.safe → r.state ≠ .idle)
    (room : r.queue.length < 2) : r.Moves (r.fillWith i) := by
  refine ⟨fun safe => (safe_iff _).mpr ?_, holds_set rfl⟩
  have sound := (safe_iff r).mp safe
  have waits : ∀ j, j ∈ r.queue ↔ j ≠ i ∧ j ∈ r.queue := fun j => by
    refine ⟨fun queued => ⟨?_, queued⟩, And.right⟩
    rintro rfl
    rw [sound.agree.ready, free] at queued
    cases queued
  exact ⟨sound.agree.fillWith unfilled (by simp [free]) (by simp [free]) sound.agree.once waits, fun rests => absurd rests (works safe),
    sound.short, fun _ => Nat.le_of_lt_succ room, sound.elapsed, sound.starve⟩

theorem standing_moves (r : FilmChannel) : r.Moves r.standing := by
  unfold standing
  split
  · next chooses =>
    obtain ⟨works, unfilled, room⟩ := chooses
    split
    · next i lowest => exact fillWith_moves (lowestFree_state lowest) unfilled (fun _ => works) room
    · exact .refl r
  · exact .refl r

/-- The fill slot's frame is complete, and it joins the queue (R69). -/
theorem closed_moves {i : Fin 3} (fill : r.fill = some i) (f : Frame) : r.Moves (r.closed i f) := by
  refine ⟨fun safe => (safe_iff _).mpr ?_, holds_set rfl⟩
  have sound := (safe_iff r).mp safe
  have filling : (r.slots.get i).state = .filling := (sound.agree.filling i).mp fill
  have unqueued : i ∉ r.queue := fun queued => by
    rw [sound.agree.ready, filling] at queued
    cases queued
  have one : r.queue.length ≤ 1 := sound.filling (by simp [fill])
  have fits : ({ r.slots.get i with state := .ready, frame := some f } : Slot).Fits :=
    ⟨by simp, fun held => absurd ((sound.agree.fits i).unheld (by simp [filling]) (by simp [filling])) held, by simp⟩
  refine ⟨sound.agree.set fits ?_ (fun j => ?_) (fun j => ?_) (fun now => by cases now), fun rests j => ?_, ?_, fun some => ?_,
    sound.elapsed, sound.starve⟩
  · exact List.nodup_append.mpr ⟨sound.agree.once, List.nodup_singleton i, fun a queued b here => by
      rintro rfl
      exact unqueued (List.mem_singleton.mp here ▸ queued)⟩
  · simp only [closed, List.mem_append, List.mem_singleton]
    split <;> simp [*]
  · simp only [closed, fill, Option.some.injEq, reduceCtorEq, false_iff]
    split
    · simp
    · next other => exact fun same => other same.symm
  · rcases sound.idle rests i with free | retired <;> simp_all
  · simp only [closed, List.length_append, List.length_singleton]
    omega
  · cases some

/-- The older frame's slot takes over the fill (R70, NEWEST). -/
theorem refill_moves {head : Fin 3} {rest : List (Fin 3)} (queue : r.queue = head :: rest) (unfilled : r.fill = none)
    (works : r.safe → r.state ≠ .idle) : r.Moves { { r with queue := rest }.fillWith head with dropped := r.dropped + 1 } := by
  refine ⟨fun safe => (safe_iff _).mpr ?_, holds_set rfl⟩
  have sound := (safe_iff r).mp safe
  have once := sound.agree.once
  have short := sound.short
  rw [queue] at once short
  rw [List.length_cons] at short
  have ready : (r.slots.get head).state = .ready := (sound.agree.ready head).mp (by simp [queue])
  have waits : ∀ j, j ∈ rest ↔ j ≠ head ∧ j ∈ r.queue := fun j => by
    rw [queue, List.mem_cons]
    refine ⟨fun later => ⟨?_, .inr later⟩, fun ⟨other, queued⟩ => queued.resolve_left other⟩
    rintro rfl
    exact (List.nodup_cons.mp once).1 later
  exact ⟨sound.agree.fillWith unfilled (by simp [ready]) (by simp [ready]) (List.nodup_cons.mp once).2 waits,
    fun rests => absurd rests (works safe), Nat.le_of_succ_le short, fun _ => Nat.le_of_succ_le_succ short, sound.elapsed, sound.starve⟩

/-- The fill slot chosen after a trailer keeps a channel that is not IDLE and has none (R70). -/
theorem chooseFill_moves (unfilled : r.fill = none) (works : r.safe → r.state ≠ .idle) (policy : FillPolicy) :
    r.Moves (r.chooseFill policy) := by
  unfold chooseFill
  split
  · next i queue lowest => exact fillWith_moves (lowestFree_state lowest) unfilled works (by simp [queue])
  · next i queue lowest => exact fillWith_moves (lowestFree_state lowest) unfilled works (by simp [queue])
  · next queue =>
    split
    · exact refill_moves queue unfilled works
    · exact .refl r
  · exact .refl r

/-- A good trailer closes the fill slot's frame (R69, R70). -/
theorem closeFrame_moves {i : Fin 3} (fill : r.fill = some i) (f : Frame) (policy : FillPolicy) : r.Moves (r.closeFrame i f policy) := by
  have works : (r.closed i f).safe → (r.closed i f).state ≠ .idle := fun safe rests => by
    rcases ((safe_iff _).mp safe).idle rests i with state | state <;> simp [closed, PerSlot.get_set] at state
  rw [closeFrame_eq]
  exact ((closed_moves fill f).trans (chooseFill_moves rfl works policy)).trans (standing_moves _)

/-! ## Presentation (R72 to R76, R84) -/

theorem Elapsed.next_valid {e : Elapsed} (h : e.valid) : e.next.valid := by
  obtain ⟨hours, minutes, seconds⟩ := h
  unfold Elapsed.next
  split
  · exact ⟨hours, minutes, by dsimp only; omega⟩
  · split
    · exact ⟨hours, by dsimp only; omega, by simp⟩
    · split
      · exact ⟨by dsimp only; omega, by simp, by simp⟩
      · exact ⟨by simp, by simp, by simp⟩

theorem tickSecond_moves (r : FilmChannel) : r.Moves r.tickSecond := .of_slots rfl rfl rfl id Elapsed.next_valid id

/-- The slots with the SHOWN one retired (R72 step 3). -/
def retiredSlots (r : FilmChannel) : PerSlot Slot :=
  match r.shown with
  | some i => r.slots.set i (r.slots.get i).retire
  | none => r.slots

theorem retiredSlots_scanHolds (r : FilmChannel) (i : Fin 3) : (r.retiredSlots.get i).scanHolds = (r.slots.get i).scanHolds := by
  unfold retiredSlots
  split
  · exact holds_set (Slot.retire_scanHolds _) i
  · rfl

/-- Once the SHOWN slot is retired none is SHOWN, and the queue and the fill slot stand. -/
theorem retiredSlots_agree (h : SlotsAgree r.slots r.queue r.fill) :
    SlotsAgree r.retiredSlots r.queue r.fill ∧ ∀ j : Fin 3, (r.retiredSlots.get j).state ≠ .shown := by
  unfold retiredSlots
  split
  · next i shows =>
    have shown := shown_state shows
    have state := (r.slots.get i).retire_state
    refine ⟨h.setSame ((h.fits i).retire shown) ?_ ?_ fun _ => shown, fun j => ?_⟩
    · rcases state with state | state <;> simp [state, shown]
    · rcases state with state | state <;> simp [state, shown]
    · rw [PerSlot.get_set]
      split
      · rcases state with state | state <;> simp [state]
      · next other => exact fun now => other (h.shown j i now shown)
  · next shows => exact ⟨h, shown_none shows⟩

/-- The record with the queue's head SHOWN, before the elapsed counter counts (R72). -/
def showing (r : FilmChannel) (head : Fin 3) (rest : List (Fin 3)) : FilmChannel :=
  { r with
    queue := rest
    slots := r.retiredSlots.set head { r.retiredSlots.get head with state := .shown }
    holdCount := ((r.retiredSlots.get head).frame.map Frame.presentDelay).getD 0
    starveRun := 0
    presented := r.presented + 1 }

theorem present_eq (r : FilmChannel) (head : Fin 3) (rest : List (Fin 3)) :
    r.present head rest =
      if ((r.retiredSlots.get head).frame.map Frame.secondMark).getD false then (r.showing head rest).tickSecond
      else r.showing head rest := by
  cases shows : r.shown <;> simp only [present, showing, retiredSlots, shows]

theorem showing_moves {head : Fin 3} {rest : List (Fin 3)} (queue : r.queue = head :: rest) (works : r.state ≠ .idle) :
    r.Moves (r.showing head rest) := by
  refine ⟨fun safe => (safe_iff _).mpr ?_, fun i =>
    .trans (holds_set (t := { r.retiredSlots.get head with state := .shown }) rfl i) (r.retiredSlots_scanHolds i)⟩
  have sound := (safe_iff r).mp safe
  obtain ⟨agree, unseen⟩ := retiredSlots_agree sound.agree
  have once := agree.once
  have short := sound.short
  rw [queue] at once short
  rw [List.length_cons] at short
  have ready : (r.retiredSlots.get head).state = .ready := (agree.ready head).mp (by simp [queue])
  have fits : ({ r.retiredSlots.get head with state := .shown } : Slot).Fits :=
    ⟨by simp [(agree.fits head).frame, ready], by simp, by simp⟩
  refine ⟨agree.set fits (List.nodup_cons.mp once).2 (fun j => ?_) (fun j => ?_) (fun _ j _ => unseen j), fun rests => absurd rests works,
    Nat.le_of_succ_le short, fun _ => Nat.le_of_succ_le_succ short, sound.elapsed, Nat.zero_le _⟩
  · split
    · next here => simpa [showing, here] using (List.nodup_cons.mp once).1
    · next other => simp [showing, queue, other]
  · split
    · next here =>
      have unfilled := agree.filling j
      rw [here, ready] at unfilled
      simpa [showing, here] using unfilled
    · rfl

theorem present_moves {head : Fin 3} {rest : List (Fin 3)} (queue : r.queue = head :: rest) (works : r.state ≠ .idle) :
    r.Moves (r.present head rest) := by
  rw [present_eq]
  split
  · exact (showing_moves queue works).trans (tickSecond_moves _)
  · exact showing_moves queue works

theorem runOut_moves (works : r.state ≠ .idle) : r.Moves r.runOut.1 := by
  unfold runOut
  split
  · exact .of_slots rfl rfl rfl (fun ended => by cases ended) id id
  · exact .of_slots rfl rfl rfl (fun rests => absurd rests works) id fun _ => Nat.min_le_left _ _

theorem presentationStep_moves (r : FilmChannel) : r.Moves r.presentationStep.1 := by
  unfold presentationStep
  split
  · next playing =>
    have works : r.state ≠ .idle := by rw [playing]; decide
    dsimp only
    split
    · exact .of_slots rfl rfl rfl id id id
    · split
      · next queue => exact present_moves queue works
      · exact (Moves.of_slots rfl rfl rfl id id id : r.Moves { r with holdCount := 0 }).trans (runOut_moves works)
  · next priming =>
    split
    · next queue =>
      exact (present_moves queue (by rw [priming]; decide)).trans (.of_slots rfl rfl rfl (fun plays => by cases plays) id id)
    · exact .refl r
  all_goals exact .refl r

/-! ## Requests, DEGRADED and the warm reset (R80 to R85, R89) -/

theorem pause_moves (r : FilmChannel) : r.Moves r.pause := by
  unfold pause
  split
  · exact .of_slots rfl rfl rfl (fun paused => by cases paused) id id
  · exact .of_slots rfl rfl rfl (fun paused => by cases paused) id id
  all_goals exact .refl r

/-- An IDLE channel has no queue and no fill slot. -/
theorem Sound.idle_empty (h : r.Sound) (rests : r.state = .idle) : r.queue = [] ∧ r.fill = none := by
  have states := h.idle rests
  refine ⟨List.eq_nil_iff_forall_not_mem.mpr fun i queued => ?_, Option.eq_none_iff_forall_not_mem.mpr fun i fills => ?_⟩
  · rw [h.agree.ready] at queued
    rcases states i with state | state <;> simp [state] at queued
  · have filling := (h.agree.filling i).mp fills
    rcases states i with state | state <;> simp [state] at filling

theorem play_moves (r : FilmChannel) : r.Moves r.play := by
  unfold play
  split
  · next rests =>
    let q : FilmChannel := { r with state := .priming, holdCount := 0, starveRun := 0, presented := 0, repeated := 0, dropped := 0 }
    have begun : r.Moves q := .of_slots rfl rfl rfl (fun primes => by cases primes) id fun _ => Nat.zero_le _
    dsimp only
    split
    · next i lowest =>
      refine ⟨fun safe => ?_, holds_set rfl⟩
      obtain ⟨queue, fill⟩ := ((safe_iff r).mp safe).idle_empty rests
      exact (fillWith_moves (r := q) (lowestFree_state lowest) fill (fun _ works => by cases works) (by simp [q, queue])).safe (begun.safe safe)
    · exact begun
  · exact .refl r
  · exact .refl r
  · next paused => exact .of_slots rfl rfl rfl (fun rests => by dsimp only at rests; split at rests <;> cases rests) id id
  · exact .of_slots rfl rfl rfl (fun rests => by cases rests) id id

/-- Stopped slots, with nothing queued and none filling (R82, R89). -/
theorem stopped_agree {slots : PerSlot Slot} {queue : List (Fin 3)} {fill : Option (Fin 3)} (h : SlotsAgree slots queue fill) :
    SlotsAgree (slots.map Slot.stop) [] none := by
  have states := fun i => (slots.get i).stop_state
  refine ⟨fun i => by rw [PerSlot.get_map]; exact (h.fits i).stop, List.nodup_nil, fun i => ?_, fun i => ?_, fun i j now => ?_⟩
  · rcases states i with state | state <;> simp [state]
  · rcases states i with state | state <;> simp [state]
  · rcases states i with state | state <;> simp [state] at now

/-- A record with stopped slots, nothing queued and none filling, in whatever state. -/
theorem stopped_moves (slots : q.slots = r.slots.map Slot.stop) (queue : q.queue = []) (fill : q.fill = none)
    (elapsed : q.elapsed.valid) (starve : q.starveRun ≤ 255) : r.Moves q := by
  refine ⟨fun safe => (safe_iff q).mpr ⟨?_, fun _ i => ?_, by simp [queue], by simp [queue], elapsed, starve⟩, fun i => ?_⟩
  · rw [slots, queue, fill]
    exact stopped_agree ((safe_iff r).mp safe).agree
  · rw [slots, PerSlot.get_map]
    exact Slot.stop_state _
  · rw [slots, PerSlot.get_map, Slot.stop_scanHolds]

theorem stop_moves (r : FilmChannel) : r.Moves r.stop := by
  have zero : Elapsed.valid ⟨0, 0, 0⟩ := by simp [Elapsed.valid]
  unfold stop
  split
  · exact .of_slots rfl rfl rfl id (fun _ => zero) id
  all_goals exact stopped_moves rfl rfl rfl zero (Nat.zero_le _)

theorem warmReset_moves (r : FilmChannel) : r.Moves r.warmReset :=
  stopped_moves rfl rfl rfl (by simp [warmReset, FilmChannel.reset, Elapsed.valid]) (Nat.zero_le _)

/-- A seek empties the queue, and its frames with it (R83). -/
theorem seek_moves {e : Elapsed} (valid : e.valid) (r : FilmChannel) : r.Moves (r.seek e) := by
  let q : FilmChannel := { r with slots := r.slots.map Slot.unready, queue := [], elapsed := e, wrap := false }
  have emptied : r.Moves q := by
    refine ⟨fun safe => (safe_iff q).mpr ?_, fun i => by simp [q]⟩
    have sound := (safe_iff r).mp safe
    have states := fun i => (r.slots.get i).unready_state
    refine ⟨⟨fun i => ?_, List.nodup_nil, fun i => ?_, fun i => ?_, fun i j => ?_⟩, fun rests i => ?_, Nat.zero_le _, fun _ => Nat.zero_le _,
      valid, sound.starve⟩
    · rw [PerSlot.get_map]
      exact (sound.agree.fits i).unready
    · rw [PerSlot.get_map]
      rcases states i with ⟨state, other⟩ | ⟨state, -⟩
      · simp [q, state, other]
      · simp [q, state]
    · rw [PerSlot.get_map, sound.agree.filling]
      rcases states i with ⟨state, -⟩ | ⟨state, ready⟩
      · rw [state]
      · simp [state, ready]
    · have shown : ∀ k : Fin 3, (r.slots.get k).unready.state = .shown → (r.slots.get k).state = .shown := fun k => by
        rcases states k with ⟨state, -⟩ | ⟨state, -⟩ <;> simp [state]
      rw [PerSlot.get_map, PerSlot.get_map]
      exact fun now other => sound.agree.shown i j (shown i now) (shown j other)
    · rw [PerSlot.get_map]
      rcases states i with ⟨state, -⟩ | ⟨state, -⟩
      · rw [state]; exact sound.idle rests i
      · exact .inl state
  exact emptied.trans (standing_moves q)

/-! ## Scan holds (R77) -/

/-- A hold released on a slot keeps the record safe, and the slots that are SHOWN. -/
theorem release_safe (i : Fin 3) (safe : r.safe) : (r.setSlot i (r.slots.get i).release).safe := by
  have sound := (safe_iff r).mp safe
  have state := (r.slots.get i).release_state
  refine (safe_iff _).mpr ⟨sound.agree.setSame (sound.agree.fits i).release ?_ ?_ ?_, fun rests j => ?_, sound.short, sound.filling,
    sound.elapsed, sound.starve⟩
  · rcases state with state | ⟨before, state⟩ <;> simp [*]
  · rcases state with state | ⟨before, state⟩ <;> simp [*]
  · rcases state with state | ⟨before, state⟩ <;> simp [*]
  · rw [setSlot_slots, PerSlot.get_set]
    split
    · rcases state with state | ⟨before, state⟩
      · rw [state]; exact sound.idle rests i
      · exact .inl state
    · exact sound.idle rests j

/-- A hold taken on the SHOWN slot keeps the record safe. -/
theorem take_safe {i : Fin 3} (shown : (r.slots.get i).state = .shown) (safe : r.safe) :
    (r.setSlot i { r.slots.get i with scanHolds := (r.slots.get i).scanHolds + 1 }).safe := by
  have sound := (safe_iff r).mp safe
  have fits : ({ r.slots.get i with scanHolds := (r.slots.get i).scanHolds + 1 } : Slot).Fits :=
    ⟨(sound.agree.fits i).frame, fun _ => .inl shown, fun _ => Nat.succ_ne_zero _⟩
  refine (safe_iff _).mpr ⟨sound.agree.setSame fits .rfl .rfl id, fun rests j => ?_, sound.short, sound.filling, sound.elapsed, sound.starve⟩
  rw [setSlot_slots, PerSlot.get_set]
  split
  · exact sound.idle rests i
  · exact sound.idle rests j

end FilmChannel

end Sys2Proof.Machine
end

section
/-! SUPPORT. The frame of film. What section 5.1, R54 and R77 speak of is one view of the state: the channel records and the rear engines'
hold records. Every operation that neither reports a fault nor works on film leaves it, and each such operation has one lemma here. -/

namespace Sys2Proof.Machine

/-! ## The view -/

/-- What section 5.1, R54 and R77 speak of: the channel records and the rear engines' hold records. -/
structure FilmView where
  fsq : PerChannel FilmChannel
  rl : Option Hold
  rr : Option Hold

/-- The channel records and the hold records of a state. -/
def filmView (s : State) : FilmView := ⟨s.fsq, s.den.holdRl, s.den.holdRr⟩

/-- Both channel records of a view are safe: `FilmSafe`, said of the view. -/
def FilmView.Safe (v : FilmView) : Prop := v.fsq.a.safe ∧ v.fsq.b.safe

/-- The scan holds of a view are those of its hold records: `HoldsSafe`, said of the view. -/
def FilmView.Counted (v : FilmView) : Prop :=
  ∀ (x : Channel) (i : Fin 3), ((v.fsq.get x).slots.get i).scanHolds = holdsOn v.rl x i + holdsOn v.rr x i

theorem filmSafe_iff (s : State) : FilmSafe s ↔ (filmView s).Safe := Iff.rfl

theorem holdsSafe_iff (s : State) : HoldsSafe s ↔ (filmView s).Counted :=
  ⟨fun ⟨a, b⟩ x => by cases x; exacts [a, b], fun counted => ⟨counted .a, counted .b⟩⟩

theorem filmView_of_fields {s t : State} (fsq : t.fsq = s.fsq) (den : t.den = s.den) : filmView t = filmView s := by
  rw [filmView, fsq, den, filmView]

/-- Work in other blocks than FSQ and the display engines leaves the view. -/
theorem ChangesOnly.filmView {blocks : List Block} {s t : State} (h : ChangesOnly blocks s t) (fsq : Block.fsq ∉ blocks := by decide)
    (den : Block.den ∉ blocks := by decide) : filmView t = filmView s := filmView_of_fields (h .fsq fsq) (h .den den)

/-! The two directions in which `simp` meets a record update that leaves the view. -/

@[simp] theorem filmView_mk (fmc : Fmc) (hlp : Hlp) (wdc : Wdc) (lyu : Lyu) (stw : Stw) (rqe : Rqe) (den : Engines)
    (fsq : PerChannel FilmChannel) (mnu : Mnu) (rvc : Rvc) (ccp : Ccp) (gdu : Gdu) (pdu : Pdu) (chu : Chu) (aop : Aop) (flt : Flt)
    (pins : Pins) (freeCount : Nat) (pending : List Instr) :
    filmView ⟨fmc, hlp, wdc, lyu, stw, rqe, den, fsq, mnu, rvc, ccp, gdu, pdu, chu, aop, flt, pins, freeCount, pending⟩ =
      ⟨fsq, den.holdRl, den.holdRr⟩ := by rw [filmView]

@[simp] theorem filmView_fields (s : State) : (⟨s.fsq, s.den.holdRl, s.den.holdRr⟩ : FilmView) = filmView s := by
  rw [filmView]

section Frame

variable (s : State)

/-! ## Shared operations -/

@[simp] theorem filmView_freeFmc : filmView (freeFmc s) = filmView s := filmView_of_fields rfl rfl
@[simp] theorem filmView_markDirty (k : StatusSection) : filmView (markDirty k s) = filmView s := filmView_of_fields rfl rfl
@[simp] theorem filmView_setCauses (set : BitVec 6) : filmView (setCauses set s) = filmView s := filmView_of_fields (by simp) (by simp)
@[simp] theorem filmView_raiseCause (c : Cause) : filmView (raiseCause c s) = filmView s := filmView_setCauses s _
@[simp] theorem filmView_giveResult (code : ResultCode) : filmView (giveResult code s) = filmView s :=
  (giveResult_changesOnly code s).filmView
@[simp] theorem filmView_setMnu (m : Mnu) : filmView (setMnu m s) = filmView s := filmView_of_fields rfl rfl
@[simp] theorem filmView_setMenuPanel (p : Panel) (m : MenuPanel) : filmView (setMenuPanel p m s) = filmView s := filmView_of_fields rfl rfl
@[simp] theorem filmView_setCcp (c : Ccp) : filmView (setCcp c s) = filmView s := filmView_of_fields rfl rfl
@[simp] theorem filmView_setRqe (r : Rqe) : filmView (setRqe r s) = filmView s := filmView_of_fields rfl rfl
@[simp] theorem filmView_setLyu (l : Lyu) : filmView (setLyu l s) = filmView s := filmView_of_fields rfl rfl
@[simp] theorem filmView_setEngine (p : Panel) (d : Den) : filmView (setEngine p d s) = filmView s := by simp [setEngine]
@[simp] theorem filmView_setRvc (r : Rvc) : filmView (setRvc r s) = filmView s := filmView_of_fields (by simp) (by simp)
@[simp] theorem filmView_setChu (c : Chu) : filmView (setChu c s) = filmView s := filmView_of_fields (by simp) (by simp)
@[simp] theorem filmView_setAop (o : Aop) : filmView (setAop o s) = filmView s := filmView_of_fields (by simp) (by simp)
@[simp] theorem filmView_setGdu (g : Gdu) : filmView (setGdu g s) = filmView s := filmView_of_fields (by simp) (by simp)
@[simp] theorem filmView_settleChu (c : Chu) : filmView (settleChu c s) = filmView s := (settleChu_changesOnly c s).filmView
@[simp] theorem filmView_chimeEvent (e : ChimeEvent) : filmView (chimeEvent e s) = filmView s := filmView_of_fields (by simp) (by simp)
@[simp] theorem filmView_cadenceNotice (n : CadenceNotice) : filmView (cadenceNotice n s) = filmView s :=
  filmView_of_fields (by simp) (by simp)
@[simp] theorem filmView_sendResponse (r : Response) : filmView (sendResponse r s) = filmView s := filmView_of_fields rfl rfl

/-! ## Faults, guide lines and park distance -/

@[simp] theorem filmView_requestFaultAck (classes clear : Nat) : filmView (requestFaultAck classes clear s).1 = filmView s := by
  simp only [requestFaultAck]; split <;> simp
@[simp] theorem filmView_requestAttnAck (causes : Nat) : filmView (requestAttnAck causes s).1 = filmView s := by
  unfold requestAttnAck; split <;> simp
@[simp] theorem filmView_requestResume : filmView (requestResume s).1 = filmView s := by
  unfold requestResume; repeat' split
  all_goals simp
@[simp] theorem filmView_steeringBeat (bytes : List Byte) : filmView (steeringBeat bytes s) = filmView s := by
  simp only [steeringBeat]; split <;> simp
@[simp] theorem filmView_requestGuideBank (b : Nat) : filmView (requestGuideBank b s).1 = filmView s := by
  unfold requestGuideBank; repeat' split
  all_goals simp
@[simp] theorem filmView_guideApply : filmView (guideApply s) = filmView s := by simp [guideApply]
@[simp] theorem filmView_parkViewNotice (after : View) : filmView (parkViewNotice after s) = filmView s :=
  (works_parkViewNotice s after).only.filmView
@[simp] theorem filmView_handCadence (k : ParkSettings) : filmView (handCadence k s) = filmView s := by
  unfold handCadence; split <;> simp

/-! ## Display, chimes and film audio -/

@[simp] theorem filmView_aopKick : filmView (aopKick s) = filmView s := (aopKick_changesOnly s).filmView
@[simp] theorem filmView_exchangePin (move : Bool) : filmView (exchangePin move s) = filmView s := by
  simp only [exchangePin]; split <;> simp
@[simp] theorem filmView_pinExchange (move : Bool) : filmView (pinExchange move s) = filmView s := filmView_exchangePin s move
@[simp] theorem filmView_centreRow : filmView (centreRow s).1 = filmView s := by unfold centreRow; split <;> simp
@[simp] theorem filmView_audioStop (x : Channel) : filmView (audioStop x s) = filmView s := (works_audioStop s x).only.filmView
@[simp] theorem filmView_audioApply : filmView (audioApply s) = filmView s := by simp [audioApply]
@[simp] theorem filmView_requestChimePlay (clip priority plays route requeue : Nat) :
    filmView (requestChimePlay clip priority plays route requeue s).1 = filmView s := by
  unfold requestChimePlay; repeat' split
  all_goals simp
@[simp] theorem filmView_requestChimeStop (clip : Option Nat) : filmView (requestChimeStop clip s).1 = filmView s := by
  unfold requestChimeStop; repeat' split
  all_goals simp
@[simp] theorem filmView_chuViewNotice (before after : View) : filmView (chuViewNotice before after s) = filmView s :=
  (works_chuViewNotice s before after).only.filmView
@[simp] theorem filmView_chimeApply : filmView (chimeApply s) = filmView s := filmView_setChu s _

/-! ## Camera capture and the reverse view -/

@[simp] theorem filmView_goodFrameNotice (frameNo : Count) : filmView (goodFrameNotice frameNo s) = filmView s := filmView_setRvc s _
@[simp] theorem filmView_damagedFrameNotice : filmView (damagedFrameNotice s) = filmView s := by
  unfold damagedFrameNotice; split <;> simp
@[simp] theorem filmView_closeIfWritten : filmView (closeIfWritten s) = filmView s := by
  unfold closeIfWritten; repeat' split
  all_goals simp
@[simp] theorem filmView_startFrame (frameNo : Count) : filmView (startFrame frameNo s) = filmView s := by
  unfold startFrame; split <;> simp
@[simp] theorem filmView_lineWritten : filmView (lineWritten s) = filmView s := by
  simp only [lineWritten]; repeat' split
  all_goals simp
@[simp] theorem filmView_startCapture : filmView (startCapture s) = filmView s := (works_startCapture s).only.filmView
@[simp] theorem filmView_stopCapture : filmView (stopCapture s) = filmView s := (works_stopCapture s).only.filmView
@[simp] theorem filmView_engageChime (cause : EngageCause) : filmView (engageChime cause s) = filmView s := by
  unfold engageChime; split <;> simp
@[simp] theorem filmView_beginActing : filmView (beginActing s) = filmView s := filmView_setRvc s _

/-! ## Menus -/

@[simp] theorem filmView_restartIdle (p : Panel) : filmView (restartIdle p s) = filmView s := filmView_of_fields rfl rfl
@[simp] theorem filmView_changeStack (p : Panel) (stack : List Nat) (top : TopCache) :
    filmView (changeStack p stack top s) = filmView s := filmView_of_fields rfl rfl
@[simp] theorem filmView_menuKick : filmView (menuKick s) = filmView s := (works_menuKick s).only.filmView
@[simp] theorem filmView_dropMenuFetch (purpose : MenuPurpose) : filmView (dropMenuFetch purpose s) = filmView s :=
  (works_dropMenuFetch s purpose).only.filmView
@[simp] theorem filmView_touchPanel (p : Panel) : filmView (touchPanel p s) = filmView s := by simp only [touchPanel]; split <;> simp
@[simp] theorem filmView_takeInHand (r : MenuRequest) : filmView (takeInHand r s) = filmView s := by simp [takeInHand]
@[simp] theorem filmView_requestMenuPush (panel page : Nat) : filmView (requestMenuPush panel page s).1 = filmView s := by
  simp only [requestMenuPush]; repeat' split
  all_goals simp
@[simp] theorem filmView_requestMenuReplace (panel page : Nat) : filmView (requestMenuReplace panel page s).1 = filmView s := by
  simp only [requestMenuReplace]; repeat' split
  all_goals simp
@[simp] theorem filmView_requestMenuPop (panel : Nat) : filmView (requestMenuPop panel s).1 = filmView s := by
  simp only [requestMenuPop]; repeat' split
  all_goals simp
@[simp] theorem filmView_requestMenuClear (panel : Nat) : filmView (requestMenuClear panel s).1 = filmView s := by
  simp only [requestMenuClear]; repeat' split
  all_goals simp
@[simp] theorem filmView_requestMenuTouch (panel : Nat) : filmView (requestMenuTouch panel s).1 = filmView s := by
  unfold requestMenuTouch; split <;> simp
@[simp] theorem filmView_answerMenu (code : ResultCode) : filmView (answerMenu code s) = filmView s := by simp [answerMenu]
@[simp] theorem filmView_finishMenuRequest (r : MenuRequest) (verdict : Option Descriptor) :
    filmView (finishMenuRequest r verdict s) = filmView s := by simp only [finishMenuRequest]; split <;> simp
@[simp] theorem filmView_finishMenuFetch (purpose : MenuPurpose) (verdict : Option Descriptor) :
    filmView (finishMenuFetch purpose verdict s) = filmView s := by
  simp only [finishMenuFetch]; repeat' split
  all_goals simp
@[simp] theorem filmView_menuApply : filmView (menuApply s) = filmView s := (works_menuApply s).only.filmView

/-! ## The request ring, layouts and the warm reset -/

@[simp] theorem filmView_requestLayoutCommit : filmView (requestLayoutCommit s).1 = filmView s := by
  unfold requestLayoutCommit; split <;> simp
@[simp] theorem filmView_resultWritten : filmView (resultWritten s) = filmView s := by simp only [resultWritten]; split <;> simp
@[simp] theorem filmView_applyLayout (l : Layout) : filmView (applyLayout l s) = filmView s := by simp [applyLayout]
@[simp] theorem filmView_acceptCommit (l : Layout) : filmView (acceptCommit l s) = filmView s := by
  simp only [acceptCommit]; split <;> simp
@[simp] theorem filmView_normalEntryNotice : filmView (normalEntryNotice s) = filmView s := by
  unfold normalEntryNotice; split <;> simp
@[simp] theorem filmView_releaseReset : filmView (releaseReset s) = filmView s := (releaseReset_only s).filmView
@[simp] theorem filmView_startDrain : filmView (startDrain s) = filmView s := (startDrain_changesOnly s).filmView

end Frame

end Sys2Proof.Machine
end

section
/-! SUPPORT. What the part's work does to the film channels: under a report, a request, a refresh start and a warm reset the channel records
stay safe, and the scan holds stay those of the hold records (R54, R67 to R89, R168). -/

namespace Sys2Proof.Machine

/-! ## Moves of the view -/

/-- A move of the view that keeps the channel records safe and the scan holds counted. -/
structure FilmView.Moves (v w : FilmView) : Prop where
  safe : v.Safe → w.Safe
  counted : v.Counted → w.Counted

namespace FilmView

variable {u v w : FilmView}

@[simp] theorem Moves.refl (v : FilmView) : v.Moves v := ⟨id, id⟩

theorem Moves.trans (h : u.Moves v) (k : v.Moves w) : u.Moves w := ⟨fun safe => k.safe (h.safe safe), fun c => k.counted (h.counted c)⟩

/-- Each channel record moves on its own, and the hold records stay. -/
theorem Moves.of_channels (channels : ∀ x : Channel, (v.fsq.get x).Moves (w.fsq.get x)) (rl : w.rl = v.rl) (rr : w.rr = v.rr) :
    v.Moves w :=
  ⟨fun ⟨a, b⟩ => ⟨(channels .a).safe a, (channels .b).safe b⟩, fun counted x i => by rw [(channels x).holds i, rl, rr]; exact counted x i⟩

end FilmView

section Operations

variable {v : FilmView} {s : State}

/-! ## Reports (R168) -/

/-- A report leaves the channels, or pauses them where its class is SAFE. -/
@[simp] theorem films_report (h : v.Moves (filmView s)) (r : Report) : v.Moves (filmView (report r s)) := by
  refine h.trans (.of_channels (fun x => ?_) (congrArg Engines.holdRl (report_den s r)) (congrArg Engines.holdRr (report_den s r)))
  rcases report_channel r x s with same | paused
  · rw [filmView, filmView, same]
    exact .refl _
  · rw [filmView, filmView, paused]
    exact (FilmChannel.pause_moves _).trans (FilmChannel.standing_moves _)

@[simp] theorem films_reportPlain (h : v.Moves (filmView s)) (kind : FaultKind) (source : FaultSource) (detail : Detail) :
    v.Moves (filmView (reportPlain kind source detail s)) := films_report h _

@[simp] theorem films_reportHost (h : v.Moves (filmView s)) (kind : FaultKind) (source : FaultSource) (detail : Detail) (p : HostRequest) :
    v.Moves (filmView (reportHost kind source detail p s)) := films_report h _

theorem films_reportMemory {each : FaultKind → Nat → Nat → State → State}
    (reports : ∀ k l n u, v.Moves (filmView u) → v.Moves (filmView (each k l n u))) (h : v.Moves (filmView s)) (corrected poisoned : List Nat) :
    v.Moves (filmView (reportMemory corrected poisoned each s)) := by
  simp only [reportMemory]
  split <;> split <;> simp [reports, h]

@[simp] theorem films_reportMemoryFor (h : v.Moves (filmView s)) (port : Port) (m : Moved) :
    v.Moves (filmView (reportMemoryFor port m s)) := films_reportMemory (fun _ _ _ _ k => films_report k _) h _ _

@[simp] theorem films_reportMemoryHost (h : v.Moves (filmView s)) (p : HostRequest) (target : Nat) (m : Moved) :
    v.Moves (filmView (reportMemoryHost p target m s)) := films_reportMemory (fun _ _ _ _ k => films_report k _) h _ _

@[simp] theorem films_reportIfDue (h : v.Moves (filmView s)) (kind : FaultKind) (source : FaultSource) (detail : Option Detail) :
    v.Moves (filmView (reportIfDue kind source detail s)) := by
  unfold reportIfDue
  split <;> simp [h]

/-! ## Guide lines and park distance -/

@[simp] theorem films_staleCheck (h : v.Moves (filmView s)) : v.Moves (filmView (staleCheck s)) := by
  unfold staleCheck
  split <;> simp [h]

@[simp] theorem films_guideViewNotice (h : v.Moves (filmView s)) (before after : View) :
    v.Moves (filmView (guideViewNotice before after s)) := by
  unfold guideViewNotice
  repeat' split
  all_goals simp [h]

@[simp] theorem films_guideSwitch (h : v.Moves (filmView s)) : v.Moves (filmView (guideSwitch s)) := by
  simp only [guideSwitch]
  split <;> simp [h]

@[simp] theorem films_reportList (h : v.Moves (filmView s)) (f : GuideFetch) (verdict : GuideVerdict) :
    v.Moves (filmView (reportList f verdict s)) := by
  unfold reportList
  split <;> simp [h]

@[simp] theorem films_enterSensorFault (h : v.Moves (filmView s)) (k : ParkSettings) (detail : Detail) :
    v.Moves (filmView (enterSensorFault k detail s)) := by
  unfold enterSensorFault
  split <;> simp [h]

@[simp] theorem films_distanceBeat (h : v.Moves (filmView s)) (bytes : List Byte) : v.Moves (filmView (distanceBeat bytes s)) := by
  simp only [distanceBeat, evaluatePark]
  repeat' split
  all_goals simp [h]

/-! ## Film audio, camera capture and menus -/

@[simp] theorem films_blockBoundary (h : v.Moves (filmView s)) : v.Moves (filmView (blockBoundary s)) := by
  simp only [blockBoundary, settleBlock]
  split
  · simp [h]
  · exact films_reportIfDue (films_reportIfDue (films_reportIfDue (by simp [h]) _ _ _) _ _ _) _ _ _

@[simp] theorem films_enterLost (h : v.Moves (filmView s)) (deadline : Bool) : v.Moves (filmView (enterLost deadline s)) := by
  simp [enterLost, h]

@[simp] theorem films_damageFrame (h : v.Moves (filmView s)) (detail : Detail) (reception : Reception) :
    v.Moves (filmView (damageFrame detail reception s)) := by
  simp only [damageFrame]
  split <;> simp [h]

@[simp] theorem films_takeFrameStart (h : v.Moves (filmView s)) (frameNo : Count) : v.Moves (filmView (takeFrameStart frameNo s)) := by
  simp only [takeFrameStart]
  split <;> simp [h]

@[simp] theorem films_takeLine (h : v.Moves (filmView s)) (lineNo : Count) (data : List Byte) (check : BitVec 32) :
    v.Moves (filmView (takeLine lineNo data check s)) := by
  simp only [takeLine]
  repeat' split
  all_goals simp [h]

@[simp] theorem films_takeFrameEnd (h : v.Moves (filmView s)) : v.Moves (filmView (takeFrameEnd s)) := by
  simp only [takeFrameEnd]
  repeat' split
  all_goals simp [h]

@[simp] theorem films_judgeDescriptor (h : v.Moves (filmView s)) (beats : List ReadBeat) (panel : Panel) (page : Nat) :
    v.Moves (filmView (judgeDescriptor beats panel page s).2) := by
  unfold judgeDescriptor
  split <;> simp [h]

/-! ## The reverse view -/

@[simp] theorem films_handView (h : v.Moves (filmView s)) (before : View) : v.Moves (filmView (handView before s)) := by
  simp [handView, h]

@[simp] theorem films_enterNormal (h : v.Moves (filmView s)) : v.Moves (filmView (enterNormal s)) := by simp [enterNormal, h]

theorem films_evaluateDemand (h : v.Moves (filmView s)) (cause : EngageCause) : v.Moves (filmView (evaluateDemand cause s)) := by
  unfold evaluateDemand
  split
  · simp [viewEngage, h]
  · simp only [viewHold]
    split <;> simp [h]
  · simp [viewReengage, h]
  all_goals exact h

theorem films_requestViewCamera (h : v.Moves (filmView s)) (argument : Nat) : v.Moves (filmView (requestViewCamera argument s).1) := by
  unfold requestViewCamera
  split
  · simp only [viewCameraOff]
    split <;> simp [h]
  · exact films_evaluateDemand (by simpa using h) .host
  · exact h

theorem films_qualifyRev (h : v.Moves (filmView s)) : v.Moves (filmView (qualifyRev s)) := by
  unfold qualifyRev
  repeat' split
  · exact h
  · exact films_evaluateDemand (by simpa using h) .rev
  · exact h

theorem films_endHold (h : v.Moves (filmView s)) : v.Moves (filmView (endHold s)) := by
  unfold endHold
  repeat' split
  all_goals simp [h]

/-! ## Film requests (R79 to R83) -/

theorem films_setChannel (h : v.Moves (filmView s)) {x : Channel} {r : FilmChannel} (moves : (s.fsq.get x).Moves r) :
    v.Moves (filmView (setChannel x r s)) := by
  refine h.trans (.of_channels (fun y => ?_) (congrArg Engines.holdRl (setChannel_den s x r))
    (congrArg Engines.holdRr (setChannel_den s x r)))
  rw [filmView, filmView, setChannel_fsq, PerChannel.get_set]
  split
  · next same => exact same ▸ moves
  · exact .refl _

theorem films_changeChannel (h : v.Moves (filmView s)) (x : Channel) {f : FilmChannel → FilmChannel} (moves : ∀ r : FilmChannel, r.Moves (f r)) :
    v.Moves (filmView (changeChannel x f s)) := films_setChannel h ((moves _).trans (FilmChannel.standing_moves _))

theorem films_requestFilmPlay (h : v.Moves (filmView s)) (x : Channel) : v.Moves (filmView (requestFilmPlay x s).1) := by
  unfold requestFilmPlay
  repeat' split
  · exact h
  · exact h
  · simpa using films_changeChannel h x FilmChannel.play_moves

theorem films_requestFilmPause (h : v.Moves (filmView s)) (x : Channel) : v.Moves (filmView (requestFilmPause x s).1) :=
  films_changeChannel h x FilmChannel.pause_moves

theorem films_requestFilmStop (h : v.Moves (filmView s)) (x : Channel) : v.Moves (filmView (requestFilmStop x s).1) := by
  simpa [requestFilmStop] using films_changeChannel h x FilmChannel.stop_moves

theorem films_requestFilmSeek (h : v.Moves (filmView s)) (hours minutes seconds : Nat) (x : Channel) :
    v.Moves (filmView (requestFilmSeek hours minutes seconds x s).1) := by
  unfold requestFilmSeek
  split
  · exact h
  · next valid =>
    have time : Elapsed.valid ⟨hours, minutes, seconds⟩ := by simp only [Elapsed.valid]; omega
    simpa using films_changeChannel h x (FilmChannel.seek_moves time)

theorem films_filmRequest (h : v.Moves (filmView s)) (channel : Nat) {act : Channel → State → State × ResultCode}
    (acts : ∀ x, v.Moves (filmView (act x s).1)) : v.Moves (filmView (filmRequest channel act s).1) := by
  unfold filmRequest
  repeat' split
  all_goals first | exact h | exact acts _

/-! ## What the host's WRITE hands on (R9, R12) -/

theorem films_takeTrailer (h : v.Moves (filmView s)) (x : Channel) (bytes : List Byte) : v.Moves (filmView (takeTrailer x bytes s)) := by
  simp only [takeTrailer]
  split
  · simp [h]
  · next fill => exact films_setChannel h (FilmChannel.closeFrame_moves fill _ _)
  · exact h

theorem films_takeWatched (h : v.Moves (filmView s)) (w : Nat × List Byte) : v.Moves (filmView (takeWatched s w)) := by
  simp only [takeWatched, producerBeat, audioProducerBeat, uiBaseBeat]
  repeat' split
  all_goals simp [h]

theorem films_foldl_takeWatched (h : v.Moves (filmView s)) (ws : List (Nat × List Byte)) :
    v.Moves (filmView (ws.foldl takeWatched s)) := by
  induction ws generalizing s with
  | nil => exact h
  | cons w ws ih => exact ih (films_takeWatched h w)

theorem films_handOn (h : v.Moves (filmView s)) (window : Option Channel) (p : HostRequest) : v.Moves (filmView (handOn window p s)) := by
  simp only [handOn, handTrailer]
  repeat' split
  · exact h
  · exact films_takeTrailer h _ _
  · exact h
  · exact films_foldl_takeWatched h _

/-! ## The warm reset (R65, R89) -/

@[simp] theorem films_applyReset (h : v.Moves (filmView s)) : v.Moves (filmView (applyReset s)) := by
  rw [(applyReset_only s).filmView]
  refine h.trans (.of_channels (fun x => ?_) rfl rfl)
  cases x <;> exact FilmChannel.warmReset_moves _

theorem films_resetNow (h : v.Moves (filmView s)) : v.Moves (filmView (resetNow s)) := by
  unfold resetNow
  split <;> simp [h]

theorem films_checkDrain (h : v.Moves (filmView s)) : v.Moves (filmView (checkDrain s)) := by
  unfold checkDrain
  split
  · exact films_resetNow h
  · exact h

theorem films_takeAssertion (h : v.Moves (filmView s)) : v.Moves (filmView (takeAssertion s)) := by
  unfold takeAssertion
  split
  · exact films_resetNow h
  · exact films_checkDrain (by simpa using h)

end Operations

end Sys2Proof.Machine
end

section
/-! SUPPORT. FSQ at a rear refresh start (R53, R54, R71, R77): a channel is presented, the engine's scan hold moves, and the fill slots are
chosen anew. -/

namespace Sys2Proof.Machine

/-! ## The hold record -/

/-- The other rear engine's hold record. -/
def RearPanel.otherHold (p : RearPanel) (s : State) : Option Hold :=
  match p with
  | .left => s.den.holdRr
  | .right => s.den.holdRl

theorem filmView_setHold (p : RearPanel) (hold : Option Hold) (s : State) :
    filmView (p.setHold hold s) =
      match p with
      | .left => ⟨s.fsq, hold, s.den.holdRr⟩
      | .right => ⟨s.fsq, s.den.holdRl, hold⟩ := by cases p <;> rfl

/-- The scan holds are those of one engine's hold record and of the other's. -/
theorem counted_setHold (p : RearPanel) (hold : Option Hold) (s : State) :
    (filmView (p.setHold hold s)).Counted ↔
      ∀ (x : Channel) (i : Fin 3), ((s.fsq.get x).slots.get i).scanHolds = holdsOn hold x i + holdsOn (p.otherHold s) x i := by
  rw [filmView_setHold]
  cases p
  · exact .rfl
  · exact forall₂_congr fun x i => by rw [Nat.add_comm]; exact .rfl

theorem setHold_hold (p : RearPanel) (s : State) : p.setHold (p.hold s) s = s := by cases p <;> rfl

/-! ## The exchange of scan holds (R77) -/

section Exchange

variable {fsq : PerChannel FilmChannel}

/-- Both records of a table are safe. -/
def SafeChannels (fsq : PerChannel FilmChannel) : Prop := ∀ x : Channel, (fsq.get x).safe

theorem SafeChannels.set {x : Channel} {r : FilmChannel} (h : SafeChannels fsq) (safe : r.safe) : SafeChannels (fsq.set x r) := fun y => by
  rw [PerChannel.get_set]
  split
  · exact safe
  · exact h y

/-- The slot of a hold. -/
def Hold.slotIn (h : Hold) (fsq : PerChannel FilmChannel) : Slot := (fsq.get h.channel).slots.get h.slot

theorem releaseHold_slot (h : Hold) (x : Channel) (i : Fin 3) :
    ((releaseHold h fsq).get x).slots.get i =
      if h = ⟨x, i⟩ then ((fsq.get x).slots.get i).release else (fsq.get x).slots.get i := by
  obtain ⟨y, j⟩ := h
  simp only [releaseHold, PerChannel.get_set, Hold.mk.injEq]
  by_cases channel : x = y
  · subst channel
    by_cases slot : i = j
    · simp [slot, PerSlot.get_set]
    · simp [slot, PerSlot.get_set, Ne.symm slot]
  · simp [channel, Ne.symm channel]

theorem takeHold_slot (h : Hold) (x : Channel) (i : Fin 3) :
    ((takeHold h fsq).get x).slots.get i =
      if h = ⟨x, i⟩ then { (fsq.get x).slots.get i with scanHolds := ((fsq.get x).slots.get i).scanHolds + 1 }
      else (fsq.get x).slots.get i := by
  obtain ⟨y, j⟩ := h
  simp only [takeHold, PerChannel.get_set, Hold.mk.injEq]
  by_cases channel : x = y
  · subst channel
    by_cases slot : i = j
    · simp [slot, PerSlot.get_set]
    · simp [slot, PerSlot.get_set, Ne.symm slot]
  · simp [channel, Ne.symm channel]

/-- The records after a release, if there was a hold. -/
def releasedHolds (old : Option Hold) (fsq : PerChannel FilmChannel) : PerChannel FilmChannel :=
  match old with
  | some h => releaseHold h fsq
  | none => fsq

theorem exchangeHolds_eq (old new : Option Hold) :
    exchangeHolds old new fsq =
      if old = new then fsq
      else match new with
        | some h => takeHold h (releasedHolds old fsq)
        | none => releasedHolds old fsq := rfl

theorem releasedHolds_safe (old : Option Hold) (h : SafeChannels fsq) : SafeChannels (releasedHolds old fsq) := by
  unfold releasedHolds
  split
  · exact h.set (FilmChannel.release_safe _ (h _))
  · exact h

/-- A hold that moves to a SHOWN slot keeps the records safe. -/
theorem exchangeHolds_safe {old new : Option Hold} (shown : ∀ h, new = some h → (h.slotIn fsq).state = .shown) (safe : SafeChannels fsq) :
    SafeChannels (exchangeHolds old new fsq) := by
  have released := releasedHolds_safe old safe
  rw [exchangeHolds_eq]
  split
  · exact safe
  · cases new with
    | none => exact released
    | some h =>
      refine released.set (FilmChannel.take_safe ?_ (released h.channel))
      have state := shown h rfl
      rw [Hold.slotIn] at state
      cases old with
      | none => exact state
      | some g =>
        rw [releasedHolds, releaseHold_slot]
        split
        · rcases Slot.release_state ((fsq.get h.channel).slots.get h.slot) with same | ⟨retired, -⟩
          · exact same.trans state
          · rw [state] at retired; cases retired
        · exact state

/-- The scan holds follow the exchange of one engine's hold. -/
theorem exchangeHolds_counted {old new : Option Hold} {others : Channel → Fin 3 → Nat}
    (counted : ∀ x i, ((fsq.get x).slots.get i).scanHolds = holdsOn old x i + others x i) (x : Channel) (i : Fin 3) :
    (((exchangeHolds old new fsq).get x).slots.get i).scanHolds = holdsOn new x i + others x i := by
  have before := counted x i
  have released : (((releasedHolds old fsq).get x).slots.get i).scanHolds = others x i := by
    cases old with
    | none => simpa [releasedHolds, holdsOn] using before
    | some g =>
      rw [releasedHolds, releaseHold_slot]
      by_cases here : g = ⟨x, i⟩ <;> simp [holdsOn, here] at before ⊢ <;> omega
  rw [exchangeHolds_eq]
  split
  · next same => rw [before, same]
  · cases new with
    | none => simpa [holdsOn] using released
    | some h =>
      dsimp only
      rw [takeHold_slot]
      by_cases here : h = ⟨x, i⟩ <;> simp [holdsOn, here, released]
      omega

end Exchange

/-! ## The refresh start of FSQ (R71) -/

section Refresh

variable {v : FilmView} (p : RearPanel) (showing : Bool) (s : State)

/-- The channels once the panel's channel is presented (R71 step 1). -/
def presentedChannels : PerChannel FilmChannel := (presentAt (p.presents s) s.fsq).1

/-- The hold the engine takes at the refresh start (R54). -/
def refreshHold : Option Hold :=
  if showing then ((presentedChannels p s).get (p.channel s)).shown.map fun i => ⟨p.channel s, i⟩ else none

/-- The channels once the engine's scan hold has moved (R71 step 2). -/
def exchangedChannels : PerChannel FilmChannel := exchangeHolds (p.hold s) (refreshHold p showing s) (presentedChannels p s)

/-- The channels once the fill slots are chosen anew (R71 step 3). -/
def refreshedChannels : PerChannel FilmChannel :=
  standingAt ((refreshHold p showing s).map Hold.channel) (standingAt ((p.hold s).map Hold.channel)
    (standingAt (p.presents s) (exchangedChannels p showing s)))

/-- The state at a refresh start before the presentation is handed on. -/
def refreshedFilm : State :=
  p.setHold (refreshHold p showing s)
    (setChannel .b ((refreshedChannels p showing s).get .b) (setChannel .a ((refreshedChannels p showing s).get .a) s))

theorem filmRefresh_eq :
    filmRefresh p showing s =
      match p.presents s with
      | none => refreshedFilm p showing s
      | some c => handPresented c (presentAt (p.presents s) s.fsq).2 (refreshedFilm p showing s) := rfl

theorem PerChannel.set_both {α : Type} (t u : PerChannel α) : (t.set .a (u.get .a)).set .b (u.get .b) = u := rfl

@[simp] theorem setHold_fsq (hold : Option Hold) (s : State) : (p.setHold hold s).fsq = s.fsq := by cases p <;> rfl

theorem refreshedFilm_fsq : (refreshedFilm p showing s).fsq = refreshedChannels p showing s := by
  rw [refreshedFilm, setHold_fsq, setChannel_fsq, setChannel_fsq, PerChannel.set_both]

theorem presentAt_moves (x : Option Channel) (fsq : PerChannel FilmChannel) (y : Channel) :
    (fsq.get y).Moves ((presentAt x fsq).1.get y) := by
  unfold presentAt
  split
  · exact .refl _
  · rw [PerChannel.get_set]
    split
    · next same => exact same ▸ FilmChannel.presentationStep_moves _
    · exact .refl _

theorem standingAt_moves (x : Option Channel) (fsq : PerChannel FilmChannel) (y : Channel) :
    (fsq.get y).Moves ((standingAt x fsq).get y) := by
  unfold standingAt
  split
  · exact .refl _
  · rw [PerChannel.get_set]
    split
    · next same => exact same ▸ FilmChannel.standing_moves _
    · exact .refl _

/-- The fill slots' choice moves each channel on its own. -/
theorem refreshedChannels_moves (y : Channel) :
    ((exchangedChannels p showing s).get y).Moves ((refreshedChannels p showing s).get y) :=
  ((standingAt_moves _ _ y).trans (standingAt_moves _ _ y)).trans (standingAt_moves _ _ y)

variable {p showing s}

/-- The hold taken is on the SHOWN slot (R54). -/
theorem refreshHold_shown {h : Hold} (takes : refreshHold p showing s = some h) : (h.slotIn (presentedChannels p s)).state = .shown := by
  unfold refreshHold at takes
  split at takes
  · obtain ⟨i, shown, rfl⟩ := Option.map_eq_some_iff.mp takes
    exact FilmChannel.shown_state shown
  · cases takes

theorem refreshedFilm_safe (safe : (filmView s).Safe) : (filmView (refreshedFilm p showing s)).Safe := by
  have channels : SafeChannels s.fsq := fun x => by cases x; exacts [safe.1, safe.2]
  have presented : SafeChannels (presentedChannels p s) := fun x => (presentAt_moves _ _ x).safe (channels x)
  have exchanged : SafeChannels (exchangedChannels p showing s) := exchangeHolds_safe (fun _ => refreshHold_shown) presented
  have refreshed : SafeChannels (refreshedFilm p showing s).fsq := fun x => by
    rw [refreshedFilm_fsq]
    exact (refreshedChannels_moves p showing s x).safe (exchanged x)
  exact ⟨refreshed .a, refreshed .b⟩

theorem refreshedFilm_counted (counted : (filmView s).Counted) : (filmView (refreshedFilm p showing s)).Counted := by
  rw [← setHold_hold p s, counted_setHold] at counted
  rw [refreshedFilm, counted_setHold]
  intro x i
  have presented : ∀ y j, (((presentedChannels p s).get y).slots.get j).scanHolds = holdsOn (p.hold s) y j + holdsOn (p.otherHold s) y j :=
    fun y j => ((presentAt_moves _ _ y).holds j).trans (counted y j)
  have other : ∀ u : State, u.den = s.den → p.otherHold u = p.otherHold s := fun u same => by cases p <;> simp [RearPanel.otherHold, same]
  rw [setChannel_fsq, setChannel_fsq, PerChannel.set_both, (refreshedChannels_moves p showing s x).holds i, other _ (by simp)]
  exact exchangeHolds_counted presented x i

theorem films_filmRefresh (h : v.Moves (filmView s)) (p : RearPanel) (showing : Bool) : v.Moves (filmView (filmRefresh p showing s)) := by
  have refreshed : v.Moves (filmView (refreshedFilm p showing s)) := h.trans ⟨refreshedFilm_safe, refreshedFilm_counted⟩
  rw [filmRefresh_eq]
  split
  · exact refreshed
  · unfold handPresented
    split <;> simp [refreshed]

/-- A refresh start of a rear panel (R52 to R55, R71). -/
theorem films_rearRefresh (h : v.Moves (filmView s)) (p : RearPanel) : v.Moves (filmView (rearRefresh p s)) := by
  simpa [rearRefresh] using films_filmRefresh h p _

/-- A refresh start of C moves no film (R56). -/
theorem films_centreRefresh (h : v.Moves (filmView s)) : v.Moves (filmView (centreRefresh s)) := by
  simp only [centreRefresh]
  split <;> simp [h]

end Refresh

end Sys2Proof.Machine
end

section
/-! What every command can do to the film channels, and the statement of the film slots and their scan holds. -/

namespace Sys2Proof.Machine

/-! ## Commands -/

/-- Every next state of an outcome is a move of the film channels. -/
def MovesFilms (v : FilmView) (o : Host.Outcome State Fault Refusal) : Prop := ∀ t : State, o = .next t → v.Moves (filmView t)

@[simp] theorem movesFilms_next (v : FilmView) (t : State) : MovesFilms v (.next t) ↔ v.Moves (filmView t) :=
  ⟨fun h => h t rfl, fun h _ next => by cases next; exact h⟩

@[simp] theorem movesFilms_fault (v : FilmView) (f : Fault) : MovesFilms v (.fault f) := fun _ h => by cases h

@[simp] theorem movesFilms_refused (v : FilmView) (r : Refusal) : MovesFilms v (.refused r) := fun _ h => by cases h

section Commands

variable {v : FilmView} {s : State}

/-! ### Grants -/

theorem films_beginGrant (h : v.Moves (filmView s)) (port : Port) (kind : GrantKind) (m : Moved) :
    v.Moves (filmView (beginGrant port kind m s)) := films_reportMemoryFor (by simpa using h) port m

theorem movesFilms_grantRead {port : Port} {kind : GrantKind} {r : Req} {granted : State → State}
    (h : v.Moves (filmView (granted s))) : MovesFilms v (grantRead port kind r granted s) := by
  unfold grantRead
  split
  · exact (movesFilms_next _ _).mpr (films_beginGrant h _ _ _)
  · simp

theorem movesFilms_withClaim (h : v.Moves (filmView s)) {c : Claim} {f : Req → Host.Outcome State Fault Refusal}
    (grants : ∀ r, MovesFilms v (f r)) : MovesFilms v (withClaim c s f) := by
  unfold withClaim
  split
  · exact grants _
  · exact (movesFilms_next _ _).mpr h
  · exact (movesFilms_next _ _).mpr h

theorem movesFilms_grantHost (h : v.Moves (filmView s)) (p : HostRequest) : MovesFilms v (grantHost p s) := by
  unfold grantHost
  repeat' split
  · simp [answerTake, h]
  · exact (movesFilms_next _ _).mpr (films_handOn (films_reportMemoryHost (by simpa using h) _ _ _) _ _)
  · simp

theorem movesFilms_grantStatus (h : v.Moves (filmView s)) : MovesFilms v (grantStatus s) := by
  unfold grantStatus
  split
  · exact (movesFilms_next _ _).mpr (films_beginGrant (by simpa using h) _ _ _)
  · exact (movesFilms_next _ _).mpr (films_beginGrant (by simpa using h) _ _ _)
  all_goals exact (movesFilms_next _ _).mpr h

theorem movesFilms_grantCapture (h : v.Moves (filmView s)) (r : Req) : MovesFilms v (grantCapture r s) := by
  simp only [grantCapture]
  repeat' split
  · exact (movesFilms_next _ _).mpr (films_beginGrant (by simpa using h) _ _ _)
  · simp
  · exact (movesFilms_next _ _).mpr (films_beginGrant (by simpa using h) _ _ _)
  · simp

theorem movesFilms_grantTo (h : v.Moves (filmView s)) (port : Port) : MovesFilms v (grantTo port s) := by
  unfold grantTo
  cases port with
  | host =>
    dsimp only
    split
    · exact movesFilms_grantHost h _
    · exact (movesFilms_next _ _).mpr h
  | stw => exact movesFilms_grantStatus h
  | ccp => exact movesFilms_withClaim h (movesFilms_grantCapture h)
  | rqe | lyu | mnu | gdu | denRl | denRr | denC | aop | chu =>
    exact movesFilms_withClaim h fun _ => movesFilms_grantRead (by simpa using h)

theorem movesFilms_execArbiterGrant (s : State) : MovesFilms (filmView s) (execArbiterGrant s) := by
  unfold execArbiterGrant
  split
  · exact movesFilms_grantTo (by simp) _
  all_goals simp

/-! ### The request ring -/

theorem films_dispatchKind (h : v.Moves (filmView s)) {kind : Nat} {e : List Byte} {r : State × Option ResultCode}
    (dispatched : dispatchKind kind e s = some r) : v.Moves (filmView r.1) := by
  unfold dispatchKind at dispatched
  dsimp only at dispatched
  split at dispatched
  case h_2 => cases dispatched; exact films_filmRequest h _ fun x => films_requestFilmPlay h x
  case h_3 => cases dispatched; exact films_filmRequest h _ fun x => films_requestFilmPause h x
  case h_4 => cases dispatched; exact films_filmRequest h _ fun x => films_requestFilmStop h x
  case h_5 => cases dispatched; exact films_filmRequest h _ fun x => films_requestFilmSeek h _ _ _ x
  case h_11 => cases dispatched; exact films_requestViewCamera h _
  case h_18 => cases dispatched
  all_goals
    cases dispatched
    simpa [answered] using h

theorem films_judgeEntry (h : v.Moves (filmView s)) (index : Count) (e : List Byte) : v.Moves (filmView (judgeEntry index e s)) := by
  simp only [judgeEntry]
  repeat' split
  · simp [h]
  · simp [h]
  · next dispatched =>
    have acts := films_dispatchKind (v := v) (by simpa [enterPhase] using h) dispatched
    unfold finishDispatch
    split
    · simpa using acts
    · exact acts
  · exact h

theorem films_entryFetched (h : v.Moves (filmView s)) (beats : List ReadBeat) : v.Moves (filmView (entryFetched beats s)) := by
  simp only [entryFetched]
  repeat' split
  · simp [h]
  · exact films_judgeEntry (by simpa using h) _ _
  · simp [h]

/-! ### The resets -/

theorem movesFilms_execPowerOnReset (s : State) : MovesFilms v (execPowerOnReset s) := by
  rw [execPowerOnReset, movesFilms_next]
  exact ⟨fun _ => (filmSafe_iff _).mp ⟨FilmChannel.safe_reset, FilmChannel.safe_reset⟩, fun _ => (holdsSafe_iff _).mp holdsSafe_reset⟩

theorem movesFilms_execInitEnd (s : State) : MovesFilms (filmView s) (execInitEnd s) := by
  simp only [execInitEnd]
  repeat' split
  · simp
  · simp [enterRunning]
  · exact (movesFilms_next _ _).mpr (films_takeAssertion (by simp [enterRunning]))

theorem movesFilms_execWrstAssert (s : State) : MovesFilms (filmView s) (execWrstAssert s) := by
  simp only [execWrstAssert]
  repeat' split
  · simp
  · exact (movesFilms_next _ _).mpr (films_takeAssertion (by simp))
  all_goals simp

theorem movesFilms_execDrainLimitExpiry (s : State) : MovesFilms (filmView s) (execDrainLimitExpiry s) := by
  unfold execDrainLimitExpiry
  split
  · exact (movesFilms_next _ _).mpr (films_resetNow (.refl _))
  · simp

end Commands

/-- What every command can do to the film channels. -/
theorem exec_movesFilms (c : Instr) (s : State) : MovesFilms (filmView s) (exec c s) := by
  have drains : ∀ u : State, (filmView s).Moves (filmView u) → MovesFilms (filmView s) (.next (checkDrain u)) := fun u moves =>
    (movesFilms_next _ _).mpr (films_checkDrain moves)
  cases c
  case powerOnReset => exact movesFilms_execPowerOnReset s
  case initEnd => exact movesFilms_execInitEnd s
  case arbiterGrant => exact movesFilms_execArbiterGrant s
  case wrstAssert => exact movesFilms_execWrstAssert s
  case drainLimitExpiry => exact movesFilms_execDrainLimitExpiry s
  case revPendingExpiry => exact drains _ (films_qualifyRev (.refl _))
  case holdTimerExpiry => exact drains _ (films_endHold (.refl _))
  case frameStart | line | frameEnd | blockBoundary => exact drains _ (by simp)
  case entryFetchComplete | resultWriteComplete | cameraLineWriteComplete =>
    simp only [exec, execEntryFetchComplete, execResultWriteComplete, execCameraLineWriteComplete]
    split
    · exact drains _ (by simp [films_entryFetched])
    · simp
  case refreshStart p =>
    simp only [exec, execRefreshStart]
    repeat' split
    all_goals simp [films_rearRefresh, films_centreRefresh]
  case memoryCellDisturbance | hostRequestPacket | hostGrantComplete | statusSectionWriteComplete | wrstDeassert | lineDue |
      layoutFetchGrantComplete | validationEnd | lineFetchGrantComplete | descriptorFetchComplete | idleTimerExpiry | revEdge |
      firstFrameDeadlineExpiry | lostTimerExpiry | unknownCameraPacket | staleTimerExpiry | guideListGrantComplete |
      distanceTimerExpiry | clipDirectoryFetchComplete | clipBlockFetchComplete | tonePeriodWrap | audioBlockFetchComplete |
      partTimeTick =>
    simp only [exec, execMemoryCellDisturbance, execHostRequestPacket, execHostGrantComplete, execStatusSectionWriteComplete,
      execWrstDeassert, execLineDue, execLayoutFetchGrantComplete, execValidationEnd, rejectCommit, execLineFetchGrantComplete,
      execDescriptorFetchComplete, execIdleTimerExpiry, execRevEdge, execFirstFrameDeadlineExpiry, execLostTimerExpiry,
      execUnknownCameraPacket, execStaleTimerExpiry, execGuideListGrantComplete, execDistanceTimerExpiry,
      execClipDirectoryFetchComplete, execClipBlockFetchComplete, execTonePeriodWrap, execAudioBlockFetchComplete, execPartTimeTick]
    repeat' split
    all_goals simp

/-! ## The statement -/

/-- Settles O11: the slots and the scan holds are one view of the state, and every command is a move of the view that keeps both. -/
theorem filmSlotsAgree : Obligations.FilmSlotsAgree :=
  ⟨step_keeps (fun _ _ => id) fun c s t safe h => (filmSafe_iff t).mpr ((exec_movesFilms c s t h).safe ((filmSafe_iff s).mp safe)),
    step_keeps (fun _ _ => id) fun c s t safe h => (holdsSafe_iff t).mpr ((exec_movesFilms c s t h).counted ((holdsSafe_iff s).mp safe))⟩

end Sys2Proof.Machine
end

section
/-! SUPPORT. A display engine as its line fetches leave it (R62): what the engine's own work keeps, said once. Then the statement of the lines
due and the grants of line fetches (R62 to R64). -/

namespace Sys2Proof.Machine

/-! ## One engine replaced -/

section Engine

variable {p q : Panel} {d : Den} {s : State}

@[simp] theorem engine_setEngine_same (p : Panel) (d : Den) (s : State) : engine p (setEngine p d s) = d := PerPanel.get_set_same _ _ _

theorem engine_setEngine_other (other : q ≠ p) : engine q (setEngine p d s) = engine q s := PerPanel.get_set_other _ _ other

theorem engine_congr {t : State} (den : t.den = s.den) (p : Panel) : engine p t = engine p s := by rw [engine, engine, den]

theorem setEngine_changesOnly (p : Panel) (d : Den) (s : State) : ChangesOnly [.den] s (setEngine p d s) := fun b hb => by
  cases b <;> first | rfl | exact absurd (by simp) hb

end Engine

/-! ## The engine's own work (R62) -/

/-- What an engine's work on its line fetches keeps: all but the fetch, its claim and the lines that join the buffer. -/
structure Den.Fetches (d e : Den) : Prop where
  timing : e.timing = d.timing
  plan : e.plan = d.plan
  underflow : e.underflow = d.underflow
  held : e.held = d.held
  output : e.output = d.output
  buffer : ∃ more : List BufferedLine, e.buffer = d.buffer ++ more

namespace Den

variable {d e f : Den} {p : Panel}

theorem Fetches.refl (d : Den) : d.Fetches d := ⟨rfl, rfl, rfl, rfl, rfl, [], (List.append_nil _).symm⟩

theorem Fetches.trans (h : d.Fetches e) (k : e.Fetches f) : d.Fetches f := by
  obtain ⟨more, joined⟩ := h.buffer
  obtain ⟨more', joined'⟩ := k.buffer
  exact ⟨k.timing.trans h.timing, k.plan.trans h.plan, k.underflow.trans h.underflow, k.held.trans h.held, k.output.trans h.output,
    more ++ more', by rw [joined', joined, List.append_assoc]⟩

theorem work_fetches (p : Panel) (fuel : Nat) (d : Den) : d.Fetches (d.work p fuel) := by
  induction fuel generalizing d with
  | zero => exact .refl d
  | succ fuel ih =>
    unfold work
    split
    · split
      · refine .trans ?_ (ih _)
        exact ⟨rfl, rfl, rfl, rfl, rfl, _, rfl⟩
      · exact ⟨rfl, rfl, rfl, rfl, rfl, [], (List.append_nil _).symm⟩
      · exact .refl d
    · split
      · split
        · refine .trans ?_ (ih _)
          exact ⟨rfl, rfl, rfl, rfl, rfl, [], (List.append_nil _).symm⟩
        · exact .refl d
      · exact .refl d

theorem kick_fetches (p : Panel) (d : Den) : d.Fetches (d.kick p) := work_fetches p 12 d

/-- With the port free, the next request of the line being fetched is claimed (R62). -/
theorem kick_claims {g : FetchingLine} {r : Req} {rest : List Req} (fetching : d.fetching = some g) (todo : g.todo = r :: rest)
    (idle : d.claim = .idle) : d.kick p = { d with claim := .waiting r } := by
  simp [kick, work, fetching, todo, idle]

/-- A line with nothing left to fetch joins the buffer, with its data and its poison (R62, R64). -/
theorem kick_completes {g : FetchingLine} (fetching : d.fetching = some g) (todo : g.todo = []) :
    (⟨g.line, g.data, g.poison⟩ : BufferedLine) ∈ (d.kick p).buffer := by
  have joins : d.kick p = Den.work p 11 { d with
      buffer := d.buffer ++ [⟨g.line, g.data, g.poison⟩], fetching := none, nextLine := lineAfter p g.line } := by
    rw [kick, work]
    simp only [fetching, todo]
  obtain ⟨more, joined⟩ := (work_fetches p 11 _).buffer
  rw [joins, joined]
  simp

/-- The line that is output in place of a late or poisoned one (R63, R64). -/
theorem repeated_eq (p : Panel) (d : Den) (n : Nat) :
    (n ≠ 0 → d.repeated p n = d.output) ∧ (n = 0 → d.repeated p n = d.plan.fillLine (panelWidth p)) :=
  ⟨fun later => if_neg later, fun first => if_pos first⟩

/-- A late line leaves the lines fetched and the plan (R63). -/
theorem giveUpLine_keeps (p : Panel) (d : Den) (n : Nat) :
    (d.giveUpLine p n).timing = d.timing ∧ (d.giveUpLine p n).plan = d.plan := by
  unfold giveUpLine
  split
  · split <;> exact ⟨rfl, rfl⟩
  · exact ⟨rfl, rfl⟩

/-- The engine after a fetched line is due (R63, R64). -/
theorem outputLine_spec (p : Panel) (d : Den) (b : BufferedLine) :
    (d.outputLine p b).timing = d.timing ∧ (d.outputLine p b).plan = d.plan ∧ (d.outputLine p b).underflow = d.underflow ∧
    (d.outputLine p b).output = (if b.poison then d.repeated p b.line else d.plan.compose (panelWidth p) b.line b.data) ∧
    ∃ more : List BufferedLine, (d.outputLine p b).buffer = d.buffer.filter (fun l => !(l.line == b.line)) ++ more := by
  obtain ⟨timing, plan, underflow, -, output, buffer⟩ := kick_fetches p { d with
    buffer := d.buffer.filter fun l => !(l.line == b.line)
    output := if b.poison then d.repeated p b.line else d.plan.compose (panelWidth p) b.line b.data }
  exact ⟨timing, plan, underflow, output, buffer⟩

/-- The engine after a line is due that is not fetched (R63). -/
theorem late_spec (p : Panel) (d : Den) (n : Nat) :
    (d.late p n).timing = d.timing ∧ (d.late p n).plan = d.plan ∧ (d.late p n).underflow = true ∧
    (d.late p n).output = d.repeated p n := by
  obtain ⟨stands, shows⟩ := giveUpLine_keeps p d n
  obtain ⟨timing, plan, underflow, -, output, -⟩ :=
    kick_fetches p { d.giveUpLine p n with output := d.repeated p n, underflow := true }
  exact ⟨timing.trans stands, plan.trans shows, underflow, output⟩

/-- A grant joins the line being fetched, and the engine works on (R62). -/
theorem lineGrant_eq {beats : List ReadBeat} {g : FetchingLine} {r : Req} {rest : List Req} (claim : d.claim = .granted true)
    (fetching : d.fetching = some g) (todo : g.todo = r :: rest) :
    d.lineGrant p beats = Den.kick p { d with claim := .idle, fetching := some { g with
      data := g.data ++ beatData beats, poison := g.poison || anyPoison beats, todo := rest } } := by
  simp [lineGrant, claim, fetching, todo, Claim.live]

end Den

/-! ## Lines due (R63, R64) -/

section Due

variable {s : State} {p : Panel} {n : Nat}

theorem exec_lineDue_fetched (due : (engine p s).dueLine p = some n) {b : BufferedLine}
    (found : (engine p s).buffer.find? (fun l => l.line == n) = some b) :
    exec (.lineDue p) s = .next (setEngine p (Den.outputLine p { engine p s with timing := .line n } b) s) := by
  simp only [exec, execLineDue, due, found]

theorem exec_lineDue_late (due : (engine p s).dueLine p = some n) (missing : (engine p s).buffer.find? (fun l => l.line == n) = none) :
    exec (.lineDue p) s =
      .next (if (engine p s).underflow then setEngine p (Den.late p { engine p s with timing := .line n } n) s
        else report ⟨.scanUnderflow, panelSource p, .lateLine n, none⟩ (setEngine p (Den.late p { engine p s with timing := .line n } n) s)) := by
  simp only [exec, execLineDue, due, missing]
  split <;> rfl

end Due

/-- Settles O45: a line due is fetched or late, and a grant leaves requests of its line or is the last; what the engine then does on its own
keeps the rest. -/
theorem linesAreFetchedAndOutput : Obligations.LinesAreFetchedAndOutput := by
  refine ⟨fun s p n due => ⟨fun b found => ?_, fun missing => ?_⟩, fun s p beats f r rest busy claim fetching todo => ?_⟩
  · have line : b.line = n := by simpa using List.find?_some found
    obtain ⟨timing, plan, underflow, output, buffer⟩ := Den.outputLine_spec p { engine p s with timing := .line n } b
    obtain ⟨again, fill⟩ := Den.repeated_eq p { engine p s with timing := .line n } n
    rw [line] at output buffer
    refine ⟨_, exec_lineDue_fetched due found, ?_⟩
    simp only [engine_setEngine_same]
    refine ⟨timing, fun clean => ?_, fun poison later => ?_, fun poison first => ?_, buffer, underflow, plan,
      fun q other => engine_setEngine_other other, setEngine_changesOnly _ _ _⟩
    · rw [output, clean, line]; rfl
    · rw [output, poison]; exact again later
    · rw [output, poison]; exact fill first
  · obtain ⟨timing, plan, underflow, output⟩ := Den.late_spec p { engine p s with timing := .line n } n
    obtain ⟨again, fill⟩ := Den.repeated_eq p { engine p s with timing := .line n } n
    refine ⟨_, exec_lineDue_late due missing, ?_⟩
    let t := setEngine p (Den.late p { engine p s with timing := .line n } n) s
    have changes : ChangesOnly [.den] s t := setEngine_changesOnly _ _ _
    have engines : ∀ u : State, u.den = t.den → (engine p u).timing = .line n ∧ (engine p u).underflow = true ∧
        (n ≠ 0 → (engine p u).output = (engine p s).output) ∧
        (n = 0 → (engine p u).output = (engine p s).plan.fillLine (panelWidth p)) ∧
        (engine p u).plan = (engine p s).plan ∧ ∀ q : Panel, q ≠ p → engine q u = engine q s := fun u den => by
      have own : engine p u = _ := (engine_congr den p).trans (engine_setEngine_same _ _ _)
      rw [own]
      exact ⟨timing, underflow, fun later => output.trans (again later), fun first => output.trans (fill first), plan,
        fun q other => (engine_congr den q).trans (engine_setEngine_other other)⟩
    by_cases reported : (engine p s).underflow = true
    · rw [if_pos reported]
      obtain ⟨timing, underflow, later, first, plan, others⟩ := engines t rfl
      exact ⟨timing, underflow, later, first, plan, others, fun _ => changes, fun unreported => by rw [reported] at unreported; cases unreported⟩
    · rw [if_neg reported]
      obtain ⟨timing, underflow, later, first, plan, others⟩ := engines _ (report_den t _)
      exact ⟨timing, underflow, later, first, plan, others, fun other => absurd other reported,
        fun _ => ⟨(ReportsBeside.of_changesOnly changes).trans (.of_reports (report_changesOnly _ _)), report_flt_congr _ rfl rfl⟩⟩
  · have granted := Den.lineGrant_eq (p := p) (beats := beats) claim fetching todo
    obtain ⟨-, plan, -, -, output, -⟩ := Den.kick_fetches p { engine p s with claim := .idle, fetching := some { f with
      data := f.data ++ beatData beats, poison := f.poison || anyPoison beats, todo := rest } }
    rw [← granted] at plan output
    refine ⟨setEngine p ((engine p s).lineGrant p beats) (freeFmc s), by simp only [exec, execLineFetchGrantComplete, busy], rfl,
      fun q more waits => ?_, fun last => ?_, ?_⟩
    · rw [engine_setEngine_same, granted, Den.kick_claims rfl waits rfl]
      exact ⟨rfl, rfl, rfl⟩
    · rw [engine_setEngine_same, granted]
      exact Den.kick_completes
        (g := { f with data := f.data ++ beatData beats, poison := f.poison || anyPoison beats, todo := rest }) rfl last
    · rw [engine_setEngine_same]
      refine ⟨plan, output, fun q other => engine_setEngine_other other, fun b hb => ?_⟩
      cases b <;> first | rfl | exact absurd (by simp) hb

end Sys2Proof.Machine
end

section
/-! SUPPORT. What a refresh plan shows of menus (R60, R102, R104), and what FSQ's event leaves at a rear refresh start: the SHOWN slots, the
hold record and the other blocks (R53, R54, R71). Then the statement of the rear refresh start. -/

namespace Sys2Proof.Machine

/-! ## Menus and notices in a plan -/

/-- A plan with MNU's answers for a panel shows the menu page of a VALID top cache that the panel may show (R60, R102, R104). -/
theorem showsMenu_of_answers {p : Panel} {view : View} {u : State} {plan : Plan} {may : Descriptor → Prop}
    (allowed : ∀ d, may d ↔ pageAllowed p view d = true) (menu : plan.menu = menuPageAnswer p view u)
    (elapsed : plan.elapsed = elapsedAnswer plan.menu u) : ShowsMenu may (menuPanel p u).top u.lyu.committed u.fsq plan := by
  refine ⟨fun d top ok => ?_, fun barred => ?_⟩
  · have shows : plan.menu = some ⟨d, planeAddress d u⟩ := by
      rw [menu, menuPageAnswer, top]
      exact if_pos ((allowed d).mp ok)
    rw [elapsed, shows]
    refine ⟨rfl, fun unread => ?_, fun x dx dy time reads now => ?_⟩
    · simp only [elapsedAnswer, unread]
    · simp only [elapsedAnswer, reads, now]
      rfl
  · have hides : plan.menu = none := by
      rw [menu, menuPageAnswer]
      split
      · next d top => exact if_neg fun ok => barred d top ((allowed d).mpr ok)
      · rfl
      · rfl
    rw [elapsed, hides]
    exact ⟨rfl, rfl⟩

/-- A notice is answered from its cache and the committed layout (R103). -/
theorem noticeAnswer_congr {u s : State} (cache : NoticeCache) (lyu : u.lyu = s.lyu) : noticeAnswer cache u = noticeAnswer cache s := by
  unfold noticeAnswer
  split <;> simp only [planeAddress, menuStore, lyu]

/-! ## The engine begins a refresh (R52, R62, R63) -/

theorem Den.begin_spec (p : Panel) (plan : Plan) (d : Den) :
    (d.begin p plan).timing = .blanking ∧ (d.begin p plan).underflow = false ∧ (d.begin p plan).plan = plan ∧
    (d.begin p plan).held = d.held := by
  obtain ⟨timing, shows, underflow, held, -, -⟩ := Den.kick_fetches p { d with
    timing := .blanking, plan := plan, buffer := [], fetching := none, nextLine := some 0, claim := d.claim.giveUp, underflow := false }
  exact ⟨timing, underflow, shows, held⟩

/-! ## The SHOWN slot of a record -/

namespace FilmChannel

variable {r q : FilmChannel}

theorem shown_congr (h : ∀ i : Fin 3, (q.slots.get i).state = .shown ↔ (r.slots.get i).state = .shown) : q.shown = r.shown :=
  PerSlot.lowest_congr fun i => decide_eq_decide.mpr (h i)

@[simp] theorem standing_shown (r : FilmChannel) : r.standing.shown = r.shown := by
  unfold standing
  split
  · split
    · next i lowest =>
      refine shown_congr fun j => ?_
      rw [fillWith, PerSlot.get_set]
      split
      · next here => simp [here, lowestFree_state lowest]
      · rfl
    · rfl
  · rfl

@[simp] theorem pause_shown (r : FilmChannel) : r.pause.shown = r.shown := by rw [shown, r.pause_keeps.2.2, shown]

end FilmChannel

@[simp] theorem report_shown (r : Report) (x : Channel) (s : State) : ((report r s).fsq.get x).shown = (s.fsq.get x).shown := by
  rcases report_channel r x s with same | paused
  · rw [same]
  · rw [paused, FilmChannel.standing_shown, FilmChannel.pause_shown]

/-- A release leaves a slot SHOWN, and makes none SHOWN (R77). -/
theorem Slot.release_shown (t : Slot) : t.release.state = .shown ↔ t.state = .shown := by
  rcases t.release_state with same | ⟨retired, free⟩
  · rw [same]
  · simp [retired, free]

/-- The exchange of scan holds leaves the SHOWN slots (R77). -/
theorem exchangeHolds_shown (old new : Option Hold) (fsq : PerChannel FilmChannel) (x : Channel) :
    ((exchangeHolds old new fsq).get x).shown = (fsq.get x).shown := by
  have released : ∀ i, (((releasedHolds old fsq).get x).slots.get i).state = .shown ↔ ((fsq.get x).slots.get i).state = .shown := fun i => by
    cases old with
    | none => rfl
    | some h =>
      rw [releasedHolds, releaseHold_slot]
      split
      · exact Slot.release_shown _
      · rfl
  rw [exchangeHolds_eq]
  split
  · rfl
  · cases new with
    | none => exact FilmChannel.shown_congr released
    | some h =>
      refine FilmChannel.shown_congr fun i => .trans ?_ (released i)
      dsimp only
      rw [takeHold_slot]
      split <;> rfl

@[simp] theorem standingAt_shown (x : Option Channel) (fsq : PerChannel FilmChannel) (y : Channel) :
    ((standingAt x fsq).get y).shown = (fsq.get y).shown := by
  unfold standingAt
  split
  · rfl
  · rw [PerChannel.get_set]
    split
    · next same => rw [same, FilmChannel.standing_shown]
    · rfl

/-! ## FSQ's event as the engine finds it (R53, R54, R71) -/

section Refresh

variable (p : RearPanel) (showing : Bool) (s : State)

/-- Once a panel's channel is presented, the rest of FSQ's event leaves the SHOWN slots. -/
theorem filmRefresh_shown (x : Channel) : ((filmRefresh p showing s).fsq.get x).shown = ((presentedChannels p s).get x).shown := by
  have refreshed : ((refreshedFilm p showing s).fsq.get x).shown = ((presentedChannels p s).get x).shown := by
    rw [refreshedFilm_fsq, refreshedChannels]
    simp [exchangedChannels, exchangeHolds_shown]
  rw [filmRefresh_eq]
  split
  · exact refreshed
  · unfold handPresented
    split <;> simp [reportPlain, refreshed]

/-- What the presentation hands on leaves the display engines. -/
theorem filmRefresh_den : (filmRefresh p showing s).den = (refreshedFilm p showing s).den := by
  rw [filmRefresh_eq]
  split
  · rfl
  · unfold handPresented
    split <;> simp

/-- The hold record is the hold that the refresh takes (R54). -/
theorem filmRefresh_hold : p.hold (filmRefresh p showing s) = refreshHold p showing s := by
  have same : p.hold (filmRefresh p showing s) = p.hold (refreshedFilm p showing s) := by
    cases p <;> simp only [RearPanel.hold, filmRefresh_den]
  rw [same, refreshedFilm]
  cases p <;> rfl

/-- FSQ's event leaves the engines. -/
theorem filmRefresh_engine (q : Panel) : engine q (filmRefresh p showing s) = engine q s := by
  rw [engine, filmRefresh_den, refreshedFilm]
  cases p <;> simp [RearPanel.setHold, engine]

theorem setHold_changesOnly (hold : Option Hold) : ChangesOnly [.den] s (p.setHold hold s) := fun b hb => by
  cases p <;> cases b <;> first | rfl | exact absurd (by simp) hb

theorem filmRefresh_changesOnly : ChangesOnly [.den, .fsq, .stw, .flt, .chu] s (filmRefresh p showing s) := by
  have refreshed : ChangesOnly [.den, .fsq, .stw, .flt, .chu] s (refreshedFilm p showing s) :=
    (((setChannel_changesOnly _ _ _).mono (by simp)).trans ((setChannel_changesOnly _ _ _).mono (by simp))).trans
      ((setHold_changesOnly _ _ _).mono (by simp))
  rw [filmRefresh_eq]
  split
  · exact refreshed
  · unfold handPresented
    split
    · exact refreshed
    · exact refreshed.trans ((report_changesOnly _ _).mono (by simp))
    · exact refreshed.trans ((works_raiseCause _ _).only.mono (by simp))

/-! ## The rear refresh start (R52 to R55) -/

/-- The state in which a rear engine builds its plan: FSQ has taken the event. -/
def rearFilmed : State := filmRefresh p (!(engine p.panel s).held && !s.flt.degraded) s

theorem rearFilmed_blocks : (rearFilmed p s).lyu = s.lyu ∧ (rearFilmed p s).mnu = s.mnu ∧ (rearFilmed p s).rvc = s.rvc :=
  have same := filmRefresh_changesOnly p (!(engine p.panel s).held && !s.flt.degraded) s
  ⟨same .lyu (by decide), same .mnu (by decide), same .rvc (by decide)⟩

/-- The plan that a rear engine builds (R53, R55, R60, R65). -/
def rearBuilt : Plan := rearPlan p (engine p.panel s).held s.flt.degraded (rearFilmed p s)

theorem rearRefresh_eq :
    rearRefresh p s =
      aopKick (setEngine p.panel ((engine p.panel (rearFilmed p s)).begin p.panel (rearBuilt p s)) (rearFilmed p s)) := rfl

theorem exec_refreshStart_rear (comes : (engine p.panel s).refreshComes p.panel = true) :
    exec (.refreshStart p.panel) s = .next (rearRefresh p s) := by
  simp only [exec, execRefreshStart, comes, if_true]
  cases p <;> rfl

theorem rearRefresh_den : (rearRefresh p s).den =
    (setEngine p.panel ((engine p.panel (rearFilmed p s)).begin p.panel (rearBuilt p s)) (rearFilmed p s)).den := by
  rw [rearRefresh_eq]
  exact aopKick_changesOnly _ .den (by decide)

theorem rearRefresh_fsq : (rearRefresh p s).fsq = (rearFilmed p s).fsq := by
  rw [rearRefresh_eq]
  exact aopKick_changesOnly _ .fsq (by decide)

theorem rearRefresh_hold : p.hold (rearRefresh p s) = p.hold (rearFilmed p s) := by
  cases p <;> simp only [RearPanel.hold, rearRefresh_den] <;> rfl

theorem rearRefresh_engine : engine p.panel (rearRefresh p s) = (engine p.panel (rearFilmed p s)).begin p.panel (rearBuilt p s) := by
  rw [engine_congr (rearRefresh_den p s), engine_setEngine_same]

theorem rearRefresh_engine_other {q : Panel} (other : q ≠ p.panel) : engine q (rearRefresh p s) = engine q s := by
  rw [engine_congr (rearRefresh_den p s), engine_setEngine_other other]
  exact filmRefresh_engine _ _ _ _

theorem rearRefresh_changesOnly : ChangesOnly [.den, .fsq, .stw, .flt, .chu, .aop] s (rearRefresh p s) := by
  rw [rearRefresh_eq]
  exact (((filmRefresh_changesOnly _ _ _).mono (by simp)).trans ((setEngine_changesOnly _ _ _).mono (by simp))).trans
    ((aopKick_changesOnly _).mono (by simp))

variable {p s}

/-- An engine that may not show film takes no hold (R54, R55, R65). -/
theorem rearFilmed_unheld (hides : (engine p.panel s).held = true ∨ s.flt.degraded = true) : p.hold (rearFilmed p s) = none := by
  have showing : (!(engine p.panel s).held && !s.flt.degraded) = false := by rcases hides with h | h <;> simp [h]
  rw [rearFilmed, filmRefresh_hold, refreshHold, showing]
  rfl

/-- A free engine of a part that is not DEGRADED takes a hold on the SHOWN slot of its channel (R54). -/
theorem rearFilmed_hold (free : (engine p.panel s).held = false) (calm : s.flt.degraded = false) :
    p.hold (rearFilmed p s) = ((rearFilmed p s).fsq.get (p.channel s)).shown.map fun i => ⟨p.channel s, i⟩ := by
  rw [rearFilmed, filmRefresh_hold, filmRefresh_shown, refreshHold, free, calm]
  rfl

/-- The parts of a rear plan that do not depend on what is shown (R53, R65). -/
theorem rearBuilt_frame : (rearBuilt p s).fill = s.lyu.committed.background.get p.panel ∧ (rearBuilt p s).guide = none ∧
    (rearBuilt p s).distance = none := by
  have lyu := (rearFilmed_blocks p s).1
  unfold rearBuilt rearPlan
  dsimp only
  repeat' split
  all_goals exact ⟨by rw [← lyu]; rfl, rfl, rfl⟩

theorem rearBuilt_held (held : (engine p.panel s).held = true) :
    rearBuilt p s = Plan.fillOnly (s.lyu.committed.background.get p.panel) := by
  rw [rearBuilt, rearPlan, held, background, (rearFilmed_blocks p s).1]
  rfl

theorem rearBuilt_degraded (free : (engine p.panel s).held = false) (degraded : s.flt.degraded = true) :
    (rearBuilt p s).base = .none ∧ (rearBuilt p s).menu = none ∧ (rearBuilt p s).elapsed = none ∧
    (rearBuilt p s).notice = noticeAnswer s.mnu.service s := by
  obtain ⟨lyu, mnu, -⟩ := rearFilmed_blocks p s
  rw [rearBuilt, rearPlan, free, degraded, mnu, noticeAnswer_congr _ lyu]
  exact ⟨rfl, rfl, rfl, rfl⟩

/-- The FILM base follows the hold record, and a VALID top cache gives the menu page (R53, R60). -/
theorem rearBuilt_free (free : (engine p.panel s).held = false) (calm : s.flt.degraded = false) :
    (rearBuilt p s).notice = none ∧ (rearBuilt p s).base = filmBase (p.hold (rearFilmed p s)) (rearFilmed p s) ∧
    ShowsMenu (fun _ => True) (menuPanel p.panel s).top s.lyu.committed (rearFilmed p s).fsq (rearBuilt p s) := by
  obtain ⟨lyu, mnu, -⟩ := rearFilmed_blocks p s
  have allowed : ∀ d : Descriptor, True ↔ pageAllowed p.panel (rearFilmed p s).rvc.view d = true := fun d => by
    cases p <;> simp [pageAllowed, RearPanel.panel]
  have built : rearBuilt p s = rearPlan p false false (rearFilmed p s) := by rw [rearBuilt, free, calm]
  have shows := showsMenu_of_answers (u := rearFilmed p s) (plan := rearBuilt p s) allowed (by rw [built]; rfl) (by rw [built]; rfl)
  rw [menuPanel, mnu, lyu] at shows
  exact ⟨by rw [built]; rfl, by rw [built]; rfl, shows⟩

end Refresh

/-- Settles O42: the engine's plan is built in the state that FSQ's event leaves, where the hold record names the SHOWN slot. -/
theorem rearRefreshBuildsItsPlan : Obligations.RearRefreshBuildsItsPlan := by
  intro s p comes
  obtain ⟨timing, underflow, plan, -⟩ := Den.begin_spec p.panel (rearBuilt p s) (engine p.panel (rearFilmed p s))
  obtain ⟨fill, guide, distance⟩ := rearBuilt_frame (p := p) (s := s)
  refine ⟨rearRefresh p s, exec_refreshStart_rear p s comes, ?_⟩
  rw [rearRefresh_engine, rearRefresh_hold, rearRefresh_fsq, plan]
  refine ⟨timing, underflow, fill, guide, distance, fun held => ⟨rearFilmed_unheld (.inl held), rearBuilt_held held⟩,
    fun free degraded => ⟨rearFilmed_unheld (.inr degraded), rearBuilt_degraded free degraded⟩, fun free calm => ?_,
    fun q other => rearRefresh_engine_other p s other, rearRefresh_changesOnly p s⟩
  obtain ⟨notice, base, menu⟩ := rearBuilt_free free calm
  have hold := rearFilmed_hold free calm
  refine ⟨notice, hold, fun i shown => ?_, fun unseen => ?_, menu⟩
  · rw [base, hold, shown]
    simp only [Option.map_some, filmBase, filmSlotAddress, (rearFilmed_blocks p s).1]
    rfl
  · rw [base, hold, unseen]
    rfl

end Sys2Proof.Machine
end

section
/-! SUPPORT. The refresh start of C (R56 to R60, R134): GDU's switch to the staged bank, the pin exchange, and the plan's row by the view and
the camera health. Then its statement. -/

namespace Sys2Proof.Machine

/-! ## GDU's switch (R134) -/

section Switch

/-- GDU's next claim leaves its banks and its caches (R135). -/
theorem Gdu.kick_keeps (l : Layout) (g : Gdu) :
    (g.kick l).liveBank = g.liveBank ∧ (g.kick l).stagedBank = g.stagedBank ∧ (g.kick l).staticCache = g.staticCache ∧
    (g.kick l).bucketCache = g.bucketCache := by
  unfold Gdu.kick
  repeat' split
  all_goals exact ⟨rfl, rfl, rfl, rfl⟩

/-- The stale report leaves GDU's banks and its caches (R131). -/
theorem staleCheck_keeps (s : State) :
    (staleCheck s).gdu.liveBank = s.gdu.liveBank ∧ (staleCheck s).gdu.stagedBank = s.gdu.stagedBank ∧
    (staleCheck s).gdu.staticCache = s.gdu.staticCache ∧ (staleCheck s).gdu.bucketCache = s.gdu.bucketCache := by
  unfold staleCheck
  split
  · rw [reportPlain_gdu]
    exact ⟨rfl, rfl, rfl, rfl⟩
  · exact ⟨rfl, rfl, rfl, rfl⟩

variable {s : State}

/-- A staged bank becomes live, and WDC is told so; both caches are empty (R11, R134). -/
theorem guideSwitch_staged {bank : Bank} (staged : s.gdu.stagedBank = some bank) :
    (guideSwitch s).gdu.liveBank = some bank ∧ (guideSwitch s).gdu.stagedBank = none ∧ (guideSwitch s).wdc.liveBank = some bank ∧
    (guideSwitch s).gdu.staticCache = .absent ∧ (guideSwitch s).gdu.bucketCache = .absent := by
  let g : Gdu := { s.gdu with liveBank := some bank, stagedBank := none, staticCache := .absent, bucketCache := .absent }
  have switch : guideSwitch s = staleCheck (markDirty .s3 (setGdu (g.giveUp.kick s.lyu.committed) s)) := by
    simp only [guideSwitch, staged]
    rfl
  obtain ⟨live, unstaged, static, bucket⟩ := staleCheck_keeps (markDirty .s3 (setGdu (g.giveUp.kick s.lyu.committed) s))
  obtain ⟨live', unstaged', static', bucket'⟩ := Gdu.kick_keeps s.lyu.committed g.giveUp
  obtain ⟨-, live'', unstaged'', static'', bucket'', -⟩ := g.giveUp_keeps
  have told : (guideSwitch s).wdc = (markDirty .s3 (setGdu (g.giveUp.kick s.lyu.committed) s)).wdc := by
    rw [switch]
    exact (works_staleCheck _).only .wdc (by decide)
  rw [told, switch, live, unstaged, static, bucket]
  simp only [markDirty_gdu, markDirty_wdc, setGdu_gdu, setGdu_wdc]
  rw [live', unstaged', static', bucket', live'', unstaged'', static'', bucket'']
  exact ⟨rfl, rfl, rfl, rfl, rfl⟩

theorem guideSwitch_unstaged (unstaged : s.gdu.stagedBank = none) : guideSwitch s = s := by simp only [guideSwitch, unstaged]

theorem guideSwitch_changesOnly (s : State) : ChangesOnly [.gdu, .wdc, .stw, .flt, .fsq, .chu] s (guideSwitch s) := by
  unfold guideSwitch
  split
  · exact .refl _ s
  · exact ((((works_setGdu s _).seq (works_markDirty _ _) (blocks := [.gdu, .wdc, .stw])).seq (works_staleCheck _)
      (blocks := [.gdu, .wdc, .stw, .flt, .fsq, .chu]))).only

end Switch

/-! ## The pin (R58, R124) -/

section Pin

variable (move : Bool) (s : State)

theorem exchangePin_ccp : (exchangePin move s).ccp = { s.ccp with pinned := if move then s.ccp.latest else none } := by
  simp only [exchangePin]
  split
  · next stays =>
    rw [Ccp.exchangePin] at stays
    rw [← stays]
  · rfl

theorem exchangePin_changesOnly : ChangesOnly [.ccp, .stw] s (exchangePin move s) := by
  simp only [exchangePin]
  split
  · exact .refl _ s
  · exact ((works_setCcp s _).seq (works_markDirty _ _) (blocks := [.ccp, .stw])).only

theorem pinExchange_ccp : (pinExchange move s).ccp = { s.ccp with pinned := if move then s.ccp.latest else none } := exchangePin_ccp move s

/-- The pin record names the slot that CCP pins (R58). -/
theorem pinExchange_den : (pinExchange move s).den = { s.den with pin := if move then s.ccp.latest else none } := by
  have den : (exchangePin move s).den = s.den := exchangePin_changesOnly move s .den (by decide)
  rw [pinExchange, den, exchangePin_ccp]

theorem pinExchange_changesOnly : ChangesOnly [.den, .ccp, .stw] s (pinExchange move s) :=
  ((exchangePin_changesOnly move s).mono (by simp)).trans fun b hb => by
    cases b <;> first | rfl | exact absurd (by simp) hb

end Pin

/-! ## The answers that a GOOD row takes (R59, R105, R138) -/

/-- GDU's answer draws the lists that its caches hold (R59, R138). -/
theorem guideAnswer_draws (s : State) : DrawsLists s.gdu s.lyu.committed.palette (some (guideAnswer s)) := by
  refine ⟨guideAnswer s, rfl, rfl, fun l static => ?_, fun static => ?_, fun l bucket fresh => ?_, fun unfit => ?_⟩
  · simp only [guideAnswer, static]
  · simp only [guideAnswer]
    split
    · next l valid => exact absurd valid (static l)
    · rfl
    · rfl
  · simp only [guideAnswer, bucket, fresh, and_self, if_true]
  · simp only [guideAnswer]
    split
    · next k l valid =>
      refine if_neg fun ⟨wanted, fresh⟩ => ?_
      rw [wanted] at valid
      exact unfit.elim (fun other => other l valid) fun stale => stale fresh
    · rfl
    · rfl

/-- The glyphs of a distance readout are those that R105 names. -/
theorem distanceGlyphs_of_shown {r : Readout} {glyphs : Option (List Nat)} (h : GlyphsShown r glyphs) : distanceGlyphs r = glyphs := by
  obtain ⟨none, fault, clear, distance⟩ := h
  cases r with
  | none => exact (none rfl).symm
  | fault => exact (fault rfl).symm
  | clear => exact (clear rfl).symm
  | distance d =>
    obtain ⟨far, near, close⟩ := distance d rfl
    simp only [distanceGlyphs]
    split
    · next h => exact (far h).symm
    · split
      · next low h => exact (near h (by omega)).symm
      · next low h => exact (close (by omega)).symm

section Distance

variable {s : State}

/-- No distance readout is drawn by the default layout, or without park settings (R105). -/
theorem distanceAnswer_none (h : s.lyu.source = .default ∨ s.lyu.committed.park = none) : distanceAnswer s = none := by
  unfold distanceAnswer
  split
  · next host park _ => rcases h with source | unset <;> simp_all
  · rfl

/-- The readout's glyphs at the place the park settings give (R105). -/
theorem distanceAnswer_host {k : ParkSettings} {glyphs : Option (List Nat)} (host : s.lyu.source = .host)
    (park : s.lyu.committed.park = some k) (shown : GlyphsShown s.pdu.readout glyphs) :
    distanceAnswer s = glyphs.map fun g => ⟨g, k.readoutX, k.readoutY, rowBase s.lyu.committed.map.glyphs⟩ := by
  unfold distanceAnswer
  rw [host, park, distanceGlyphs_of_shown shown]
  cases glyphs <;> rfl

end Distance

/-! ## The rows (R57) -/

section Rows

variable {s : State}

theorem centreRow_normal (view : s.rvc.view = .normal) :
    centreRow s = (pinExchange false s,
      { centrePlan (pinExchange false s).lyu.committed.background.c (pinExchange false s) with base := uiBase (pinExchange false s) }) := by
  simp only [centreRow, view]

theorem centreRow_awaiting (view : s.rvc.view ≠ .normal) (health : s.rvc.health = .awaiting) :
    centreRow s = (pinExchange false s, centrePlan (pinExchange false s).lyu.committed.barColour (pinExchange false s)) := by
  unfold centreRow
  split <;> first | exact absurd ‹_› view | simp_all

theorem centreRow_good (view : s.rvc.view ≠ .normal) (health : s.rvc.health = .good) :
    centreRow s = (pinExchange true s, goodPlan (pinExchange true s)) := by
  unfold centreRow
  split <;> first | exact absurd ‹_› view | simp_all

theorem centreRow_lost (view : s.rvc.view ≠ .normal) (health : s.rvc.health = .lost) :
    centreRow s = (pinExchange false s,
      { centrePlan (pinExchange false s).lyu.committed.barColour (pinExchange false s) with
        notice := noticeAnswer (pinExchange false s).mnu.cameraLost (pinExchange false s) }) := by
  unfold centreRow
  split <;> first | exact absurd ‹_› view | simp_all

/-- Every row exchanges the pin, and nothing else. -/
theorem centreRow_pins (s : State) : ∃ move : Bool, (centreRow s).1 = pinExchange move s := by
  unfold centreRow
  split <;> exact ⟨_, rfl⟩

/-- The GOOD row shows the menu page, with a latest slot or without one. -/
theorem goodPlan_menu (s : State) :
    (goodPlan s).menu = menuPageAnswer .c s.rvc.view s ∧ (goodPlan s).elapsed = elapsedAnswer (goodPlan s).menu s := by
  unfold goodPlan
  dsimp only
  split <;> exact ⟨rfl, rfl⟩

/-- Every row shows the menu page (R57, R60). -/
theorem centreRow_menu (s : State) :
    (centreRow s).2.menu = menuPageAnswer .c (centreRow s).1.rvc.view (centreRow s).1 ∧
    (centreRow s).2.elapsed = elapsedAnswer (centreRow s).2.menu (centreRow s).1 := by
  by_cases view : s.rvc.view = .normal
  · rw [centreRow_normal view]
    exact ⟨rfl, rfl⟩
  · cases health : s.rvc.health with
    | good =>
      rw [centreRow_good view health]
      exact goodPlan_menu _
    | awaiting =>
      rw [centreRow_awaiting view health]
      exact ⟨rfl, rfl⟩
    | lost =>
      rw [centreRow_lost view health]
      exact ⟨rfl, rfl⟩

/-- The GOOD row with a pinned slot (R57, R58). -/
theorem goodPlan_pinned {i : Fin 4} (pin : s.den.pin = some i) :
    (goodPlan s).base = .camera i (rowBase s.lyu.committed.map.camera + 1843200 * i.val) ∧ (goodPlan s).guide = some (guideAnswer s) ∧
    (goodPlan s).distance = distanceFor s.rvc.view s := by
  unfold goodPlan
  rw [pin]
  exact ⟨rfl, rfl, rfl⟩

/-- Without a latest slot the GOOD row is the AWAITING row (R57). -/
theorem goodPlan_unpinned (pin : s.den.pin = none) : goodPlan s = centrePlan s.lyu.committed.barColour s := by
  simp only [goodPlan, pin]

theorem goodPlan_frame (s : State) : (goodPlan s).fill = s.lyu.committed.barColour ∧ (goodPlan s).notice = none := by
  unfold goodPlan
  dsimp only
  split <;> exact ⟨rfl, rfl⟩

end Rows

/-! ## The refresh start of C (R52, R56 to R60, R65) -/

section Refresh

variable (s : State)

/-- The state once the UI base and the staged bank have become current (R56, R134). -/
def centreSwitched : State := guideSwitch { s with den := { s.den with uiCurrent := s.den.uiPending } }

/-- The state in which C builds its plan. -/
def centrePinned : State := (centreRow (centreSwitched s)).1

theorem centreRefresh_free (free : (engine .c s).held = false) :
    centreRefresh s =
      setEngine .c ((engine .c (centrePinned s)).begin .c (centreRow (centreSwitched s)).2) (centrePinned s) := by
  simp only [centreRefresh, free, Bool.false_eq_true, if_false]
  rfl

theorem exec_refreshStart_centre (comes : (engine .c s).refreshComes .c = true) :
    exec (.refreshStart .c) s = .next (centreRefresh s) := by
  simp only [exec, execRefreshStart, comes, if_true]

theorem centreSwitched_den : (centreSwitched s).den = { s.den with uiCurrent := s.den.uiPending } :=
  guideSwitch_changesOnly _ .den (by decide)

/-- What the switch leaves alone. -/
theorem centreSwitched_changesOnly : ChangesOnly [.den, .gdu, .wdc, .stw, .flt, .fsq, .chu] s (centreSwitched s) := by
  have moved : ChangesOnly [.den, .gdu, .wdc, .stw, .flt, .fsq, .chu] s { s with den := { s.den with uiCurrent := s.den.uiPending } } :=
    fun b hb => by cases b <;> first | rfl | exact absurd (by simp) hb
  exact moved.trans ((guideSwitch_changesOnly _).mono (by simp))

theorem centrePinned_changesOnly : ChangesOnly [.den, .ccp, .stw] (centreSwitched s) (centrePinned s) := by
  obtain ⟨move, pins⟩ := centreRow_pins (centreSwitched s)
  rw [centrePinned, pins]
  exact pinExchange_changesOnly _ _

/-- The blocks that the plan reads are those of before the event. -/
theorem centrePinned_blocks : (centrePinned s).lyu = s.lyu ∧ (centrePinned s).mnu = s.mnu ∧ (centrePinned s).rvc = s.rvc ∧
    (centrePinned s).pdu = s.pdu ∧ (centrePinned s).gdu = (centreSwitched s).gdu ∧ (centrePinned s).wdc = (centreSwitched s).wdc :=
  have switched := centreSwitched_changesOnly s
  have pinned := centrePinned_changesOnly s
  ⟨(pinned .lyu (by decide)).trans (switched .lyu (by decide)), (pinned .mnu (by decide)).trans (switched .mnu (by decide)),
    (pinned .rvc (by decide)).trans (switched .rvc (by decide)), (pinned .pdu (by decide)).trans (switched .pdu (by decide)),
    pinned .gdu (by decide), pinned .wdc (by decide)⟩

/-- The UI bases and the pin record of the state in which the plan is built (R56, R58). -/
theorem centrePinned_den : (centrePinned s).den.uiCurrent = s.den.uiPending ∧ (centrePinned s).den.uiPending = s.den.uiPending ∧
    (centrePinned s).den.pin = (centrePinned s).ccp.pinned := by
  obtain ⟨move, pins⟩ := centreRow_pins (centreSwitched s)
  rw [centrePinned, pins, pinExchange_den, pinExchange_ccp, centreSwitched_den]
  exact ⟨rfl, rfl, rfl⟩

/-- The view, the health and the latest slot by which the row is taken. -/
theorem centreSwitched_row : (centreSwitched s).rvc = s.rvc ∧ (centreSwitched s).ccp = s.ccp :=
  have switched := centreSwitched_changesOnly s
  ⟨switched .rvc (by decide), switched .ccp (by decide)⟩

/-- A rule's state at the refresh start, once GDU has switched (R134). -/
theorem centreSwitched_guide :
    (∀ b : Bank, s.gdu.stagedBank = some b → (centreSwitched s).gdu.liveBank = some b ∧ (centreSwitched s).gdu.stagedBank = none ∧
      (centreSwitched s).wdc.liveBank = some b ∧ (centreSwitched s).gdu.staticCache = .absent ∧
      (centreSwitched s).gdu.bucketCache = .absent) ∧
    (s.gdu.stagedBank = none → (centreSwitched s).gdu = s.gdu) := by
  refine ⟨fun b staged => guideSwitch_staged (s := { s with den := { s.den with uiCurrent := s.den.uiPending } }) staged, fun unstaged => ?_⟩
  rw [centreSwitched, guideSwitch_unstaged (s := { s with den := { s.den with uiCurrent := s.den.uiPending } }) unstaged]

theorem centreRow_showsMenu :
    ShowsMenu (fun d => s.rvc.view = .normal ∨ d.reverseOk = true) (menuPanel .c s).top s.lyu.committed (centrePinned s).fsq
      (centreRow (centreSwitched s)).2 := by
  obtain ⟨lyu, mnu, rvc, -⟩ := centrePinned_blocks s
  obtain ⟨menu, elapsed⟩ := centreRow_menu (centreSwitched s)
  have shows := showsMenu_of_answers (p := .c) (view := (centrePinned s).rvc.view) (u := centrePinned s)
    (may := fun d => s.rvc.view = .normal ∨ d.reverseOk = true) (fun d => by simp [pageAllowed, rvc]) menu elapsed
  rw [menuPanel, mnu, lyu] at shows
  exact shows

variable {s}

/-- The row of the NORMAL view: the UI base on the background, and no pin (R57). -/
theorem centreRow_inNormal (view : s.rvc.view = .normal) {plan : Plan} (built : plan = (centreRow (centreSwitched s)).2) :
    (centrePinned s).ccp.pinned = none ∧ plan.fill = s.lyu.committed.background.c ∧ plan.notice = none ∧ plan.guide = none ∧
    plan.distance = none ∧ (s.den.uiPending = none → plan.base = .none) ∧
    ∀ page : Nat, s.den.uiPending = some page → plan.base = .ui (4096 * page) := by
  have row := centreRow_normal ((congrArg Rvc.view (centreSwitched_row s).1).trans view)
  have pinned : centrePinned s = pinExchange false (centreSwitched s) := congrArg Prod.fst row
  obtain ⟨current, -, -⟩ := centrePinned_den s
  have lyu := (centrePinned_blocks s).1
  rw [row, ← pinned] at built
  have base : plan.base = uiBase (centrePinned s) := by rw [built]
  rw [built]
  refine ⟨by rw [pinned, pinExchange_ccp]; rfl, by rw [← lyu]; rfl, rfl, rfl, rfl, fun none => ?_, fun page some => ?_⟩
  · simp only [uiBase, current, none]
  · simp only [uiBase, current, some, pageAddress, Nat.mul_comm page]
    rfl

/-- The rows of a reverse view whose camera is not GOOD: the bar colour, and the CAMERA_LOST notice of a LOST camera (R57). -/
theorem centreRow_withoutCamera (view : s.rvc.view ≠ .normal) (health : s.rvc.health ≠ .good) {plan : Plan}
    (built : plan = (centreRow (centreSwitched s)).2) :
    (centrePinned s).ccp.pinned = none ∧ plan.fill = s.lyu.committed.barColour ∧ plan.base = .none ∧ plan.guide = none ∧
    plan.distance = none ∧ plan.notice = if s.rvc.health = .lost then noticeAnswer s.mnu.cameraLost s else none := by
  have rvc := (centreSwitched_row s).1
  obtain ⟨lyu, mnu, -⟩ := centrePinned_blocks s
  have reverse : (centreSwitched s).rvc.view ≠ .normal := by rw [rvc]; exact view
  cases state : s.rvc.health with
  | good => exact absurd state health
  | awaiting =>
    have row := centreRow_awaiting reverse (by rw [rvc]; exact state)
    have pinned : centrePinned s = pinExchange false (centreSwitched s) := congrArg Prod.fst row
    rw [row, ← pinned] at built
    rw [built]
    exact ⟨by rw [pinned, pinExchange_ccp]; rfl, by rw [← lyu]; rfl, rfl, rfl, rfl, rfl⟩
  | lost =>
    have row := centreRow_lost reverse (by rw [rvc]; exact state)
    have pinned : centrePinned s = pinExchange false (centreSwitched s) := congrArg Prod.fst row
    rw [row, ← pinned, mnu, noticeAnswer_congr _ lyu] at built
    rw [built]
    exact ⟨by rw [pinned, pinExchange_ccp]; rfl, by rw [← lyu]; rfl, rfl, rfl, rfl, rfl⟩

/-- The GOOD row takes the camera's latest slot, which is then pinned (R57, R58). -/
theorem centreRow_camera (view : s.rvc.view ≠ .normal) (health : s.rvc.health = .good) :
    (centreRow (centreSwitched s)).2 = goodPlan (centrePinned s) ∧ (centrePinned s).ccp.pinned = s.ccp.latest ∧
    (centrePinned s).den.pin = s.ccp.latest := by
  obtain ⟨rvc, ccp⟩ := centreSwitched_row s
  have row := centreRow_good (s := centreSwitched s) (by rw [rvc]; exact view) (by rw [rvc]; exact health)
  have pinned : centrePinned s = pinExchange true (centreSwitched s) := congrArg Prod.fst row
  obtain ⟨-, -, pin⟩ := centrePinned_den s
  have latest : (centrePinned s).ccp.pinned = s.ccp.latest := by rw [pinned, pinExchange_ccp, ccp]; rfl
  exact ⟨by rw [row, pinned], latest, pin.trans latest⟩

/-- A held engine shows its background alone, and lets the pin go (R65). -/
theorem centreRefresh_held (held : (engine .c s).held = true) :
    (engine .c (centreRefresh s)).timing = .blanking ∧ (engine .c (centreRefresh s)).held = true ∧
    (engine .c (centreRefresh s)).plan = Plan.fillOnly s.lyu.committed.background.c ∧ (centreRefresh s).den.pin = none ∧
    (centreRefresh s).ccp = { s.ccp with pinned := none } ∧ ChangesOnly [.den, .ccp, .stw] s (centreRefresh s) := by
  let u : State := { s with den := { s.den with uiCurrent := s.den.uiPending } }
  let t := pinExchange false u
  have refresh : centreRefresh s = setEngine .c ((engine .c t).begin .c (Plan.fillOnly (background .c t))) t := by
    simp only [centreRefresh, held, if_true]
    rfl
  have den : t.den = _ := pinExchange_den false u
  have moved : ChangesOnly [.den, .ccp, .stw] s u := fun b hb => by cases b <;> first | rfl | exact absurd (by simp) hb
  have changes : ChangesOnly [.den, .ccp, .stw] s t := moved.trans (pinExchange_changesOnly _ _)
  have lyu : t.lyu = s.lyu := changes .lyu (by decide)
  obtain ⟨timing, -, plan, stays⟩ := Den.begin_spec .c (Plan.fillOnly (background .c t)) (engine .c t)
  have heldStill : (engine .c t).held = true := by
    rw [engine, den]
    exact held
  have pin : t.den.pin = none := by rw [den]; rfl
  have colour : background .c t = s.lyu.committed.background.c := by rw [background, lyu]; rfl
  rw [refresh, engine_setEngine_same]
  exact ⟨timing, stays.trans heldStill, by rw [plan, colour], pin, pinExchange_ccp false u,
    changes.trans ((setEngine_changesOnly _ _ _).mono (by simp))⟩

end Refresh

/-- Settles O44: the row is taken by the view and the health, in the state that GDU's switch and the pin exchange leave. -/
theorem centreRefreshTakesItsRow : Obligations.CentreRefreshTakesItsRow := by
  refine ⟨fun s comes free => ?_, fun s comes held => ⟨centreRefresh s, exec_refreshStart_centre s comes, centreRefresh_held held⟩⟩
  obtain ⟨timing, underflow, plan, -⟩ := Den.begin_spec .c (centreRow (centreSwitched s)).2 (engine .c (centrePinned s))
  obtain ⟨lyu, -, rvc, pdu, gdu, wdc⟩ := centrePinned_blocks s
  obtain ⟨current, pending, pin⟩ := centrePinned_den s
  obtain ⟨staged, unstaged⟩ := centreSwitched_guide s
  have changes : ReportsBeside [.den, .ccp, .gdu, .wdc] s (centreRefresh s) := by
    rw [centreRefresh_free s free]
    exact (((centreSwitched_changesOnly s).mono (by simp)).trans ((centrePinned_changesOnly s).mono (by simp))).trans
      ((setEngine_changesOnly _ _ _).mono (by simp))
  refine ⟨centreRefresh s, exec_refreshStart_centre s comes, ?_⟩
  rw [centreRefresh_free s free] at changes ⊢
  rw [engine_setEngine_same, plan, setEngine_gdu, setEngine_wdc, setEngine_fsq, setEngine_ccp, gdu, wdc]
  refine ⟨timing, underflow, current, pending, pin, staged, unstaged, centreRow_showsMenu s, fun view => centreRow_inNormal view rfl,
    fun view => ?_, changes⟩
  have reverse := fun health => centreRow_withoutCamera (s := s) view health rfl
  by_cases health : s.rvc.health = .good
  · obtain ⟨good, pinned, latest⟩ := centreRow_camera view health
    obtain ⟨fill, notice⟩ := goodPlan_frame (centrePinned s)
    rw [good]
    refine ⟨fill.trans (by rw [lyu]), fun other => absurd health other, fun _ => ⟨pinned, notice, fun i here => ?_, fun unseen => ?_⟩⟩
    · obtain ⟨base, guide, distance⟩ := goodPlan_pinned (latest.trans here)
      have draws := guideAnswer_draws (centrePinned s)
      rw [lyu] at base
      rw [gdu, lyu] at draws
      refine ⟨base, by rw [guide]; exact draws, fun quiet => ?_, fun k glyphs engaged host park shown => ?_⟩
      · rw [distance, rvc]
        cases shows : s.rvc.view with
        | normal => exact absurd shows view
        | hold => rfl
        | engaged =>
          exact distanceAnswer_none (by rw [lyu]; exact quiet.resolve_left fun hold => by rw [shows] at hold; cases hold)
      · rw [distance, rvc, engaged, ← lyu]
        exact distanceAnswer_host (by rw [lyu]; exact host) (by rw [lyu]; exact park) (by rw [pdu]; exact shown)
    · rw [goodPlan_unpinned (latest.trans unseen)]
      exact ⟨rfl, rfl, rfl⟩
  · obtain ⟨pinned, fill, base, guide, distance, notice⟩ := reverse health
    exact ⟨fill, fun _ => ⟨pinned, base, guide, distance, notice⟩, fun good => absurd good health⟩

end Sys2Proof.Machine
end

section
/-! The film requests at their dispatch (R79 to R83). -/

namespace Sys2Proof.Machine

/-! ## What a request makes of the channel it names (R80 to R83) -/

namespace FilmChannel

variable {r : FilmChannel}

theorem play_keeps (r : FilmChannel) : r.play.elapsed = r.elapsed ∧ r.play.queue = r.queue := by
  unfold play
  split
  · dsimp only
    split <;> exact ⟨rfl, rfl⟩
  all_goals exact ⟨rfl, rfl⟩

/-- FILM_PLAY starts an IDLE channel (R80). -/
theorem play_idle (rests : r.state = .idle) : r.play.state = .priming ∧ r.play.presented = 0 ∧ r.play.holdCount = 0 := by
  simp only [play, rests]
  split <;> exact ⟨rfl, rfl, rfl⟩

/-- An IDLE channel that starts fills its lowest FREE slot (R80). -/
theorem play_idle_fill {i : Fin 3} (rests : r.state = .idle) (lowest : r.lowestFree = some i) : r.play.fill = some i := by
  simp only [play, rests, lowest]
  rfl

theorem play_running (runs : r.state = .playing ∨ r.state = .priming) : r.play = r := by
  rcases runs with state | state <;> simp only [play, state]

/-- FILM_PLAY resumes a PAUSED channel, to PRIMING when nothing has been shown (R80). -/
theorem play_paused (paused : r.state = .paused) : r.play = { r with state := if r.shown.isSome then .playing else .priming } := by
  simp only [play, paused]

theorem play_ended (ended : r.state = .ended) : r.play = { r with state := .playing, holdCount := 1 } := by
  simp only [play, ended]

theorem pause_eq (r : FilmChannel) :
    r.pause = { r with state := if r.state = .playing ∨ r.state = .priming then .paused else r.state } := by
  obtain ⟨state, _⟩ := r
  cases state <;> rfl

theorem stop_keeps (r : FilmChannel) : r.stop.state = .idle ∧ r.stop.elapsed = ⟨0, 0, 0⟩ ∧ r.stop.wrap = false := by
  unfold stop
  split
  · next rests => exact ⟨rests, rfl, rfl⟩
  all_goals exact ⟨rfl, rfl, rfl⟩

/-- FILM_STOP empties a channel that is not IDLE (R82). -/
theorem stop_working (works : r.state ≠ .idle) : r.stop.queue = [] ∧ r.stop.fill = none ∧ r.stop.holdCount = 0 ∧ r.stop.starveRun = 0 := by
  unfold stop
  split
  · next rests => exact absurd rests works
  all_goals exact ⟨rfl, rfl, rfl, rfl⟩

/-- An IDLE channel has no standing choice (R67). -/
theorem standing_idle (rests : r.state = .idle) : r.standing = r := if_neg fun h => h.1 rests

theorem seek_keeps (r : FilmChannel) (e : Elapsed) :
    (r.seek e).elapsed = e ∧ (r.seek e).wrap = false ∧ (r.seek e).queue = [] ∧ (r.seek e).state = r.state ∧
    (r.seek e).holdCount = r.holdCount := by
  obtain ⟨state, queue, holdCount, -, elapsed, wrap, -⟩ :=
    standing_keeps { r with slots := r.slots.map Slot.unready, queue := [], elapsed := e, wrap := false }
  exact ⟨elapsed, wrap, queue, state, holdCount⟩

end FilmChannel

/-! ## The channel a request names (R79) -/

section Requests

variable {s u : State} {index : Count} {e : List Byte} {code : ResultCode} {blocks : List Block} {x y : Channel}
  {act : Channel → State → State × ResultCode}

theorem filmRequest_unknown {n : Nat} (unknown : 1 < n) (s : State) : filmRequest n act s = (s, .badArgument) := by
  match n, unknown with
  | _ + 2, _ => rfl

theorem filmRequest_unrouted (unrouted : s.lyu.committed.rrSource = .a) : filmRequest 1 act s = (s, .notRouted) := if_pos unrouted

theorem filmRequest_routed (routed : x = .b → s.lyu.committed.rrSource ≠ .a) : filmRequest (channelArgument x) act s = act x s := by
  cases x with
  | a => rfl
  | b => exact if_neg (routed rfl)

/-- What a film request of kind 2 to 5 asks of its channel (11.5). -/
def filmAct (kind : Nat) (e : List Byte) : Channel → State → State × ResultCode :=
  match kind with
  | 2 => requestFilmPlay
  | 3 => requestFilmPause
  | 4 => requestFilmStop
  | _ => requestFilmSeek (get8 e 5) (get8 e 6) (get8 e 7)

theorem dispatchKind_film {kind : Nat} (low : 2 ≤ kind) (high : kind ≤ 5) (e : List Byte) (s : State) :
    dispatchKind kind e s = some (answered (filmRequest (get8 e 4) (filmAct kind e) s)) := by
  interval_cases kind <;> rfl

/-- A film request is answered at its dispatch, and changes the blocks that its act changes (R46, R79). -/
theorem exec_filmRequest (h : EntryFetched s index e) (source : s.lyu.source = .host) (low : 2 ≤ get16 e 0) (high : get16 e 0 ≤ 5)
    (acts : filmRequest (get8 e 4) (filmAct (get16 e 0) e) (dispatchState e s) = (u, code)) (work : Works blocks (dispatchState e s) u)
    (calm : .lyu ∉ blocks) :
    exec .entryFetchComplete s = .next (giveResult code u) ∧ Answered code index s (giveResult code u) ∧
    ChangesOnly ([.fmc, .rqe, .stw] ++ blocks) s (giveResult code u) := by
  have dispatch : dispatchKind (get16 e 0) e (dispatchState e s) = some (u, some code) := by
    rw [dispatchKind_film low high, acts]
    rfl
  obtain ⟨runs, answer⟩ := exec_dispatch h (decide_eq_true ⟨by omega, by omega⟩) (.inl source) dispatch work
    (congrArg Lyu.phase (work.only .lyu calm))
  exact ⟨runs, answer, dispatch_changesOnly work⟩

/-- A film request for a channel that it may name (R79). -/
theorem exec_filmRouted (h : EntryFetched s index e) (routed : Routed x s) (channel : get8 e 4 = channelArgument x) {kind : Nat}
    (is : get16 e 0 = kind) (low : 2 ≤ kind) (high : kind ≤ 5) (acts : filmAct kind e x (dispatchState e s) = (u, code))
    (work : Works blocks (dispatchState e s) u) (calm : .lyu ∉ blocks) :
    exec .entryFetchComplete s = .next (giveResult code u) ∧ Answered code index s (giveResult code u) ∧
    ChangesOnly ([.fmc, .rqe, .stw] ++ blocks) s (giveResult code u) := by
  obtain ⟨source, b⟩ := routed
  subst is
  exact exec_filmRequest h source low high (by rw [channel, filmRequest_routed (s := dispatchState e s) b, acts]) work calm

/-! ## The acts on their channel -/

@[simp] theorem changeChannel_same (x : Channel) (f : FilmChannel → FilmChannel) (s : State) :
    (changeChannel x f s).fsq.get x = (f (s.fsq.get x)).standing := by simp [changeChannel]

theorem changeChannel_other (f : FilmChannel → FilmChannel) (s : State) (other : y ≠ x) :
    (changeChannel x f s).fsq.get y = s.fsq.get y := by simp [changeChannel, PerChannel.get_set, other]

theorem works_changeChannel (x : Channel) (f : FilmChannel → FilmChannel) (s : State) : Works [.fsq, .stw] s (changeChannel x f s) :=
  works_setChannel s x _

/-- FILM_PLAY (R80). -/
theorem filmPlay_acts (h : EntryFetched s index e) (routed : Routed x s) (channel : get8 e 4 = channelArgument x) (other : y ≠ x)
    (kind : get16 e 0 = 2) :
    ∃ t : State, exec .entryFetchComplete s = .next t ∧ ChangesOnly [.fmc, .rqe, .stw, .fsq, .aop] s t ∧
      t.fsq.get y = s.fsq.get y ∧
      (s.flt.degraded = true → Answered .degraded index s t ∧ t.fsq = s.fsq ∧ t.aop = s.aop) ∧
      (s.flt.degraded = false → s.lyu.layoutState = .staged → Answered .busy index s t ∧ t.fsq = s.fsq ∧ t.aop = s.aop) ∧
      (s.flt.degraded = false → s.lyu.layoutState ≠ .staged →
        Answered .ok index s t ∧ t.fsq.get x = (s.fsq.get x).play.standing) := by
  have refused : ∀ code : ResultCode, requestFilmPlay x (dispatchState e s) = (dispatchState e s, code) →
      ∃ t : State, exec .entryFetchComplete s = .next t ∧ Answered code index s t ∧ ChangesOnly [.fmc, .rqe, .stw] s t := fun code acts =>
    ⟨_, exec_filmRouted (blocks := []) h routed channel kind (by decide) (by decide) acts (.refl _ _) (by decide)⟩
  by_cases degraded : s.flt.degraded = true
  · obtain ⟨t, runs, answer, frame⟩ := refused .degraded (if_pos degraded)
    refine ⟨t, runs, frame.mono (by simp), congrArg (·.get y) (frame .fsq (by decide)),
      fun _ => ⟨answer, frame .fsq (by decide), frame .aop (by decide)⟩, ?_, ?_⟩
    · intro calm; simp [degraded] at calm
    · intro calm; simp [degraded] at calm
  · by_cases staged : s.lyu.layoutState = .staged
    · obtain ⟨t, runs, answer, frame⟩ := refused .busy ((if_neg degraded).trans (if_pos staged))
      exact ⟨t, runs, frame.mono (by simp), congrArg (·.get y) (frame .fsq (by decide)), fun safe => absurd safe degraded,
        fun _ _ => ⟨answer, frame .fsq (by decide), frame .aop (by decide)⟩, fun _ unstaged => absurd staged unstaged⟩
    · have acts : requestFilmPlay x (dispatchState e s) = (aopKick (changeChannel x FilmChannel.play (dispatchState e s)), .ok) :=
        (if_neg degraded).trans (if_neg staged)
      have work := (works_changeChannel x FilmChannel.play (dispatchState e s)).seq (works_aopKick _) (blocks := [.fsq, .stw, .aop])
      have fsq : (aopKick (changeChannel x FilmChannel.play (dispatchState e s))).fsq = _ := aopKick_changesOnly _ .fsq (by decide)
      obtain ⟨runs, answer, frame⟩ := exec_filmRouted h routed channel kind (by decide) (by decide) acts work (by decide)
      refine ⟨_, runs, frame.mono (by simp), ?_, fun safe => absurd safe degraded, fun _ now => absurd now staged, fun _ _ => ⟨answer, ?_⟩⟩
      · rw [giveResult_fsq, fsq, changeChannel_other _ _ other]
        rfl
      · rw [giveResult_fsq, fsq, changeChannel_same]
        rfl

/-- FILM_PAUSE (R81). -/
theorem filmPause_acts (h : EntryFetched s index e) (routed : Routed x s) (channel : get8 e 4 = channelArgument x) (other : y ≠ x)
    (kind : get16 e 0 = 3) :
    ∃ t : State, exec .entryFetchComplete s = .next t ∧ Answered .ok index s t ∧ ChangesOnly [.fmc, .rqe, .stw, .fsq] s t ∧
      t.fsq.get y = s.fsq.get y ∧ t.fsq.get x = (s.fsq.get x).pause.standing := by
  obtain ⟨runs, answer, frame⟩ := exec_filmRouted h routed channel kind (by decide) (by decide) rfl
    (works_changeChannel x FilmChannel.pause (dispatchState e s)) (by decide)
  refine ⟨_, runs, answer, frame.mono (by simp), ?_, ?_⟩
  · rw [giveResult_fsq, changeChannel_other _ _ other]
    rfl
  · rw [giveResult_fsq, changeChannel_same]
    rfl

/-- FILM_STOP (R82). -/
theorem filmStop_acts (h : EntryFetched s index e) (routed : Routed x s) (channel : get8 e 4 = channelArgument x) (other : y ≠ x)
    (kind : get16 e 0 = 4) :
    ∃ t : State, exec .entryFetchComplete s = .next t ∧ Answered .ok index s t ∧ ChangesOnly [.fmc, .rqe, .stw, .fsq, .aop] s t ∧
      t.fsq.get y = s.fsq.get y ∧ t.fsq.get x = (s.fsq.get x).stop ∧ (t.aop.channels.get x).producer = 0 ∧
      (t.aop.channels.get x).consumer = 0 := by
  let u := markDirty (channelSection x) (changeChannel x FilmChannel.stop (dispatchState e s))
  have stops : Works [.fsq, .stw] (dispatchState e s) u := (works_changeChannel x FilmChannel.stop _).seq (works_markDirty _ _)
  have work : Works [.fsq, .stw, .aop] (dispatchState e s) (audioStop x u) := stops.seq (works_audioStop u x)
  have fsq : (audioStop x u).fsq = u.fsq := (works_audioStop u x).only .fsq (by decide)
  obtain ⟨producer, consumer⟩ := audioStop_rings u x x
  rw [if_pos rfl] at producer consumer
  obtain ⟨runs, answer, frame⟩ := exec_filmRouted h routed channel kind (by decide) (by decide) rfl work (by decide)
  refine ⟨_, runs, answer, frame.mono (by simp), ?_, ?_, by rw [giveResult_aop]; exact producer, by rw [giveResult_aop]; exact consumer⟩
  · rw [giveResult_fsq, fsq, markDirty_fsq, changeChannel_other _ _ other]
    rfl
  · rw [giveResult_fsq, fsq, markDirty_fsq, changeChannel_same, FilmChannel.standing_idle (FilmChannel.stop_keeps _).1]
    rfl

/-- FILM_SEEK (R83). -/
theorem filmSeek_acts (h : EntryFetched s index e) (routed : Routed x s) (channel : get8 e 4 = channelArgument x) (other : y ≠ x)
    (kind : get16 e 0 = 5) :
    ∃ t : State, exec .entryFetchComplete s = .next t ∧ ChangesOnly [.fmc, .rqe, .stw, .fsq] s t ∧ t.fsq.get y = s.fsq.get y ∧
      (9 < get8 e 5 ∨ 59 < get8 e 6 ∨ 59 < get8 e 7 → Answered .badArgument index s t ∧ t.fsq = s.fsq) ∧
      (get8 e 5 ≤ 9 → get8 e 6 ≤ 59 → get8 e 7 ≤ 59 → Answered .ok index s t ∧
        t.fsq.get x = ((s.fsq.get x).seek ⟨get8 e 5, get8 e 6, get8 e 7⟩).standing) := by
  by_cases bad : 9 < get8 e 5 ∨ 59 < get8 e 6 ∨ 59 < get8 e 7
  · obtain ⟨runs, answer, frame⟩ := exec_filmRouted (u := dispatchState e s) (blocks := []) h routed channel kind (by decide) (by decide)
      (if_pos bad) (.refl _ _) (by decide)
    have fsq := frame .fsq (by decide)
    exact ⟨_, runs, frame.mono (by simp), congrArg (·.get y) fsq, fun _ => ⟨answer, fsq⟩, fun hours minutes seconds => by omega⟩
  · let seeks : FilmChannel → FilmChannel := fun r => r.seek ⟨get8 e 5, get8 e 6, get8 e 7⟩
    have work : Works [.fsq, .stw] (dispatchState e s) (markDirty (channelSection x) (changeChannel x seeks (dispatchState e s))) :=
      (works_changeChannel x seeks _).seq (works_markDirty _ _)
    obtain ⟨runs, answer, frame⟩ := exec_filmRouted h routed channel kind (by decide) (by decide) (if_neg bad) work (by decide)
    refine ⟨_, runs, frame.mono (by simp), ?_, fun invalid => absurd invalid bad, fun _ _ _ => ⟨answer, ?_⟩⟩
    · rw [giveResult_fsq, markDirty_fsq, changeChannel_other _ _ other]
      rfl
    · rw [giveResult_fsq, markDirty_fsq, changeChannel_same]
      rfl

end Requests

/-- Settles O32: each request does to its channel's record what R80 to R83 say, and the standing choice closes its event. -/
theorem filmRequestsAct : Obligations.FilmRequestsAct := by
  refine ⟨fun s index e x y h routed channel other => ⟨fun kind => ?_, fun kind => ?_, fun kind => ?_, fun kind => ?_⟩,
    fun s index e h source low high => ⟨fun unknown => ?_, fun b unrouted => ?_⟩⟩
  · obtain ⟨t, runs, frame, kept, degraded, staged, plays⟩ := filmPlay_acts h routed channel other kind
    refine ⟨t, runs, frame, kept, degraded, staged, fun calm unstaged => ?_⟩
    obtain ⟨answer, record⟩ := plays calm unstaged
    obtain ⟨state, queue, holdCount, -, elapsed, -, presented, -⟩ := (s.fsq.get x).play.standing_keeps
    obtain ⟨elapsed', queue'⟩ := (s.fsq.get x).play_keeps
    rw [record, state, queue, holdCount, elapsed, presented]
    refine ⟨answer, elapsed', queue', fun rests => ?_, fun running => by rw [FilmChannel.play_running running],
      fun paused => by rw [FilmChannel.play_paused paused]; exact ⟨rfl, rfl⟩,
      fun ended => by rw [FilmChannel.play_ended ended]; exact ⟨rfl, rfl⟩⟩
    obtain ⟨primes, fresh, zero⟩ := FilmChannel.play_idle rests
    refine ⟨primes, fresh, zero, fun i lowest => ?_⟩
    have fill := FilmChannel.play_idle_fill rests lowest
    rw [FilmChannel.standing_filling fill, fill]
  · obtain ⟨t, runs, answer, frame, kept, record⟩ := filmPause_acts h routed channel other kind
    obtain ⟨state, queue, holdCount, -, elapsed, -⟩ := (s.fsq.get x).pause.standing_keeps
    refine ⟨t, runs, answer, frame, kept, ?_⟩
    rw [record, state, queue, holdCount, elapsed, FilmChannel.pause_eq]
    exact ⟨rfl, rfl, rfl, rfl⟩
  · obtain ⟨t, runs, answer, frame, kept, record, producer, consumer⟩ := filmStop_acts h routed channel other kind
    obtain ⟨state, elapsed, wrap⟩ := (s.fsq.get x).stop_keeps
    refine ⟨t, runs, answer, frame, kept, ?_⟩
    rw [record]
    exact ⟨state, elapsed, wrap, FilmChannel.stop_working, producer, consumer⟩
  · obtain ⟨t, runs, frame, kept, bad, seeks⟩ := filmSeek_acts h routed channel other kind
    refine ⟨t, runs, frame, kept, bad, fun hours minutes seconds => ?_⟩
    obtain ⟨answer, record⟩ := seeks hours minutes seconds
    let time : Elapsed := ⟨get8 e 5, get8 e 6, get8 e 7⟩
    obtain ⟨state, queue, holdCount, -, elapsed, wrap, -⟩ := ((s.fsq.get x).seek time).standing_keeps
    rw [record, elapsed, wrap, queue, state, holdCount]
    exact ⟨answer, (s.fsq.get x).seek_keeps time⟩
  · exact ⟨_, exec_filmRequest (blocks := []) h source low high (filmRequest_unknown unknown _) (.refl _ _) (by decide)⟩
  · exact ⟨_, exec_filmRequest (u := dispatchState e s) (blocks := []) h source low high (by rw [b]; exact filmRequest_unrouted unrouted)
      (.refl _ _) (by decide)⟩

end Sys2Proof.Machine
end

section
/-! SUPPORT. A presentation step on a channel's record, case by case (R72 to R76). -/

namespace Sys2Proof.Machine

/-- A slot that alone passes a test is the lowest that passes it. -/
theorem PerSlot.lowest_eq_some {α : Type} {t : PerSlot α} {ok : α → Bool} {i : Fin 3} (passes : ok (t.get i) = true)
    (alone : ∀ j : Fin 3, ok (t.get j) = true → j = i) : t.lowest ok = some i := by
  cases lowest : t.lowest ok with
  | none => exact absurd (lowest_none lowest i) (by simp [passes])
  | some j => rw [alone j (lowest_passes lowest)]

namespace FilmChannel

variable {r : FilmChannel} {head i : Fin 3} {rest : List (Fin 3)} {f : Frame}

/-! ## The head of the queue is SHOWN (R72, R75) -/

/-- A slot that is not SHOWN stays when the SHOWN one is retired (R72). -/
theorem retiredSlots_get (unseen : (r.slots.get i).state ≠ .shown) : r.retiredSlots.get i = r.slots.get i := by
  unfold retiredSlots
  split
  · next j shows =>
    refine PerSlot.get_set _ _ _ _ |>.trans (if_neg ?_)
    rintro rfl
    exact unseen (shown_state shows)
  · rfl

/-- The record once its queue's head is SHOWN with its frame (R72). -/
theorem present_frame (frame : (r.retiredSlots.get head).frame = some f) :
    r.present head rest = { r with
      queue := rest
      slots := r.retiredSlots.set head { r.retiredSlots.get head with state := .shown }
      holdCount := f.presentDelay
      starveRun := 0
      presented := r.presented + 1
      elapsed := if f.secondMark then r.elapsed.next else r.elapsed
      wrap := if f.secondMark then r.wrap || r.elapsed.last else r.wrap } := by
  rw [present_eq, showing, frame]
  cases mark : f.secondMark <;> simp [tickSecond, mark]

theorem Sound.head_ready (h : r.Sound) (queue : r.queue = head :: rest) : (r.slots.get head).state = .ready :=
  (h.agree.ready head).mp (by simp [queue])

/-- The head is the one slot SHOWN once it is presented (R72). -/
theorem present_shown (safe : r.safe) : (r.present head rest).shown = some head := by
  have agree := ((safe_iff r).mp safe).agree
  have slots : (r.present head rest).slots = r.retiredSlots.set head { r.retiredSlots.get head with state := .shown } := by
    rw [present_eq]
    split <;> rfl
  rw [shown, slots]
  refine PerSlot.lowest_eq_some (by rw [PerSlot.get_set, if_pos rfl]; rfl) fun j now => ?_
  by_contra other
  rw [PerSlot.get_set, if_neg other] at now
  exact (retiredSlots_agree agree).2 j (of_decide_eq_true now)

/-- The slot that was SHOWN is RETIRED while it is scanned, else FREE (R72). -/
theorem present_retires (shows : r.shown = some i) (other : i ≠ head) :
    ((r.present head rest).slots.get i).state = if (r.slots.get i).scanHolds = 0 then .free else .retired := by
  have slots : (r.present head rest).slots.get i = (r.slots.get i).retire := by
    rw [present_eq]
    split <;> simp [tickSecond, showing, retiredSlots, shows, PerSlot.get_set, other]
  rw [slots, Slot.retire]
  split <;> rfl

/-! ## The step by the channel's state -/

/-- The SHOWN frame stands while its hold lasts (R72). -/
theorem presentationStep_holding (plays : r.state = .playing) (holds : 1 < r.holdCount) :
    r.presentationStep = ({ r with holdCount := r.holdCount - 1 }, .quietly) := by
  simp only [presentationStep, plays]
  exact if_pos (Nat.sub_pos_of_lt holds)

theorem presentationStep_playing (plays : r.state = .playing) (out : r.holdCount ≤ 1) (queue : r.queue = head :: rest) :
    r.presentationStep = (r.present head rest, .quietly) := by
  simp only [presentationStep, plays, queue, Nat.sub_eq_zero_of_le out]
  rfl

theorem presentationStep_runsOut (plays : r.state = .playing) (out : r.holdCount ≤ 1) (queue : r.queue = []) :
    r.presentationStep = { r with holdCount := 0 }.runOut := by
  simp only [presentationStep, plays, queue, Nat.sub_eq_zero_of_le out]
  rfl

theorem presentationStep_priming (primes : r.state = .priming) (queue : r.queue = head :: rest) :
    r.presentationStep = ({ r.present head rest with state := .playing }, .quietly) := by
  simp only [presentationStep, primes, queue]

theorem presentationStep_waiting (primes : r.state = .priming) (queue : r.queue = []) : r.presentationStep = (r, .quietly) := by
  simp only [presentationStep, primes, queue]

theorem presentationStep_resting (rests : r.state = .paused ∨ r.state = .ended ∨ r.state = .idle) :
    r.presentationStep = (r, .quietly) := by
  rcases rests with state | state | state <;> simp only [presentationStep, state]

/-- The film ends when its last frame has run out (R74). -/
theorem runOut_ends (shows : r.shownFrame = some f) (last : f.endOfFilm = true) :
    r.runOut = ({ r with state := .ended, holdCount := 0 }, .filmEnded) := by
  simp [runOut, shows, last]

/-- Another frame is repeated, and the eighth repeat in a run is reported (R73). -/
theorem runOut_repeats (shows : r.shownFrame = some f) (more : f.endOfFilm = false) :
    r.runOut = ({ r with holdCount := 1, repeated := r.repeated + 1, starveRun := min 255 (r.starveRun + 1) },
      if r.starveRun = 7 then .starved f.frameSeq else .quietly) := by
  have eighth : (r.starveRun < 8 ∧ min 255 (r.starveRun + 1) = 8) ↔ r.starveRun = 7 := by omega
  simp [runOut, shows, more, eighth]

theorem runOut_ended (hands : r.runOut.2 = .filmEnded) : r.runOut.1.state = .ended := by
  unfold runOut at hands ⊢
  split at hands
  · next last => rw [if_pos last]
  · dsimp only at hands
    split at hands <;> cases hands

/-- A step that hands on the film's end leaves the channel ENDED (R74). -/
theorem presentationStep_ended (hands : r.presentationStep.2 = .filmEnded) : r.presentationStep.1.state = .ended := by
  cases state : r.state with
  | playing =>
    by_cases holds : 1 < r.holdCount
    · rw [presentationStep_holding state holds] at hands
      cases hands
    · cases queue : r.queue with
      | nil =>
        rw [presentationStep_runsOut state (Nat.le_of_not_lt holds) queue] at hands ⊢
        exact runOut_ended hands
      | cons head rest =>
        rw [presentationStep_playing state (Nat.le_of_not_lt holds) queue] at hands
        cases hands
  | priming =>
    cases queue : r.queue with
    | nil =>
      rw [presentationStep_waiting state queue] at hands
      cases hands
    | cons head rest =>
      rw [presentationStep_priming state queue] at hands
      cases hands
  | paused | ended | idle =>
    rw [presentationStep_resting (by simp [state])] at hands
    cases hands

end FilmChannel

end Sys2Proof.Machine
end

section
/-! The presentation step and the refresh start of a rear panel that takes it on its channel (R71 to R76). -/

namespace Sys2Proof.Machine

/-! ## What the rest of the event leaves of a record (R67, R71, R77, R168) -/

/-- What a presentation step decides of a record, which neither the scan holds nor the choice of the fill slot touch. -/
structure Presentation where
  state : ChannelState
  queue : List (Fin 3)
  shown : Option (Fin 3)
  holdCount : Nat
  starveRun : Nat
  presented : Count
  repeated : Count
  dropped : Count
  elapsed : Elapsed
  wrap : Bool

/-- The presentation that a record stands at. -/
def FilmChannel.presentation (r : FilmChannel) : Presentation :=
  ⟨r.state, r.queue, r.shown, r.holdCount, r.starveRun, r.presented, r.repeated, r.dropped, r.elapsed, r.wrap⟩

@[simp] theorem FilmChannel.standing_presentation (r : FilmChannel) : r.standing.presentation = r.presentation := by
  obtain ⟨state, queue, holdCount, starveRun, elapsed, wrap, presented, repeated, dropped⟩ := r.standing_keeps
  rw [presentation, state, queue, standing_shown, holdCount, starveRun, presented, repeated, dropped, elapsed, wrap, presentation]

/-- A pause changes the state alone (R81, R85). -/
theorem FilmChannel.pause_presentation (r : FilmChannel) : r.pause.presentation = { r.presentation with state := r.pause.state } := by
  rw [pause_eq]
  rfl

@[simp] theorem standingAt_presentation (x : Option Channel) (fsq : PerChannel FilmChannel) (y : Channel) :
    ((standingAt x fsq).get y).presentation = (fsq.get y).presentation := by
  cases x with
  | none => rfl
  | some c =>
    rw [standingAt, PerChannel.get_set]
    split
    · next same => rw [same, FilmChannel.standing_presentation]
    · rfl

theorem releaseHold_slotsOnly (h : Hold) (fsq : PerChannel FilmChannel) (x : Channel) :
    ∃ slots : PerSlot Slot, (releaseHold h fsq).get x = { fsq.get x with slots := slots } := by
  rw [releaseHold, PerChannel.get_set]
  split
  · next same => exact ⟨_, by rw [same]; rfl⟩
  · exact ⟨_, rfl⟩

theorem takeHold_slotsOnly (h : Hold) (fsq : PerChannel FilmChannel) (x : Channel) :
    ∃ slots : PerSlot Slot, (takeHold h fsq).get x = { fsq.get x with slots := slots } := by
  rw [takeHold, PerChannel.get_set]
  split
  · next same => exact ⟨_, by rw [same]; rfl⟩
  · exact ⟨_, rfl⟩

/-- The exchange of scan holds changes slots alone (R77). -/
theorem exchangeHolds_slotsOnly (old new : Option Hold) (fsq : PerChannel FilmChannel) (x : Channel) :
    ∃ slots : PerSlot Slot, (exchangeHolds old new fsq).get x = { fsq.get x with slots := slots } := by
  have released : ∃ slots : PerSlot Slot, (releasedHolds old fsq).get x = { fsq.get x with slots := slots } := by
    cases old with
    | none => exact ⟨_, rfl⟩
    | some h => exact releaseHold_slotsOnly h fsq x
  rw [exchangeHolds_eq]
  split
  · exact ⟨_, rfl⟩
  · cases new with
    | none => exact released
    | some h =>
      obtain ⟨slots, eq⟩ := released
      obtain ⟨slots', eq'⟩ := takeHold_slotsOnly h (releasedHolds old fsq) x
      exact ⟨slots', by rw [eq', eq]⟩

@[simp] theorem exchangeHolds_presentation (old new : Option Hold) (fsq : PerChannel FilmChannel) (x : Channel) :
    ((exchangeHolds old new fsq).get x).presentation = (fsq.get x).presentation := by
  have shown := exchangeHolds_shown old new fsq x
  obtain ⟨slots, eq⟩ := exchangeHolds_slotsOnly old new fsq x
  rw [FilmChannel.presentation, shown, eq]
  rfl

/-- A report can change a channel's state alone (R168). -/
theorem report_presentation (r : Report) (x : Channel) (s : State) :
    ((report r s).fsq.get x).presentation = { (s.fsq.get x).presentation with state := ((report r s).fsq.get x).state } := by
  rcases report_channel r x s with same | paused
  · rw [same]
    rfl
  · rw [paused, FilmChannel.standing_presentation, FilmChannel.pause_presentation, (FilmChannel.standing_keeps _).1]

/-- A report that does not make the part DEGRADED leaves the channels (R85, R168). -/
theorem report_fsq_calm (r : Report) (s : State) (calm : (report r s).flt.degraded = s.flt.degraded) : (report r s).fsq = s.fsq := by
  have action : ∀ (a : FaultAction) (u : State), (takeAction a u).flt.degraded = u.flt.degraded → (takeAction a u).fsq = u.fsq :=
    fun a u same => by
      cases a with
      | quiet => rfl
      | signal => simp [takeAction]
      | safe =>
        rw [takeAction_flt] at same
        unfold takeAction
        dsimp only at same ⊢
        split
        · rfl
        · next free => simp [free] at same
  have recorded : ∀ (f : FaultRecord) (selected : Bool), (s.flt.record f selected).degraded = s.flt.degraded := fun f selected => by
    unfold Flt.record Flt.count
    dsimp only
    repeat' split
    all_goals rfl
  unfold report at calm ⊢
  dsimp only at calm ⊢
  split at calm
  · next masked => rw [if_pos masked]
  · next open_ =>
    rw [if_neg open_]
    split at calm
    · rfl
    · exact action _ _ (calm.trans (recorded _ _).symm)

/-! ## The refresh start (R71) -/

section Refresh

variable {p : RearPanel} {showing : Bool} {s : State} {x : Channel} {r : FilmChannel} {handed : Presented}

/-- The panel's own channel has taken its presentation step. -/
theorem presentedChannels_presenting (presents : p.presents s = some x) :
    (presentedChannels p s).get x = (s.fsq.get x).presentationStep.1 := by
  rw [presentedChannels, presents]
  exact PerChannel.get_set_same _ _ _

/-- No other channel takes one. -/
theorem presentedChannels_other (other : p.presents s ≠ some x) : (presentedChannels p s).get x = s.fsq.get x := by
  unfold presentedChannels presentAt
  split
  · rfl
  · next c presents => exact PerChannel.get_set_other _ _ fun same => other (by rw [presents, same])

theorem refreshedFilm_presentation (x : Channel) :
    ((refreshedFilm p showing s).fsq.get x).presentation = ((presentedChannels p s).get x).presentation := by
  simp [refreshedFilm_fsq, refreshedChannels, exchangedChannels]

theorem refreshedFilm_reads : (refreshedFilm p showing s).flt = s.flt ∧ (refreshedFilm p showing s).lyu = s.lyu := by
  unfold refreshedFilm
  cases p <;> simp [RearPanel.setHold]

/-- Of what the presentation decides, the rest of FSQ's event can change the state alone. -/
theorem filmRefresh_presentation (x : Channel) :
    ((filmRefresh p showing s).fsq.get x).presentation =
      { ((presentedChannels p s).get x).presentation with state := ((filmRefresh p showing s).fsq.get x).state } := by
  have quiet : ((refreshedFilm p showing s).fsq.get x).presentation =
      { ((presentedChannels p s).get x).presentation with state := ((refreshedFilm p showing s).fsq.get x).state } := by
    rw [← refreshedFilm_presentation (showing := showing)]
    rfl
  rw [filmRefresh_eq]
  split
  · exact quiet
  · unfold handPresented
    split
    · exact quiet
    · rw [reportPlain, report_presentation, refreshedFilm_presentation]
    · rw [raiseCause_fsq]
      exact quiet

/-- FSQ's event at a panel that presents a channel hands on what the step hands (R71, R73, R74). -/
theorem filmRefresh_presenting (presents : p.presents s = some x) :
    filmRefresh p showing s = handPresented x (s.fsq.get x).presentationStep.2 (refreshedFilm p showing s) := by
  rw [filmRefresh_eq, presents]
  rfl

theorem rearRefresh_flt : (rearRefresh p s).flt = (rearFilmed p s).flt := by
  rw [rearRefresh_eq]
  exact aopKick_changesOnly _ .flt (by decide)

/-- The state of a channel whose step is handed on quietly, or without the part becoming DEGRADED. -/
theorem rearRefresh_state (presents : p.presents s = some x) (calm : (rearRefresh p s).fsq =
    (refreshedFilm p (!(engine p.panel s).held && !s.flt.degraded) s).fsq) :
    ((rearRefresh p s).fsq.get x).state = (s.fsq.get x).presentationStep.1.state := by
  rw [calm, ← presentedChannels_presenting presents]
  exact congrArg Presentation.state (refreshedFilm_presentation x)

/-- What a rear refresh start makes of the channel it presents, beside its counters and queue (R71 to R74). -/
theorem rearRefresh_hands (presents : p.presents s = some x) (step : (s.fsq.get x).presentationStep = (r, handed)) :
    (handed = .quietly → ((rearRefresh p s).fsq.get x).state = r.state ∧ (rearRefresh p s).flt = s.flt) ∧
    (handed = .filmEnded → ((rearRefresh p s).fsq.get x).state = .ended ∧
      (rearRefresh p s).flt = { s.flt with causes := causeJoin s.flt.causes (endedCause x) }) ∧
    (∀ seq : BitVec 32, handed = .starved seq →
      (rearRefresh p s).flt = (report ⟨.filmStarved, channelSource x, .starvedFrame seq, none⟩ s).flt ∧
      ((rearRefresh p s).flt.degraded = s.flt.degraded → ((rearRefresh p s).fsq.get x).state = r.state)) := by
  let u := refreshedFilm p (!(engine p.panel s).held && !s.flt.degraded) s
  obtain ⟨flt, lyu⟩ : u.flt = s.flt ∧ u.lyu = s.lyu := refreshedFilm_reads
  have filmed : rearFilmed p s = handPresented x handed u := by rw [rearFilmed, filmRefresh_presenting presents, step]
  have fsq := rearRefresh_fsq p s
  have hears := rearRefresh_flt (p := p) (s := s)
  have state := rearRefresh_state presents
  rw [filmed] at fsq hears
  rw [step] at state
  refine ⟨?_, ?_, ?_⟩
  · rintro rfl
    exact ⟨state fsq, hears.trans flt⟩
  · rintro rfl
    have ended : r.state = .ended := by
      have := FilmChannel.presentationStep_ended (r := s.fsq.get x) (by rw [step])
      rwa [step] at this
    exact ⟨(state (fsq.trans (raiseCause_fsq u _))).trans ended, by rw [hears, handPresented, raiseCause_flt, flt]⟩
  · rintro seq rfl
    refine ⟨hears.trans (report_flt_congr _ flt lyu), fun same => state (fsq.trans (report_fsq_calm _ u ?_))⟩
    rw [hears, ← flt] at same
    exact same

/-- Without a presentation nothing is handed on (R71). -/
theorem rearRefresh_unpresented (presents : p.presents s = none) : (rearRefresh p s).flt = s.flt := by
  rw [rearRefresh_flt, rearFilmed, filmRefresh_eq, presents]
  exact refreshedFilm_reads.1

/-- Of what a presentation step decides, a rear refresh start can change the state alone once its channel is presented. -/
theorem rearRefresh_presentation (x : Channel) :
    ((rearRefresh p s).fsq.get x).presentation =
      { ((presentedChannels p s).get x).presentation with state := ((rearRefresh p s).fsq.get x).state } := by
  rw [rearRefresh_fsq]
  exact filmRefresh_presentation x

end Refresh

/-- Settles O43: the step by the channel's state, and the refresh start whose event leaves what the step decides. -/
theorem presentationStepShowsTheQueue : Obligations.PresentationStepShowsTheQueue := by
  refine ⟨fun r safe plays => ⟨FilmChannel.presentationStep_holding plays, fun head rest f out queue frame => ?_,
      fun f out queue shows last => ?_, fun f out queue shows more => ?_⟩,
    fun r => FilmChannel.presentationStep_waiting, fun r head rest f primes unseen queue frame => ?_,
    fun r => FilmChannel.presentationStep_resting, fun s rear presented comes which => ?_⟩
  · have ready := ((FilmChannel.safe_iff r).mp safe).head_ready queue
    have stays := FilmChannel.retiredSlots_get (r := r) (i := head) (by rw [ready]; decide)
    have shown : (r.present head rest).shown = some head := FilmChannel.present_shown safe
    have retires : ∀ i : Fin 3, r.shown = some i →
        ((r.present head rest).slots.get i).state = if (r.slots.get i).scanHolds = 0 then .free else .retired := fun i shows =>
      FilmChannel.present_retires (head := head) (rest := rest) shows fun same => by
        have state := FilmChannel.shown_state shows
        rw [same, ready] at state
        cases state
    refine ⟨_, FilmChannel.presentationStep_playing plays out queue, ?_⟩
    rw [FilmChannel.present_frame (by rw [stays]; exact frame)] at shown retires ⊢
    exact ⟨plays, rfl, shown, rfl, rfl, rfl, rfl, rfl, retires⟩
  · rw [FilmChannel.presentationStep_runsOut plays out queue]
    exact FilmChannel.runOut_ends shows last
  · rw [FilmChannel.presentationStep_runsOut plays out queue]
    exact FilmChannel.runOut_repeats shows more
  · have slots : r.retiredSlots = r.slots := by rw [FilmChannel.retiredSlots, unseen]
    rw [FilmChannel.presentationStep_priming primes queue, FilmChannel.present_frame (by rw [slots]; exact frame), slots]
  · have presents : rear.presents s = presented := by
      rw [which]
      cases rear with
      | left => rfl
      | right => cases source : s.lyu.committed.rrSource <;> simp [RearPanel.presents, source]
    subst presents
    refine ⟨rearRefresh rear s, exec_refreshStart_rear rear s comes, fun x q handed is step => ?_, fun y other => ?_,
      rearRefresh_unpresented⟩
    · have keeps := rearRefresh_presentation (p := rear) (s := s) x
      rw [presentedChannels_presenting is, step] at keeps
      obtain ⟨quietly, ended, starved⟩ := rearRefresh_hands is step
      refine ⟨congrArg Presentation.queue keeps, congrArg Presentation.shown keeps, congrArg Presentation.holdCount keeps,
        congrArg Presentation.starveRun keeps, congrArg Presentation.presented keeps, congrArg Presentation.repeated keeps,
        congrArg Presentation.dropped keeps, congrArg Presentation.elapsed keeps, congrArg Presentation.wrap keeps, quietly,
        fun ends => ?_, starved⟩
      cases x <;> exact ended ends
    · have keeps := rearRefresh_presentation (p := rear) (s := s) y
      rw [presentedChannels_other other] at keeps
      exact ⟨congrArg Presentation.queue keeps, congrArg Presentation.shown keeps, congrArg Presentation.holdCount keeps,
        congrArg Presentation.presented keeps, congrArg Presentation.elapsed keeps⟩

end Sys2Proof.Machine
end

section
/-! SUPPORT. MNU's fetch port, said once (R93): it changes nothing, or it starts the fetch of the waiting work that comes first; and what a
panel's idle timer, stack and auto-pop are after each of MNU's operations (R92, R94, R100). -/

namespace Sys2Proof.Machine

/-! ## The port (R93) -/

/-- MNU may start a fetch: it is not held, no fetch is in flight, and no claim stands. -/
def MenuPortFree (s : State) : Prop := s.mnu.held = false ∧ s.mnu.fetch = none ∧ s.mnu.claim = .idle

/-- The fetch for one purpose has started, for a page (R90, R93). -/
def menuFetchStarted (purpose : MenuPurpose) (page : Nat) (s : State) : State :=
  setMnu { (beginMenuFetch purpose s).mnu with
    fetch := some ⟨purpose, page, true⟩, claim := .waiting ⟨rowBase (menuStore s) + 32 * page, 2⟩ } (beginMenuFetch purpose s)

section Port

variable {s : State}

theorem menuKick_busy (busy : ¬ MenuPortFree s) : menuKick s = s := by
  unfold menuKick
  split
  · next held fetch claim => exact absurd ⟨held, fetch, claim⟩ busy
  · rfl

/-- A page that is needed is needed by work that waits. -/
theorem menuFetchWaits_of_page {purpose : MenuPurpose} {page : Nat} (needs : waitingPage s purpose = some page) :
    MenuFetchWaits s purpose := (waitingPage_isSome s purpose).mp (by rw [needs]; rfl)

/-- What MNU does at its port: nothing, with the port busy or no work waiting, or the start of the fetch that comes first. -/
theorem menuKick_cases (s : State) :
    (menuKick s = s ∧ (MenuPortFree s → ∀ purpose : MenuPurpose, ¬ MenuFetchWaits s purpose)) ∨
    ∃ (purpose : MenuPurpose) (page : Nat), menuKick s = menuFetchStarted purpose page s ∧ MenuPortFree s ∧
      waitingPage s purpose = some page ∧ ComesFirst s purpose := by
  by_cases free : MenuPortFree s
  · have ⟨held, fetch, claim⟩ := free
    have first := nextMenuFetch_first s
    unfold menuKick
    simp only [held, fetch, claim]
    split
    · next rests =>
      rw [rests] at first
      exact .inl ⟨rfl, fun _ => first⟩
    · next purpose page next =>
      rw [next] at first
      exact .inr ⟨purpose, page, rfl, free, first⟩
  · exact .inl ⟨menuKick_busy free, fun now => absurd now free⟩

theorem MenuPurpose.place_injective {p q : MenuPurpose} (same : p.place = q.place) : p = q := by
  rcases p with _ | _ | _ | _ | _ | _ <;> rcases q with _ | _ | _ | _ | _ | _ <;> simp_all [MenuPurpose.place]

/-- Only one waiting work comes first. -/
theorem ComesFirst.unique {p q : MenuPurpose} (h : ComesFirst s p) (k : ComesFirst s q) (waits : MenuFetchWaits s p)
    (waits' : MenuFetchWaits s q) : p = q :=
  MenuPurpose.place_injective (Nat.le_antisymm (not_lt.mp fun before => h q before waits') (not_lt.mp fun before => k p before waits))

/-- With the port free, the work that comes first has its fetch started. -/
theorem menuKick_starts (free : MenuPortFree s) {purpose : MenuPurpose} {page : Nat} (needs : waitingPage s purpose = some page)
    (first : ComesFirst s purpose) : menuKick s = menuFetchStarted purpose page s := by
  have waits := menuFetchWaits_of_page needs
  rcases menuKick_cases s with ⟨-, quiet⟩ | ⟨purpose', page', starts, -, needs', first'⟩
  · exact absurd waits (quiet free purpose)
  · obtain rfl := first.unique first' waits (menuFetchWaits_of_page needs')
    rw [needs] at needs'
    cases needs'
    exact starts

/-- A fetch that starts reads the page that its work needs (R90). -/
theorem menuFetchStarted_claims {purpose : MenuPurpose} {page : Nat} (needs : waitingPage s purpose = some page) :
    MenuClaims (menuFetchStarted purpose page s) purpose page := by
  refine ⟨rfl, ?_, ?_⟩
  · cases purpose <;> rfl
  · have reads := beginMenuFetch_reads needs
    cases purpose <;> exact reads

/-- A fetch that starts leaves every panel but that of its auto-pop. -/
theorem menuFetchStarted_panel (purpose : MenuPurpose) (page : Nat) (q : Panel) :
    menuPanel q (menuFetchStarted purpose page s) =
      if purpose = .autoPop q then { menuPanel q s with autoPop := .inFlight } else menuPanel q s := by
  cases purpose with
  | request | service | cameraLost => rfl
  | autoPop p =>
    by_cases same : q = p
    · subst same
      rw [if_pos rfl]
      exact PerPanel.get_set_same _ _ _
    · rw [if_neg fun h => same (MenuPurpose.autoPop.inj h).symm]
      exact PerPanel.get_set_other _ _ same

/-- The port changes a panel's auto-pop at most. -/
theorem menuKick_panel_keeps (s : State) (q : Panel) :
    (menuPanel q (menuKick s)).stack = (menuPanel q s).stack ∧ (menuPanel q (menuKick s)).top = (menuPanel q s).top ∧
    (menuPanel q (menuKick s)).idle = (menuPanel q s).idle := by
  rcases menuKick_cases s with ⟨same, -⟩ | ⟨purpose, page, starts, -⟩
  · rw [same]
    exact ⟨rfl, rfl, rfl⟩
  · rw [starts, menuFetchStarted_panel]
    split <;> exact ⟨rfl, rfl, rfl⟩

/-- A panel whose auto-pop does not come first is as it was. -/
theorem menuKick_panel_same {q : Panel} (rests : ¬ (MenuFetchWaits s (.autoPop q) ∧ MenuPortFree s ∧ ComesFirst s (.autoPop q))) :
    menuPanel q (menuKick s) = menuPanel q s := by
  rcases menuKick_cases s with ⟨same, -⟩ | ⟨purpose, page, starts, free, needs, first⟩
  · rw [same]
  · rw [starts, menuFetchStarted_panel, if_neg]
    rintro rfl
    exact rests ⟨menuFetchWaits_of_page needs, free, first⟩

theorem not_waits_of_rests {q : Panel} (rests : (menuPanel q s).autoPop = .none) : ¬ MenuFetchWaits s (.autoPop q) := by
  rintro ⟨pending, -⟩
  rw [rests] at pending
  cases pending

theorem menuKick_service (filled : s.mnu.service ≠ .pending) : (menuKick s).mnu.service = s.mnu.service := by
  rcases menuKick_cases s with ⟨same, -⟩ | ⟨purpose, page, starts, -, needs, -⟩
  · rw [same]
  · rw [starts]
    cases purpose with
    | service => exact absurd (menuFetchWaits_of_page needs).1 filled
    | request | cameraLost | autoPop => rfl

theorem menuKick_cameraLost (filled : s.mnu.cameraLost ≠ .pending) : (menuKick s).mnu.cameraLost = s.mnu.cameraLost := by
  rcases menuKick_cases s with ⟨same, -⟩ | ⟨purpose, page, starts, -, needs, -⟩
  · rw [same]
  · rw [starts]
    cases purpose with
    | cameraLost => exact absurd (menuFetchWaits_of_page needs).1 filled
    | request | service | autoPop => rfl

/-- A request in hand comes first, so the port leaves the panels and the notices. -/
theorem menuKick_requested (hand : s.mnu.request ≠ none) :
    (menuKick s).mnu.panels = s.mnu.panels ∧ (menuKick s).mnu.service = s.mnu.service ∧
    (menuKick s).mnu.cameraLost = s.mnu.cameraLost := by
  rcases menuKick_cases s with ⟨same, -⟩ | ⟨purpose, page, starts, -, -, first⟩
  · rw [same]
    exact ⟨rfl, rfl, rfl⟩
  · have requested : purpose = .request := by
      by_contra other
      exact first .request (Nat.pos_of_ne_zero fun zero => other (MenuPurpose.place_injective zero)) hand
    rw [starts, requested]
    exact ⟨rfl, rfl, rfl⟩

theorem menuKick_rqe (s : State) : (menuKick s).rqe = s.rqe := (works_menuKick s).only .rqe (by decide)

end Port

/-! ## Work within MNU -/

section Operations

variable (s : State)

theorem works_setMenuPanel (p : Panel) (x : MenuPanel) : Works [.mnu] s (setMenuPanel p x s) := works_setMnu s _

theorem works_restartIdle (p : Panel) : Works [.mnu] s (restartIdle p s) := works_setMenuPanel s p _

theorem works_changeStack (p : Panel) (stack : List Nat) (top : TopCache) : Works [.mnu, .stw] s (changeStack p stack top s) :=
  ((works_setMenuPanel s p _).seq (works_restartIdle _ p) (blocks := [.mnu])).seq (works_markDirty _ _)

theorem works_touchPanel (p : Panel) : Works [.mnu] s (touchPanel p s) := by
  unfold touchPanel
  dsimp only
  split
  · exact works_restartIdle s p
  · exact (works_restartIdle s p).seq (works_setMenuPanel _ p _)
  · exact ((works_restartIdle s p).seq (works_setMenuPanel _ p _) (blocks := [.mnu])).seq (works_dropMenuFetch _ _)

theorem works_takeInHand (r : MenuRequest) : Works [.mnu, .stw] s (takeInHand r s) :=
  ((works_setMnu s _).seq (works_markDirty _ _) (blocks := [.mnu, .stw])).seq (works_menuKick _)

/-! ## The panels after each operation (R92, R94, R100) -/

theorem restartedIdle_eq (p : Panel) (stack : List Nat) : ∀ timeout : Nat, timeout = s.lyu.committed.idleTimeout.get p →
    restartedIdle p stack s = (if stack ≠ [] ∧ 1 ≤ timeout ∧ timeout ≤ 60
      then .running (s.lyu.partTime + BitVec.ofNat 32 (1000 * timeout)) else .stopped) := by
  rintro _ rfl
  rfl

/-- A restart reads the committed layout and the time alone. -/
theorem restartedIdle_congr {s u : State} (lyu : u.lyu = s.lyu) (p : Panel) (stack : List Nat) :
    restartedIdle p stack u = restartedIdle p stack s := by
  unfold restartedIdle now
  rw [lyu]

@[simp] theorem menuPanel_setMenuPanel (p : Panel) (x : MenuPanel) : menuPanel p (setMenuPanel p x s) = x := PerPanel.get_set_same _ _ _

theorem menuPanel_setMenuPanel_other {p q : Panel} (x : MenuPanel) (other : q ≠ p) :
    menuPanel q (setMenuPanel p x s) = menuPanel q s := PerPanel.get_set_other _ _ other

theorem menuPanel_changeStack (p : Panel) (stack : List Nat) (top : TopCache) :
    menuPanel p (changeStack p stack top s) = ⟨stack, top, restartedIdle p stack s, (menuPanel p s).autoPop⟩ := by
  rw [menuPanel, changeStack_mnu]
  exact PerPanel.get_set_same _ _ _

theorem menuPanel_changeStack_other {p q : Panel} (stack : List Nat) (top : TopCache) (other : q ≠ p) :
    menuPanel q (changeStack p stack top s) = menuPanel q s := by
  rw [menuPanel, changeStack_mnu]
  exact PerPanel.get_set_other _ _ other

/-- A panel as a touch leaves it: its idle timer restarted, its auto-pop ended (R94). -/
def touchedPanel (p : Panel) (s : State) : MenuPanel :=
  { menuPanel p s with idle := restartedIdle p (menuPanel p s).stack s, autoPop := .none }

theorem touchedPanel_topPage (p : Panel) : (touchedPanel p s).topPage = (menuPanel p s).topPage := rfl

theorem touchedPanel_below (p : Panel) : (touchedPanel p s).below = (menuPanel p s).below := rfl

theorem dropMenuFetch_mnu (purpose : MenuPurpose) :
    (dropMenuFetch purpose s).mnu = { s.mnu with fetch := (dropMenuFetch purpose s).mnu.fetch } := by
  unfold dropMenuFetch
  repeat' split
  all_goals rfl

/-- Giving a fetch up starts none and ends none. -/
theorem dropMenuFetch_none {s : State} {purpose : MenuPurpose} (resting : s.mnu.fetch = none) :
    (dropMenuFetch purpose s).mnu.fetch = none := by
  rw [dropMenuFetch, resting]
  exact resting

/-- A touch changes one panel, and gives up the fetch of its auto-pop at most (R94). -/
theorem touchPanel_mnu (p : Panel) :
    (touchPanel p s).mnu = { s.mnu with panels := s.mnu.panels.set p (touchedPanel p s), fetch := (touchPanel p s).mnu.fetch } ∧
    (s.mnu.fetch = none → (touchPanel p s).mnu.fetch = none) := by
  have panels : (touchPanel p s).mnu.panels = s.mnu.panels.set p (touchedPanel p s) := (touchPanel_spec p s).1
  have rest : (touchPanel p s).mnu = { s.mnu with panels := (touchPanel p s).mnu.panels, fetch := (touchPanel p s).mnu.fetch } ∧
      (s.mnu.fetch = none → (touchPanel p s).mnu.fetch = none) := by
    unfold touchPanel
    dsimp only
    split
    · exact ⟨rfl, id⟩
    · exact ⟨rfl, id⟩
    · refine ⟨?_, fun resting => dropMenuFetch_none resting⟩
      rw [dropMenuFetch_mnu]
      rfl
  rw [← panels]
  exact rest

theorem menuPanel_touchPanel (p : Panel) : menuPanel p (touchPanel p s) = touchedPanel p s := by
  rw [menuPanel, (touchPanel_spec p s).1]
  exact PerPanel.get_set_same _ _ _

theorem touchPanel_stw (p : Panel) : (touchPanel p s).stw = s.stw := (works_touchPanel s p).only .stw (by decide)

/-- A touched panel's port is free when it was. -/
theorem touchPanel_free {s : State} {p : Panel} (free : MenuPortFree s) : MenuPortFree (touchPanel p s) := by
  obtain ⟨held, fetch, claim⟩ := free
  obtain ⟨mnu, resting⟩ := touchPanel_mnu s p
  exact ⟨by rw [mnu]; exact held, resting fetch, by rw [mnu]; exact claim⟩

/-! ## A request taken in hand (R93, R95) -/

/-- A request in hand leaves the panels and the notices, and its fetch starts with the port free. -/
theorem takeInHand_spec (r : MenuRequest) :
    (takeInHand r s).mnu.request = some r ∧ (takeInHand r s).mnu.panels = s.mnu.panels ∧
    (takeInHand r s).mnu.service = s.mnu.service ∧ (takeInHand r s).mnu.cameraLost = s.mnu.cameraLost ∧
    (takeInHand r s).stw.result = s.stw.result ∧ (MenuPortFree s → MenuClaims (takeInHand r s) .request r.page) := by
  let u := markDirty .s4 (setMnu { s.mnu with request := some r } s)
  obtain ⟨panels, service, cameraLost⟩ := menuKick_requested (s := u) (Option.some_ne_none r)
  refine ⟨menuKick_request u, panels, service, cameraLost, ?_, fun free => ?_⟩
  · exact (menuKick_result u).trans (markDirty_result _ _)
  · have needs : waitingPage u .request = some r.page := rfl
    rw [takeInHand, menuKick_starts (s := u) free needs fun q before => absurd before (Nat.not_lt_zero _)]
    exact menuFetchStarted_claims needs

end Operations

end Sys2Proof.Machine
end

section
/-! The menu requests at their dispatch, and the expiry of an idle timer (R94 to R101). -/

namespace Sys2Proof.Machine

section Requests

variable {s t u : State} {index : Count} {e : List Byte} {code : ResultCode} {p : Panel}

/-! ## The dispatch of a menu request (R45, R94) -/

/-- What a menu request of kind 6 to 10 asks of MNU (11.5). -/
def menuAct (kind : Nat) (e : List Byte) : State → State × Option ResultCode :=
  match kind with
  | 6 => requestMenuPush (get8 e 4) (get8 e 5)
  | 7 => requestMenuPop (get8 e 4)
  | 8 => requestMenuReplace (get8 e 4) (get8 e 5)
  | 9 => requestMenuClear (get8 e 4)
  | _ => requestMenuTouch (get8 e 4)

theorem dispatchKind_menu {kind : Nat} (low : 6 ≤ kind) (high : kind ≤ 10) (e : List Byte) (s : State) :
    dispatchKind kind e s = some (menuAct kind e s) := by
  interval_cases kind <;> rfl

theorem menuKind_known {kind : Nat} (low : 6 ≤ kind) (high : kind ≤ 10) : knownKind kind = true := decide_eq_true ⟨by omega, by omega⟩

@[simp] theorem panelOfCode_panelArgument (p : Panel) : panelOfCode (panelArgument p) = some p := by cases p <;> rfl

theorem panelOfCode_unknown {n : Nat} (unknown : 2 < n) : panelOfCode n = none := by
  match n, unknown with
  | _ + 3, _ => rfl

/-- A menu request that names no panel (R94). -/
theorem menuAct_unknown {kind : Nat} (unknown : 2 < get8 e 4) (low : 6 ≤ kind) (high : kind ≤ 10) (s : State) :
    menuAct kind e s = (s, some .badArgument) := by
  have none := panelOfCode_unknown unknown
  interval_cases kind <;> simp only [menuAct, requestMenuPush, requestMenuPop, requestMenuReplace, requestMenuClear, requestMenuTouch, none]

/-- A menu request that is answered at its dispatch, by work of MNU (R46). -/
theorem exec_menuAnswered {blocks : List Block} (h : EntryFetched s index e) (source : s.lyu.source = .host) (low : 6 ≤ get16 e 0)
    (high : get16 e 0 ≤ 10) (acts : menuAct (get16 e 0) e (dispatchState e s) = (u, some code))
    (work : Works blocks (dispatchState e s) u) (own : blocks ⊆ [.mnu, .stw]) :
    exec .entryFetchComplete s = .next (giveResult code u) ∧ Answered code index s (giveResult code u) ∧
    GrantEnded s (giveResult code u) ∧ ChangesOnly ([.fmc, .rqe, .stw] ++ blocks) s (giveResult code u) := by
  have keeps : ∀ b : Block, b ∉ [Block.mnu, .stw] → b.kept (dispatchState e s) u := fun b out => work.only b fun inside => out (own inside)
  have lyu : u.lyu = s.lyu := keeps .lyu (by decide)
  have fmc : u.fmc = { s.fmc with busy := none } := keeps .fmc (by decide)
  obtain ⟨runs, answer⟩ := exec_dispatch h (menuKind_known low high) (.inl source)
    ((dispatchKind_menu low high e _).trans (congrArg some acts)) work (by rw [lyu])
  exact ⟨runs, answer, (giveResult_fmc u code).trans fmc, dispatch_changesOnly work⟩

/-- A menu request that MNU takes in hand on a panel just touched (R93, R95). -/
theorem exec_menuTaken {r : MenuRequest} (h : EntryFetched s index e) (source : s.lyu.source = .host) (low : 6 ≤ get16 e 0)
    (high : get16 e 0 ≤ 10) (acts : menuAct (get16 e 0) e (dispatchState e s) = (takeInHand r (touchPanel p (dispatchState e s)), none)) :
    exec .entryFetchComplete s = .next (takeInHand r (touchPanel p (dispatchState e s))) ∧
    WithOwner index s (takeInHand r (touchPanel p (dispatchState e s))) ∧
    GrantEnded s (takeInHand r (touchPanel p (dispatchState e s))) ∧
    ChangesOnly [.fmc, .rqe, .stw, .mnu] s (takeInHand r (touchPanel p (dispatchState e s))) := by
  let v := takeInHand r (touchPanel p (dispatchState e s))
  have work : Works [.mnu, .stw] (dispatchState e s) v := (works_touchPanel _ p).seq (works_takeInHand _ r)
  have lyu : v.lyu = s.lyu := work.only .lyu (by decide)
  have rqe : v.rqe = (dispatchState e s).rqe := work.only .rqe (by decide)
  have dispatch := (dispatchKind_menu low high e _).trans (congrArg some acts)
  have calm : NotDraining v := by
    rw [NotDraining, lyu]
    exact h.calm
  refine ⟨?_, ⟨?_, ?_⟩, work.only .fmc (by decide), ((dispatchState_changesOnly e s).mono (by simp)).trans (work.only.mono (by simp))⟩
  · rw [exec_entryFetchComplete h, judgeEntry_dispatches (menuKind_known low high) (.inl (by exact source)) dispatch]
    exact congrArg Host.Outcome.next (checkDrain_of_notDraining _ calm)
  · rw [rqe]
    exact congrArg (Option.map fun entry => { entry with phase := .withOwner }) h.entry
  · obtain ⟨-, -, -, -, result, -⟩ := takeInHand_spec (touchPanel p (dispatchState e s)) r
    rw [result, touchPanel_stw]
    rfl

/-! ## What a menu request leaves (R94, R100) -/

/-- The panel that a request names has its timer restarted and no auto-pop; the other panels and the notices are as they were (R94, R100). -/
structure PanelNamed (p : Panel) (s t : State) : Prop where
  others : ∀ q : Panel, q ≠ p → menuPanel q t = menuPanel q s
  autoPop : (menuPanel p t).autoPop = .none
  service : t.mnu.service = s.mnu.service
  cameraLost : t.mnu.cameraLost = s.mnu.cameraLost
  idle : (menuPanel p t).idle = restartedIdle p (menuPanel p t).stack s

/-- The restarted timer, as R100 has it. -/
theorem PanelNamed.restarts (h : PanelNamed p s t) : ∀ timeout : Nat, timeout = s.lyu.committed.idleTimeout.get p →
    (menuPanel p t).idle = (if (menuPanel p t).stack ≠ [] ∧ 1 ≤ timeout ∧ timeout ≤ 60
      then .running (s.lyu.partTime + BitVec.ofNat 32 (1000 * timeout)) else .stopped) :=
  fun timeout is => h.idle.trans (restartedIdle_eq s p (menuPanel p t).stack timeout is)

/-- An event that ends the fetch of a menu request's entry, and acts on the panel that the request names (R45, R94). -/
structure MenuDispatched (p : Panel) (s t : State) : Prop extends PanelNamed p s t where
  runs : exec .entryFetchComplete s = .next t
  grant : GrantEnded s t
  only : ChangesOnly [.fmc, .rqe, .stw, .mnu] s t

theorem PanelNamed.of_panel {x : MenuPanel} (panels : t.mnu.panels = s.mnu.panels.set p x) (rests : x.autoPop = .none)
    (idle : x.idle = restartedIdle p x.stack s) (service : t.mnu.service = s.mnu.service)
    (cameraLost : t.mnu.cameraLost = s.mnu.cameraLost) : PanelNamed p s t := by
  have here : menuPanel p t = x := by
    rw [menuPanel, panels]
    exact PerPanel.get_set_same _ _ _
  refine ⟨fun q other => ?_, by rw [here]; exact rests, service, cameraLost, by rw [here]; exact idle⟩
  rw [menuPanel, panels]
  exact PerPanel.get_set_other _ _ other

/-- A request answered on the panel it touched, whose stack stands (R94). -/
theorem menuRequest_answers (h : EntryFetched s index e) (source : s.lyu.source = .host) (low : 6 ≤ get16 e 0) (high : get16 e 0 ≤ 10)
    (acts : menuAct (get16 e 0) e (dispatchState e s) = (touchPanel p (dispatchState e s), some code)) :
    ∃ t : State, exec .entryFetchComplete s = .next t ∧ Answered code index s t ∧ GrantEnded s t ∧
      ChangesOnly [.fmc, .rqe, .stw, .mnu] s t ∧ t.stw.dirty = s.stw.dirty ∧
      t.mnu = { s.mnu with panels := s.mnu.panels.set p (touchedPanel p s), fetch := t.mnu.fetch } := by
  obtain ⟨runs, answer, grant, only⟩ := exec_menuAnswered h source low high acts (works_touchPanel _ p) (by simp)
  refine ⟨_, runs, answer, grant, only, ?_, ?_⟩
  · rw [giveResult_dirty, touchPanel_stw]
    rfl
  · rw [giveResult_mnu]
    exact (touchPanel_mnu (dispatchState e s) p).1

/-- A request that empties the stack of the panel it touched (R97, R98). -/
theorem menuRequest_empties (h : EntryFetched s index e) (source : s.lyu.source = .host) (low : 6 ≤ get16 e 0) (high : get16 e 0 ≤ 10)
    (acts : menuAct (get16 e 0) e (dispatchState e s) = (changeStack p [] .none (touchPanel p (dispatchState e s)), some .ok)) :
    ∃ t : State, exec .entryFetchComplete s = .next t ∧ Answered .ok index s t ∧ GrantEnded s t ∧
      ChangesOnly [.fmc, .rqe, .stw, .mnu] s t ∧
      t.mnu = { s.mnu with panels := s.mnu.panels.set p ⟨[], .none, .stopped, .none⟩, fetch := t.mnu.fetch } := by
  have work : Works [.mnu, .stw] (dispatchState e s) (changeStack p [] .none (touchPanel p (dispatchState e s))) :=
    (works_touchPanel _ p).seq (works_changeStack _ p [] .none)
  obtain ⟨runs, answer, grant, only⟩ := exec_menuAnswered h source low high acts work (by simp)
  refine ⟨_, runs, answer, grant, only.mono (by simp), ?_⟩
  rw [giveResult_mnu, changeStack_mnu, touchPanel_autoPop, (touchPanel_mnu _ p).1, restartedIdle_empty]
  simp only [PerPanel.set_set]
  rfl

/-- A request taken in hand on the panel it touched (R93 to R97). -/
theorem menuRequest_taken {r : MenuRequest} (h : EntryFetched s index e) (source : s.lyu.source = .host) (low : 6 ≤ get16 e 0)
    (high : get16 e 0 ≤ 10) (acts : menuAct (get16 e 0) e (dispatchState e s) = (takeInHand r (touchPanel p (dispatchState e s)), none)) :
    ∃ t : State, MenuDispatched p s t ∧
      (menuPanel p t).stack = (menuPanel p s).stack ∧ WithOwner index s t ∧ t.mnu.request = some r ∧
      (s.mnu.held = false → s.mnu.fetch = none → s.mnu.claim = .idle → MenuClaims t .request r.page) := by
  obtain ⟨runs, owner, grant, only⟩ := exec_menuTaken h source low high acts
  obtain ⟨request, panels, service, cameraLost, -, claims⟩ := takeInHand_spec (touchPanel p (dispatchState e s)) r
  obtain ⟨mnu, -⟩ := touchPanel_mnu (dispatchState e s) p
  rw [mnu] at panels service cameraLost
  refine ⟨_, ⟨.of_panel panels rfl rfl service cameraLost, runs, grant, only⟩, ?_, owner, request,
    fun held fetch claim => claims (touchPanel_free ⟨held, fetch, claim⟩)⟩
  rw [menuPanel, panels, PerPanel.get_set_same]
  rfl


/-- A request answered on the panel it names, whose stack stands (R94). -/
theorem menuRequest_answers_named (h : EntryFetched s index e) (source : s.lyu.source = .host) (low : 6 ≤ get16 e 0)
    (high : get16 e 0 ≤ 10) (acts : menuAct (get16 e 0) e (dispatchState e s) = (touchPanel p (dispatchState e s), some code)) :
    ∃ t : State, MenuDispatched p s t ∧
      (menuPanel p t).stack = (menuPanel p s).stack ∧ Answered code index s t := by
  obtain ⟨t, runs, answer, grant, only, -, mnu⟩ := menuRequest_answers h source low high acts
  refine ⟨t, ⟨.of_panel (by rw [mnu]) rfl rfl (by rw [mnu]) (by rw [mnu]), runs, grant, only⟩, ?_, answer⟩
  rw [menuPanel, mnu, PerPanel.get_set_same]
  rfl

/-! ## The acts of the requests (R95 to R99) -/

theorem requestMenuPush_named (p : Panel) (page : Nat) (s : State) :
    requestMenuPush (panelArgument p) page s =
      if 63 < page then (touchPanel p s, some .badArgument)
      else if (menuPanel p s).topPage = some page then (touchPanel p s, some .ok)
      else if 8 ≤ (menuPanel p s).stack.length then (touchPanel p s, some .stackFull)
      else (takeInHand ⟨.push, p, page⟩ (touchPanel p s), none) := by
  simp only [requestMenuPush, panelOfCode_panelArgument, menuPanel_touchPanel]
  rfl

theorem requestMenuReplace_named (p : Panel) (page : Nat) (s : State) :
    requestMenuReplace (panelArgument p) page s =
      if 63 < page then (touchPanel p s, some .badArgument)
      else if (menuPanel p s).stack = [] then (touchPanel p s, some .stackEmpty)
      else (takeInHand ⟨.replace, p, page⟩ (touchPanel p s), none) := by
  simp only [requestMenuReplace, panelOfCode_panelArgument, menuPanel_touchPanel]
  rfl

theorem requestMenuPop_empty (top : (menuPanel p s).topPage = none) :
    requestMenuPop (panelArgument p) s = (touchPanel p s, some .stackEmpty) := by
  simp only [requestMenuPop, panelOfCode_panelArgument, menuPanel_touchPanel, touchedPanel_topPage, top]

theorem requestMenuPop_single {page : Nat} (top : (menuPanel p s).topPage = some page) (below : (menuPanel p s).below = none) :
    requestMenuPop (panelArgument p) s = (changeStack p [] .none (touchPanel p s), some .ok) := by
  simp only [requestMenuPop, panelOfCode_panelArgument, menuPanel_touchPanel, touchedPanel_topPage, touchedPanel_below, top, below]

theorem requestMenuPop_deep {above page : Nat} (top : (menuPanel p s).topPage = some above) (below : (menuPanel p s).below = some page) :
    requestMenuPop (panelArgument p) s = (takeInHand ⟨.pop, p, page⟩ (touchPanel p s), none) := by
  simp only [requestMenuPop, panelOfCode_panelArgument, menuPanel_touchPanel, touchedPanel_topPage, touchedPanel_below, top, below]

theorem requestMenuClear_named (p : Panel) (s : State) :
    requestMenuClear (panelArgument p) s =
      if (menuPanel p s).stack = [] then (touchPanel p s, some .ok) else (changeStack p [] .none (touchPanel p s), some .ok) := by
  simp only [requestMenuClear, panelOfCode_panelArgument, menuPanel_touchPanel]
  rfl

theorem requestMenuTouch_named (p : Panel) (s : State) : requestMenuTouch (panelArgument p) s = (touchPanel p s, some .ok) := by
  simp only [requestMenuTouch, panelOfCode_panelArgument]

/-- A page below the top has a page above it. -/
theorem MenuPanel.topPage_of_below {m : MenuPanel} {page : Nat} (below : m.below = some page) : ∃ top : Nat, m.topPage = some top := by
  have two := m.below_isSome
  rw [below, Option.isSome_some] at two
  refine Option.isSome_iff_exists.mp (List.getLast?_isSome.mpr fun empty => ?_)
  rw [empty] at two
  cases two

/-- MENU_PUSH (R95). -/
theorem menuPush_acts (h : EntryFetched s index e) (source : s.lyu.source = .host) (named : get8 e 4 = panelArgument p)
    (kind : get16 e 0 = 6) :
    ∃ t : State, MenuDispatched p s t ∧
      (menuPanel p t).stack = (menuPanel p s).stack ∧
      (63 < get8 e 5 → Answered .badArgument index s t) ∧
      (get8 e 5 ≤ 63 → (menuPanel p s).topPage = some (get8 e 5) → Answered .ok index s t) ∧
      (get8 e 5 ≤ 63 → (menuPanel p s).topPage ≠ some (get8 e 5) → 8 ≤ (menuPanel p s).stack.length → Answered .stackFull index s t) ∧
      (get8 e 5 ≤ 63 → (menuPanel p s).topPage ≠ some (get8 e 5) → (menuPanel p s).stack.length < 8 →
        WithOwner index s t ∧ t.mnu.request = some ⟨.push, p, get8 e 5⟩ ∧
        (s.mnu.held = false → s.mnu.fetch = none → s.mnu.claim = .idle → MenuClaims t .request (get8 e 5))) := by
  have acts : menuAct (get16 e 0) e (dispatchState e s) = requestMenuPush (panelArgument p) (get8 e 5) (dispatchState e s) := by
    rw [kind, ← named]
    rfl
  rw [requestMenuPush_named] at acts
  by_cases bad : 63 < get8 e 5
  · obtain ⟨t, done, stack, answer⟩ := menuRequest_answers_named h source (by omega) (by omega)
      (acts.trans (if_pos bad))
    exact ⟨t, done, stack, fun _ => answer, by omega, by omega, by omega⟩
  replace acts := acts.trans (if_neg bad)
  by_cases top : (menuPanel p s).topPage = some (get8 e 5)
  · obtain ⟨t, done, stack, answer⟩ := menuRequest_answers_named h source (by omega) (by omega)
      (acts.trans (if_pos top))
    exact ⟨t, done, stack, fun high => absurd high bad, fun _ _ => answer, fun _ other => absurd top other,
      fun _ other => absurd top other⟩
  replace acts := acts.trans (if_neg top)
  by_cases full : 8 ≤ (menuPanel p s).stack.length
  · obtain ⟨t, done, stack, answer⟩ := menuRequest_answers_named h source (by omega) (by omega)
      (acts.trans (if_pos full))
    exact ⟨t, done, stack, fun high => absurd high bad, fun _ same => absurd same top, fun _ _ _ => answer,
      fun _ _ room => absurd full (not_le.mpr room)⟩
  · obtain ⟨t, done, stack, taken⟩ := menuRequest_taken h source (by omega) (by omega) (acts.trans (if_neg full))
    exact ⟨t, done, stack, fun high => absurd high bad, fun _ same => absurd same top,
      fun _ _ now => absurd now full, fun _ _ _ => taken⟩

/-- MENU_POP (R97); that the page in hand is the one below the top is the model's choice (log 26). -/
theorem menuPop_acts (h : EntryFetched s index e) (source : s.lyu.source = .host) (named : get8 e 4 = panelArgument p)
    (kind : get16 e 0 = 7) :
    ∃ t : State, MenuDispatched p s t ∧
      ((menuPanel p s).stack = [] → Answered .stackEmpty index s t) ∧
      ((menuPanel p s).stack.length = 1 → Answered .ok index s t ∧ (menuPanel p t).stack = [] ∧ (menuPanel p t).top = .none) ∧
      (∀ page : Nat, (menuPanel p s).below = some page →
        WithOwner index s t ∧ (menuPanel p t).stack = (menuPanel p s).stack ∧ t.mnu.request = some ⟨.pop, p, page⟩ ∧
        (s.mnu.held = false → s.mnu.fetch = none → s.mnu.claim = .idle → MenuClaims t .request page)) := by
  have acts : menuAct (get16 e 0) e (dispatchState e s) = requestMenuPop (panelArgument p) (dispatchState e s) := by
    rw [kind, ← named]
    rfl
  have two := (menuPanel p s).below_isSome
  cases below : (menuPanel p s).below with
  | some page =>
    obtain ⟨top, shown⟩ := MenuPanel.topPage_of_below below
    rw [requestMenuPop_deep (s := dispatchState e s) shown below] at acts
    rw [below, Option.isSome_some, eq_comm, decide_eq_true_eq] at two
    obtain ⟨t, done, stack, owner, request, claims⟩ := menuRequest_taken h source (by omega) (by omega) acts
    refine ⟨t, done, fun empty => ?_, fun one => ?_, fun page' same => ?_⟩
    · rw [empty] at two
      cases two
    · omega
    · cases same
      exact ⟨owner, stack, request, claims⟩
  | none =>
    rw [below, Option.isSome_none, eq_comm, decide_eq_false_iff_not] at two
    cases top : (menuPanel p s).topPage with
    | none =>
      have empty : (menuPanel p s).stack = [] := List.getLast?_eq_none_iff.mp top
      rw [requestMenuPop_empty (s := dispatchState e s) top] at acts
      obtain ⟨t, done, -, answer⟩ := menuRequest_answers_named h source (by omega) (by omega) acts
      refine ⟨t, done, fun _ => answer, fun one => ?_, fun page same => by cases same⟩
      rw [empty] at one
      cases one
    | some page =>
      rw [requestMenuPop_single (s := dispatchState e s) top below] at acts
      obtain ⟨t, runs, answer, grant, only, mnu⟩ := menuRequest_empties h source (by omega) (by omega) acts
      have here : menuPanel p t = ⟨[], .none, .stopped, .none⟩ := by rw [menuPanel, mnu, PerPanel.get_set_same]
      refine ⟨t, ⟨.of_panel (by rw [mnu]) rfl (restartedIdle_empty p s).symm (by rw [mnu]) (by rw [mnu]), runs, grant, only⟩,
        fun empty => ?_, fun _ => ⟨answer, by rw [here], by rw [here]⟩, fun page same => by cases same⟩
      rw [MenuPanel.topPage, empty] at top
      cases top

/-- MENU_REPLACE (R96). -/
theorem menuReplace_acts (h : EntryFetched s index e) (source : s.lyu.source = .host) (named : get8 e 4 = panelArgument p)
    (kind : get16 e 0 = 8) :
    ∃ t : State, MenuDispatched p s t ∧
      (menuPanel p t).stack = (menuPanel p s).stack ∧
      (63 < get8 e 5 → Answered .badArgument index s t) ∧
      (get8 e 5 ≤ 63 → (menuPanel p s).stack = [] → Answered .stackEmpty index s t) ∧
      (get8 e 5 ≤ 63 → (menuPanel p s).stack ≠ [] → WithOwner index s t ∧ t.mnu.request = some ⟨.replace, p, get8 e 5⟩ ∧
        (s.mnu.held = false → s.mnu.fetch = none → s.mnu.claim = .idle → MenuClaims t .request (get8 e 5))) := by
  have acts : menuAct (get16 e 0) e (dispatchState e s) = requestMenuReplace (panelArgument p) (get8 e 5) (dispatchState e s) := by
    rw [kind, ← named]
    rfl
  rw [requestMenuReplace_named] at acts
  by_cases bad : 63 < get8 e 5
  · obtain ⟨t, done, stack, answer⟩ := menuRequest_answers_named h source (by omega) (by omega)
      (acts.trans (if_pos bad))
    exact ⟨t, done, stack, fun _ => answer, by omega, by omega⟩
  replace acts := acts.trans (if_neg bad)
  by_cases empty : (menuPanel p s).stack = []
  · obtain ⟨t, done, stack, answer⟩ := menuRequest_answers_named h source (by omega) (by omega)
      (acts.trans (if_pos empty))
    exact ⟨t, done, stack, fun high => absurd high bad, fun _ _ => answer, fun _ filled => absurd empty filled⟩
  · obtain ⟨t, done, stack, taken⟩ := menuRequest_taken h source (by omega) (by omega) (acts.trans (if_neg empty))
    exact ⟨t, done, stack, fun high => absurd high bad, fun _ now => absurd now empty, fun _ _ => taken⟩

/-! ## The expiry of an idle timer (R101) -/

theorem exec_idleExpiry_requested (due : (menuPanel p s).idle.due (now s) = true) (hand : requestFor p s = true) :
    exec (.idleTimerExpiry p) s = .next (restartIdle p s) := by
  simp only [exec, execIdleTimerExpiry, due, hand, if_true]

theorem exec_idleExpiry_empty (due : (menuPanel p s).idle.due (now s) = true) (free : requestFor p s = false)
    (empty : (menuPanel p s).stack = []) :
    exec (.idleTimerExpiry p) s = .next (setMenuPanel p { menuPanel p s with idle := .stopped } s) := by
  simp only [exec, execIdleTimerExpiry, due, free, empty, if_true, Bool.false_eq_true, if_false]

theorem exec_idleExpiry_single (due : (menuPanel p s).idle.due (now s) = true) (free : requestFor p s = false)
    (one : (menuPanel p s).stack.length = 1) : exec (.idleTimerExpiry p) s = .next (changeStack p [] .none s) := by
  obtain ⟨page, single⟩ := List.length_eq_one_iff.mp one
  simp only [exec, execIdleTimerExpiry, due, free, single, if_true, Bool.false_eq_true, if_false]

/-- A panel asks for an auto-pop, its idle timer STOPPED (R101). -/
def autoPopAsked (p : Panel) (s : State) : State := setMenuPanel p { menuPanel p s with idle := .stopped, autoPop := .pending } s

/-- What an expiry over two pages or more leaves: the auto-pop asked for, and MNU's port raised (R93, R101). -/
def autoPopRaised (p : Panel) (s : State) : State := menuKick (autoPopAsked p s)

theorem exec_idleExpiry_deep (due : (menuPanel p s).idle.due (now s) = true) (free : requestFor p s = false)
    (two : 2 ≤ (menuPanel p s).stack.length) : exec (.idleTimerExpiry p) s = .next (autoPopRaised p s) := by
  simp only [exec, execIdleTimerExpiry, due, free, if_true, Bool.false_eq_true, if_false]
  split
  · next empty =>
    rw [empty] at two
    cases two
  · next single =>
    rw [single, List.length_singleton] at two
    omega
  · rfl

/-- An auto-pop asked for waits, and no other work waits more or less. -/
theorem autoPopAsked_waits (two : 2 ≤ (menuPanel p s).stack.length) (purpose : MenuPurpose) :
    MenuFetchWaits (autoPopAsked p s) purpose ↔ purpose = .autoPop p ∨ MenuFetchWaits s purpose := by
  cases purpose with
  | request | service | cameraLost => exact ⟨.inr, fun h => h.resolve_left MenuPurpose.noConfusion⟩
  | autoPop q =>
    by_cases same : q = p
    · subst same
      exact ⟨fun _ => .inl rfl, fun _ => ⟨by rw [autoPopAsked, menuPanel_setMenuPanel], by rw [autoPopAsked, menuPanel_setMenuPanel]; exact two⟩⟩
    · rw [MenuFetchWaits, autoPopAsked, menuPanel_setMenuPanel_other _ _ same]
      exact ⟨.inr, fun h => h.resolve_left fun eq => same (MenuPurpose.autoPop.inj eq)⟩

/-- The work before an auto-pop is the same when it is asked for. -/
theorem autoPopAsked_comesFirst (two : 2 ≤ (menuPanel p s).stack.length) :
    ComesFirst (autoPopAsked p s) (.autoPop p) ↔ ComesFirst s (.autoPop p) := by
  refine forall_congr' fun q => forall_congr' fun before => not_congr ((autoPopAsked_waits two q).trans ⟨fun h => h.resolve_left ?_, .inr⟩)
  rintro rfl
  exact absurd before (lt_irrefl _)

theorem autoPopRaised_changesOnly (p : Panel) (s : State) : ChangesOnly [.mnu, .stw] s (autoPopRaised p s) :=
  ((works_setMenuPanel s p _).seq (works_menuKick _) (blocks := [.mnu, .stw])).only

/-- The fetch of an auto-pop that comes first starts, and otherwise the auto-pop is PENDING (R93, R101). -/
theorem autoPopRaised_starts (two : 2 ≤ (menuPanel p s).stack.length) :
    (∀ page : Nat, (menuPanel p s).below = some page → MenuPortFree s → ComesFirst s (.autoPop p) →
      MenuClaims (autoPopRaised p s) (.autoPop p) page) ∧
    (¬ (MenuPortFree s ∧ ComesFirst s (.autoPop p)) → (menuPanel p (autoPopRaised p s)).autoPop = .pending) := by
  have asked : menuPanel p (autoPopAsked p s) = { menuPanel p s with idle := .stopped, autoPop := .pending } :=
    menuPanel_setMenuPanel _ _ _
  refine ⟨fun page below free first => ?_, fun waits => ?_⟩
  · have needs : waitingPage (autoPopAsked p s) (.autoPop p) = some page := by
      simp only [waitingPage, asked, if_true]
      exact below
    rw [autoPopRaised, menuKick_starts (s := autoPopAsked p s) free needs ((autoPopAsked_comesFirst two).mpr first)]
    exact menuFetchStarted_claims needs
  · rw [autoPopRaised, menuKick_panel_same, asked]
    rintro ⟨-, free, first⟩
    exact waits ⟨free, (autoPopAsked_comesFirst two).mp first⟩

/-- An auto-pop that is asked for pops nothing yet, and stops its panel's timer alone (R101). -/
theorem autoPopRaised_panels (p : Panel) (s : State) :
    (∀ q : Panel, q ≠ p → (menuPanel q (autoPopRaised p s)).stack = (menuPanel q s).stack ∧
      (menuPanel q (autoPopRaised p s)).top = (menuPanel q s).top ∧ (menuPanel q (autoPopRaised p s)).idle = (menuPanel q s).idle) ∧
    (menuPanel p (autoPopRaised p s)).stack = (menuPanel p s).stack ∧ (menuPanel p (autoPopRaised p s)).top = (menuPanel p s).top ∧
    (menuPanel p (autoPopRaised p s)).idle = .stopped := by
  refine ⟨fun q other => ?_, ?_⟩
  · have keeps := menuKick_panel_keeps (autoPopAsked p s) q
    rw [show menuPanel q (autoPopAsked p s) = menuPanel q s from menuPanel_setMenuPanel_other s _ other] at keeps
    exact keeps
  · have keeps := menuKick_panel_keeps (autoPopAsked p s) p
    rw [show menuPanel p (autoPopAsked p s) = _ from menuPanel_setMenuPanel s p _] at keeps
    exact keeps

theorem autoPopRaised_waitsOn (two : 2 ≤ (menuPanel p s).stack.length) (purpose : MenuPurpose) : WaitsOn s (autoPopRaised p s) purpose :=
  fun waits => menuKick_waitsOn _ purpose ((autoPopAsked_waits two purpose).mpr (.inr waits))

/-- An expiry with a request for the panel in hand restarts the timer (R101). -/
theorem idleExpiry_requested (p : Panel) (s : State) :
    ChangesOnly [.mnu, .stw] s (restartIdle p s) ∧ (∀ q : Panel, q ≠ p → menuPanel q (restartIdle p s) = menuPanel q s) ∧
    menuPanel p (restartIdle p s) = { menuPanel p s with idle := restartedIdle p (menuPanel p s).stack s } :=
  ⟨(works_restartIdle s p).only.mono (by simp), fun _ other => menuPanel_setMenuPanel_other s _ other, menuPanel_setMenuPanel s p _⟩

end Requests

/-- Settles O34: a clear empties the stack, or finds it empty with its cache NONE already; a touch restarts the timer alone. -/
theorem menuClearAndTouchAct : Obligations.MenuClearAndTouchAct := by
  intro s index e p h source named safe
  refine ⟨fun kind => ?_, fun kind => ?_⟩
  · have acts : menuAct (get16 e 0) e (dispatchState e s) = requestMenuClear (panelArgument p) (dispatchState e s) := by
      rw [kind, ← named]
      rfl
    rw [requestMenuClear_named] at acts
    by_cases empty : (menuPanel p s).stack = []
    · obtain ⟨t, runs, answer, grant, only, -, mnu⟩ := menuRequest_answers h source (by omega) (by omega) (acts.trans (if_pos empty))
      obtain ⟨-, -, cache, -⟩ := safe
      have blank : touchedPanel p s = ⟨[], .none, .stopped, .none⟩ := by
        rw [touchedPanel, empty, cache.mpr empty, restartedIdle_empty]
      rw [blank] at mnu
      refine ⟨t, runs, answer, grant, ?_⟩
      rw [mnu]
      exact ⟨rfl, rfl, rfl, rfl, only⟩
    · obtain ⟨t, runs, answer, grant, only, mnu⟩ := menuRequest_empties h source (by omega) (by omega) (acts.trans (if_neg empty))
      refine ⟨t, runs, answer, grant, ?_⟩
      rw [mnu]
      exact ⟨rfl, rfl, rfl, rfl, only⟩
  · have acts : menuAct (get16 e 0) e (dispatchState e s) = requestMenuTouch (panelArgument p) (dispatchState e s) := by
      rw [kind, ← named]
      rfl
    rw [requestMenuTouch_named] at acts
    obtain ⟨t, runs, answer, grant, only, dirty, mnu⟩ := menuRequest_answers h source (by omega) (by omega) acts
    refine ⟨t, runs, answer, grant, ?_⟩
    rw [mnu]
    refine ⟨?_, rfl, rfl, rfl, dirty, only⟩
    rintro _ rfl
    rfl

/-- Settles O33: each request is answered or taken in hand on the panel that it touched; an expiry restarts the timer, empties a stack of one
page, or asks for an auto-pop, whose fetch MNU's port starts when it comes first. -/
theorem menuRequestsAndIdleExpiryAct : Obligations.MenuRequestsAndIdleExpiryAct := by
  refine ⟨fun s index e p h source named low high => ?_, fun s index e h source low high unknown => ?_, fun s p expiry running due => ?_⟩
  · obtain kind | kind | kind : get16 e 0 = 6 ∨ get16 e 0 = 7 ∨ get16 e 0 = 8 := by omega
    · obtain ⟨t, done, acts⟩ := menuPush_acts h source named kind
      exact ⟨t, done.runs, done.grant, done.only, done.others, done.autoPop, done.service, done.cameraLost, done.restarts, fun _ => acts,
        by omega, by omega⟩
    · obtain ⟨t, done, acts⟩ := menuPop_acts h source named kind
      exact ⟨t, done.runs, done.grant, done.only, done.others, done.autoPop, done.service, done.cameraLost, done.restarts, by omega, fun _ => acts,
        by omega⟩
    · obtain ⟨t, done, acts⟩ := menuReplace_acts h source named kind
      exact ⟨t, done.runs, done.grant, done.only, done.others, done.autoPop, done.service, done.cameraLost, done.restarts, by omega, by omega,
        fun _ => acts⟩
  · obtain ⟨runs, answer, grant, only⟩ := exec_menuAnswered (blocks := []) h source low high
      (menuAct_unknown unknown low high (dispatchState e s)) (.refl _ _) (by simp)
    exact ⟨_, runs, answer, grant, only⟩
  · have ready : (menuPanel p s).idle.due (now s) = true := by
      rw [running]
      exact due
    cases hand : requestFor p s with
    | true =>
      obtain ⟨only, others, here⟩ := idleExpiry_requested p s
      refine ⟨_, exec_idleExpiry_requested ready hand, only, fun q other => by rw [others q other]; exact ⟨rfl, rfl, rfl⟩, fun _ => ?_,
        Bool.noConfusion, Bool.noConfusion⟩
      rw [here]
      exact ⟨rfl, rfl, rfl, restartedIdle_eq s p _⟩
    | false =>
      obtain empty | one | two : (menuPanel p s).stack = [] ∨ (menuPanel p s).stack.length = 1 ∨ 2 ≤ (menuPanel p s).stack.length := by
        rw [← List.length_eq_zero_iff]
        omega
      · have none : (menuPanel p s).stack.length = 0 := List.length_eq_zero_iff.mpr empty
        exact ⟨_, exec_idleExpiry_empty ready hand empty, (works_setMenuPanel s p _).only.mono (by simp),
          fun q other => by rw [menuPanel_setMenuPanel_other _ _ other]; exact ⟨rfl, rfl, rfl⟩, Bool.noConfusion, by omega, by omega⟩
      · refine ⟨_, exec_idleExpiry_single ready hand one, (works_changeStack s p [] .none).only,
          fun q other => by rw [menuPanel_changeStack_other _ _ _ other]; exact ⟨rfl, rfl, rfl⟩, Bool.noConfusion, fun _ _ => ?_, by omega⟩
        rw [menuPanel_changeStack, restartedIdle_empty]
        exact ⟨rfl, rfl, rfl⟩
      · obtain ⟨others, stack, top, stopped⟩ := autoPopRaised_panels p s
        obtain ⟨claims, pending⟩ := autoPopRaised_starts two
        have busy : s.mnu.held = true ∨ s.mnu.fetch ≠ none ∨ s.mnu.claim ≠ .idle → ¬ MenuPortFree s := by
          rintro held_or ⟨held, fetch, claim⟩
          simp [held, fetch, claim] at held_or
        refine ⟨_, exec_idleExpiry_deep ready hand two, autoPopRaised_changesOnly p s, others, Bool.noConfusion, by omega, fun _ _ =>
          ⟨stack, top, stopped, menuKick_request _, autoPopRaised_waitsOn two,
            fun page below held fetch claim => claims page below ⟨held, fetch, claim⟩, fun later => pending ?_, fun taken => ?_,
            fun held fetch claim => menuKick_raised (s := autoPopAsked p s) held fetch claim⟩⟩
        · rintro ⟨free, first⟩
          rcases later with held | fetch | claim | after
          · exact busy (.inl held) free
          · exact busy (.inr (.inl fetch)) free
          · exact busy (.inr (.inr claim)) free
          · exact after first
        · rw [autoPopRaised, menuKick_busy (s := autoPopAsked p s) (busy taken)]
          exact ⟨rfl, rfl⟩

end Sys2Proof.Machine
end

section
/-! The end of a descriptor fetch: its judgement for its purpose, and the fetch that MNU starts next (R90 to R93, R95 to R97, R101, R103). -/

namespace Sys2Proof.Machine

/-! ## The checks (R91) -/

/-- A descriptor is valid for a panel exactly when it passes the checks of R91. -/
theorem descriptorFailure_eq_none (beats : List ReadBeat) (p : Panel) (storePages : Nat) :
    descriptorFailure beats p storePages = none ↔
      anyPoison beats = false ∧ ValidDescriptor (beatData beats) (panelWidth p) (panelHeight p) storePages := by
  unfold descriptorFailure
  dsimp only
  split_ifs with poison marker size place plane readout
  · exact iff_of_false nofun fun ⟨sound, _⟩ => by rw [poison] at sound; cases sound
  · exact iff_of_false nofun fun ⟨_, valid⟩ => marker valid.marker
  · exact iff_of_false nofun fun ⟨_, valid⟩ => by have := valid.size; omega
  · exact iff_of_false nofun fun ⟨_, valid⟩ => by have := valid.place; omega
  · exact iff_of_false nofun fun ⟨_, valid⟩ => by
      have := valid.plane
      unfold planePages at plane
      omega
  · exact iff_of_false nofun fun ⟨_, valid⟩ => by
      have := valid.readout readout.1
      have := readout.2
      omega
  · unfold planePages at plane
    refine iff_of_true rfl ⟨Bool.eq_false_iff.mpr poison, not_not.mp marker, by omega, by omega, by omega, fun shown => ?_⟩
    by_contra unfit
    exact readout ⟨shown, by omega⟩

section Judged

variable {s t u v : State} {beats : List ReadBeat} {purpose : MenuPurpose} {page : Nat} {verdict : Option Descriptor} {p : Panel}

/-! ## The judgement (R91) -/

/-- What the judgement of a fetch leaves: its grant has ended, the port is free but for a hold, and the fault unit may have heard of it. -/
structure FetchJudged (s u : State) : Prop where
  grant : GrantEnded s u
  mnu : u.mnu = { s.mnu with fetch := none, claim := .idle }
  only : ReportsBeside [.fmc, .mnu] s u

theorem FetchJudged.lyu (h : FetchJudged s u) : u.lyu = s.lyu := h.only .lyu (by decide)

theorem FetchJudged.rqe (h : FetchJudged s u) : u.rqe = s.rqe := h.only .rqe (by decide)

theorem FetchJudged.panel (h : FetchJudged s u) (q : Panel) : menuPanel q u = menuPanel q s := by rw [menuPanel, h.mnu]; rfl

theorem FetchJudged.request (h : FetchJudged s u) : u.mnu.request = s.mnu.request := by rw [h.mnu]

theorem descriptorTaken_changesOnly (s : State) : ChangesOnly [.fmc, .mnu] s (descriptorTaken s) := fun b hb => by
  cases b <;> first | rfl | exact absurd (by simp) hb

theorem fetchJudged_taken (s : State) : FetchJudged s (descriptorTaken s) :=
  ⟨rfl, rfl, .of_changesOnly (descriptorTaken_changesOnly s)⟩

/-- A fetch that fails a check is reported (R91). -/
def descriptorRefused (p : Panel) (page check : Nat) (s : State) : State :=
  reportPlain .menuPageInvalid (panelSource p) (.menuPage page check) (descriptorTaken s)

theorem fetchJudged_refused (p : Panel) (page check : Nat) (s : State) : FetchJudged s (descriptorRefused p page check s) :=
  ⟨(reportPlain_fmc _ _ _ _).trans rfl, (reportPlain_mnu _ _ _ _).trans rfl,
    (fetchJudged_taken s).only.trans (.of_reports (report_changesOnly _ _))⟩

theorem descriptorRefused_flt (p : Panel) (page check : Nat) (s : State) :
    (descriptorRefused p page check s).flt = (report ⟨.menuPageInvalid, panelSource p, .menuPage page check, none⟩ s).flt :=
  report_flt_congr _ rfl rfl

theorem judgeDescriptor_passes (passes : descriptorFailure beats p (rowPages (menuStore s)) = none) :
    judgeDescriptor beats p page s = (some (parseDescriptor (beatData beats)), s) := by
  rw [judgeDescriptor, passes]

theorem judgeDescriptor_fails {check : Nat} (fails : descriptorFailure beats p (rowPages (menuStore s)) = some check) :
    judgeDescriptor beats p page s = (none, reportPlain .menuPageInvalid (panelSource p) (.menuPage page check) s) := by
  rw [judgeDescriptor, fails]

/-- The judgement of a fetch, by the checks it fails. -/
theorem judgeDescriptor_cases (beats : List ReadBeat) (p : Panel) (page : Nat) (s : State) :
    ∃ (verdict : Option Descriptor) (u : State), judgeDescriptor beats p page (descriptorTaken s) = (verdict, u) ∧ FetchJudged s u ∧
      (descriptorFailure beats p (rowPages s.lyu.committed.map.menuStore) = none →
        verdict = some (parseDescriptor (beatData beats)) ∧ u = descriptorTaken s) ∧
      (∀ check : Nat, descriptorFailure beats p (rowPages s.lyu.committed.map.menuStore) = some check →
        verdict = none ∧ u = descriptorRefused p page check s) := by
  cases failure : descriptorFailure beats p (rowPages s.lyu.committed.map.menuStore) with
  | none => exact ⟨_, _, judgeDescriptor_passes (s := descriptorTaken s) failure, fetchJudged_taken s, fun _ => ⟨rfl, rfl⟩, nofun⟩
  | some check =>
    refine ⟨_, _, judgeDescriptor_fails (s := descriptorTaken s) failure, fetchJudged_refused p page check s, nofun, fun _ same => ?_⟩
    cases same
    exact ⟨rfl, rfl⟩

/-! ## The event -/

/-- A fetch that still counts is judged for its purpose, and MNU starts the next (R91, R93). -/
theorem exec_descriptor_judged {purpose : MenuPurpose} (busy : s.fmc.busy = some ⟨.descriptorFetch, beats⟩)
    (fetch : s.mnu.fetch = some ⟨purpose, page, true⟩) (claim : s.mnu.claim.live = true)
    (judged : judgeDescriptor beats (purpose.panel s.mnu.request) page (descriptorTaken s) = (verdict, u)) :
    exec .descriptorFetchComplete s = .next (menuKick (finishMenuFetch purpose verdict u)) := by
  simp only [exec, execDescriptorFetchComplete, busy, fetch, claim, and_self, if_true]
  rw [← descriptorTaken, judged]

/-- A fetch that has been given up is not judged (R91). -/
theorem exec_descriptor_discarded (busy : s.fmc.busy = some ⟨.descriptorFetch, beats⟩)
    (given : ∀ f : MenuFetch, s.mnu.fetch = some f → ¬ (f.live = true ∧ s.mnu.claim.live = true)) :
    exec .descriptorFetchComplete s = .next (menuKick (descriptorTaken s)) := by
  simp only [exec, execDescriptorFetchComplete, busy]
  split
  · next f fetch =>
    rw [if_neg (given f fetch)]
    rfl
  · rfl

/-! ## The request in hand (R95 to R97) -/

/-- A stack as the request in hand leaves it when its descriptor is valid (R95 to R97). -/
def MenuRequest.stackAfter (r : MenuRequest) (stack : List Nat) : List Nat :=
  match r.kind with
  | .push => stack ++ [r.page]
  | .replace => stack.dropLast ++ [r.page]
  | .pop => stack.dropLast

theorem finishMenuRequest_valid (r : MenuRequest) (d : Descriptor) (s : State) :
    finishMenuRequest r (some d) s = answerMenu .ok (changeStack r.panel (r.stackAfter (menuPanel r.panel s).stack) (.valid d) s) := by
  unfold finishMenuRequest MenuRequest.stackAfter
  cases r.kind <;> rfl

theorem finishMenuRequest_invalid {r : MenuRequest} (s : State) :
    (r.kind = .pop → finishMenuRequest r none s =
      answerMenu .pageInvalid (changeStack r.panel (menuPanel r.panel s).stack.dropLast .invalid s)) ∧
    (r.kind ≠ .pop → finishMenuRequest r none s = answerMenu .pageInvalid s) := by
  unfold finishMenuRequest
  cases r.kind <;> simp

theorem answerMenu_mnu (code : ResultCode) (v : State) : (answerMenu code v).mnu = { v.mnu with request := none } := by
  rw [answerMenu, giveResult_mnu]
  rfl

/-- The request in hand is answered after work within MNU: what its answer and the next fetch leave (R46, R93). -/
theorem answerMenu_kicked {code : ResultCode} {index : Count} {phase : EntryPhase} (judged : FetchJudged s u)
    (entry : s.rqe.entry = some ⟨index, phase⟩) (work : Works [.mnu, .stw] u v) (next : t = menuKick (answerMenu code v)) :
    Answered code index s t ∧ GrantEnded s t ∧ t.mnu.request = none ∧
    (∀ q : Panel, (menuPanel q t).stack = (menuPanel q v).stack ∧ (menuPanel q t).top = (menuPanel q v).top) ∧
    t.stw.dirty.has .s4 = true ∧ Works [.mnu, .stw, .rqe] u t := by
  subst next
  have answers : Works [.mnu, .stw, .rqe] u (answerMenu code v) := work.seq (works_answerMenu v code)
  have kicks : Works [.mnu, .stw, .rqe] u (menuKick (answerMenu code v)) := answers.seq (works_menuKick _)
  have marked : (answerMenu code v).stw.dirty.has .s4 = true := by
    rw [answerMenu, giveResult_dirty, markDirty_has]
    exact Bool.or_true _
  have mnu := answerMenu_mnu code v
  have entry' : (markDirty .s4 (setMnu { v.mnu with request := none } v)).rqe.entry = some ⟨index, phase⟩ := by
    rw [markDirty_rqe, setMnu_rqe, work.only .rqe (by decide), judged.rqe, entry]
  obtain ⟨result, answered, -⟩ := giveResult_answered (code := code) entry'
  refine ⟨⟨(menuKick_result _).trans result, (congrArg Rqe.entry (menuKick_rqe _)).trans answered,
      kicks.consumer.trans (congrArg Rqe.consumer judged.rqe), kicks.producer.trans (congrArg Rqe.producer judged.rqe)⟩,
    (kicks.only .fmc (by decide)).trans judged.grant, ?_, fun q => ?_, (works_menuKick _).marks _ marked, kicks⟩
  · rw [menuKick_request, mnu]
  · obtain ⟨stack, top, -⟩ := menuKick_panel_keeps (answerMenu code v) q
    rw [show menuPanel q (answerMenu code v) = menuPanel q v by rw [menuPanel, mnu]; rfl] at stack top
    exact ⟨stack, top⟩

/-- The fetch of the request in hand is judged against the request's panel (R90). -/
theorem exec_descriptor_request {r : MenuRequest} (busy : s.fmc.busy = some ⟨.descriptorFetch, beats⟩)
    (fetch : s.mnu.fetch = some ⟨.request, page, true⟩) (claim : s.mnu.claim = .granted true) (hand : s.mnu.request = some r)
    (judge : judgeDescriptor beats r.panel page (descriptorTaken s) = (verdict, u)) (judged : FetchJudged s u) :
    exec .descriptorFetchComplete s = .next (menuKick (finishMenuRequest r verdict u)) := by
  have against : MenuPurpose.panel s.mnu.request .request = r.panel := by
    rw [hand]
    rfl
  rw [← against] at judge
  rw [exec_descriptor_judged busy fetch (by rw [claim]; rfl) judge, finishMenuFetch, judged.request, hand]

/-- A valid descriptor for the request in hand (R95 to R97). -/
theorem descriptorRequest_valid {r : MenuRequest} {index : Count} {phase : EntryPhase}
    (busy : s.fmc.busy = some ⟨.descriptorFetch, beats⟩) (fetch : s.mnu.fetch = some ⟨.request, page, true⟩)
    (claim : s.mnu.claim = .granted true) (hand : s.mnu.request = some r) (entry : s.rqe.entry = some ⟨index, phase⟩)
    (passes : descriptorFailure beats r.panel (rowPages s.lyu.committed.map.menuStore) = none) :
    ∃ t : State, exec .descriptorFetchComplete s = .next t ∧ Answered .ok index s t ∧ GrantEnded s t ∧ t.mnu.request = none ∧
      (menuPanel r.panel t).top = .valid (parseDescriptor (beatData beats)) ∧
      (menuPanel r.panel t).stack = r.stackAfter (menuPanel r.panel s).stack ∧
      (∀ q : Panel, q ≠ r.panel → (menuPanel q t).stack = (menuPanel q s).stack) ∧
      t.stw.dirty.has .s4 = true ∧ ChangesOnly [.fmc, .mnu, .rqe, .stw] s t := by
  have judged := fetchJudged_taken s
  have runs := exec_descriptor_request busy fetch claim hand (judgeDescriptor_passes (s := descriptorTaken s) passes) judged
  rw [finishMenuRequest_valid] at runs
  obtain ⟨answer, grant, request, panels, marked, work⟩ :=
    answerMenu_kicked (code := .ok) judged entry (works_changeStack (descriptorTaken s) r.panel _ _) rfl
  refine ⟨_, runs, answer, grant, request, ?_, ?_, fun q other => ?_, marked,
    ((descriptorTaken_changesOnly s).mono (by simp)).trans (work.only.mono (by simp))⟩
  · rw [(panels r.panel).2, menuPanel_changeStack]
  · rw [(panels r.panel).1, menuPanel_changeStack]
    rfl
  · rw [(panels q).1, menuPanel_changeStack_other _ _ _ other]
    rfl

/-- An invalid descriptor for the request in hand: only a POP still changes the stack (R95 to R97). -/
theorem descriptorRequest_invalid {r : MenuRequest} {index : Count} {phase : EntryPhase} {check : Nat}
    (busy : s.fmc.busy = some ⟨.descriptorFetch, beats⟩) (fetch : s.mnu.fetch = some ⟨.request, page, true⟩)
    (claim : s.mnu.claim = .granted true) (hand : s.mnu.request = some r) (entry : s.rqe.entry = some ⟨index, phase⟩)
    (fails : descriptorFailure beats r.panel (rowPages s.lyu.committed.map.menuStore) = some check) :
    ∃ t : State, exec .descriptorFetchComplete s = .next t ∧ Answered .pageInvalid index s t ∧ GrantEnded s t ∧
      t.mnu.request = none ∧ t.flt = (report ⟨.menuPageInvalid, panelSource r.panel, .menuPage page check, none⟩ s).flt ∧
      (r.kind = .pop → (menuPanel r.panel t).stack = (menuPanel r.panel s).stack.dropLast ∧ (menuPanel r.panel t).top = .invalid) ∧
      (r.kind ≠ .pop → (menuPanel r.panel t).stack = (menuPanel r.panel s).stack ∧
        (menuPanel r.panel t).top = (menuPanel r.panel s).top) ∧
      (∀ q : Panel, q ≠ r.panel → (menuPanel q t).stack = (menuPanel q s).stack) ∧ ReportsBeside [.fmc, .mnu, .rqe] s t := by
  let refused := descriptorRefused r.panel page check s
  have judged : FetchJudged s refused := fetchJudged_refused r.panel page check s
  have runs := exec_descriptor_request busy fetch claim hand (judgeDescriptor_fails (s := descriptorTaken s) fails) judged
  obtain ⟨pops, stays⟩ := finishMenuRequest_invalid (r := r) refused
  have leaves : ∀ t : State, Works [.mnu, .stw, .rqe] refused t →
      t.flt = (report ⟨.menuPageInvalid, panelSource r.panel, .menuPage page check, none⟩ s).flt ∧
      ReportsBeside [.fmc, .mnu, .rqe] s t := fun t work =>
    ⟨(work.only .flt (by decide)).trans (descriptorRefused_flt r.panel page check s),
      (judged.only.mono (by simp)).trans (work.only.mono (by simp))⟩
  by_cases pop : r.kind = .pop
  · have work := works_changeStack refused r.panel (menuPanel r.panel refused).stack.dropLast .invalid
    obtain ⟨answer, grant, request, panels, -, works⟩ := answerMenu_kicked (code := .pageInvalid) judged entry work rfl
    obtain ⟨flt, only⟩ := leaves _ works
    refine ⟨_, runs.trans (congrArg (fun v => Host.Outcome.next (menuKick v)) (pops pop)), answer, grant, request, flt, fun _ => ?_,
      fun other => absurd pop other, fun q other => ?_, only⟩
    · rw [(panels r.panel).1, (panels r.panel).2, menuPanel_changeStack, judged.panel]
      exact ⟨rfl, rfl⟩
    · rw [(panels q).1, menuPanel_changeStack_other _ _ _ other, judged.panel]
  · obtain ⟨answer, grant, request, panels, -, works⟩ := answerMenu_kicked (code := .pageInvalid) judged entry (.refl _ _) rfl
    obtain ⟨flt, only⟩ := leaves _ works
    refine ⟨_, runs.trans (congrArg (fun v => Host.Outcome.next (menuKick v)) (stays pop)), answer, grant, request, flt,
      fun is => absurd is pop, fun _ => ?_, fun q _ => ?_, only⟩
    · rw [(panels r.panel).1, (panels r.panel).2, judged.panel]
      exact ⟨rfl, rfl⟩
    · rw [(panels q).1, judged.panel]

/-! ## An auto-pop (R101) -/

theorem works_finishAutoPop (p : Panel) (verdict : Option Descriptor) (u : State) :
    Works [.mnu, .stw] u (finishMenuFetch (.autoPop p) verdict u) :=
  (works_changeStack u p _ _).seq (works_setMenuPanel _ p _)

/-- The panel of a judged auto-pop: its top page is removed, and its auto-pop has ended. -/
theorem finishAutoPop_panels (p : Panel) (verdict : Option Descriptor) (u : State) :
    menuPanel p (finishMenuFetch (.autoPop p) verdict u) =
      ⟨(menuPanel p u).stack.dropLast, cacheOf verdict, restartedIdle p (menuPanel p u).stack.dropLast u, .none⟩ ∧
    ∀ q : Panel, q ≠ p → menuPanel q (finishMenuFetch (.autoPop p) verdict u) = menuPanel q u := by
  unfold finishMenuFetch
  refine ⟨?_, fun q other => ?_⟩
  · rw [menuPanel_setMenuPanel, menuPanel_changeStack]
  · rw [menuPanel_setMenuPanel_other _ _ other, menuPanel_changeStack_other _ _ _ other]

/-- A judged auto-pop, and the next fetch (R93, R101). -/
theorem autoPop_kicked (judged : FetchJudged s u) (next : t = menuKick (finishMenuFetch (.autoPop p) verdict u)) :
    menuPanel p t = ⟨(menuPanel p s).stack.dropLast, cacheOf verdict, restartedIdle p (menuPanel p s).stack.dropLast s, .none⟩ ∧
    (∀ q : Panel, q ≠ p → (menuPanel q t).stack = (menuPanel q s).stack ∧ (menuPanel q t).top = (menuPanel q s).top) ∧
    t.mnu.request = s.mnu.request ∧ Works [.mnu, .stw] u t := by
  subst next
  obtain ⟨here, others⟩ := finishAutoPop_panels p verdict u
  refine ⟨?_, fun q other => ?_, ?_, (works_finishAutoPop p verdict u).seq (works_menuKick _)⟩
  · rw [menuKick_panel_same fun ⟨waits, _⟩ => not_waits_of_rests (by rw [here]) waits, here, judged.panel, restartedIdle_congr judged.lyu]
  · obtain ⟨stack, top, -⟩ := menuKick_panel_keeps (finishMenuFetch (.autoPop p) verdict u) q
    rw [others q other, judged.panel] at stack top
    exact ⟨stack, top⟩
  · rw [menuKick_request, ← judged.request]
    exact ((menuWork_changeStack u p _ _).trans (menuWork_setMenuPanel _ p _)).request

/-- The descriptor of an auto-pop (R101). -/
theorem descriptorAutoPop_acts (busy : s.fmc.busy = some ⟨.descriptorFetch, beats⟩)
    (fetch : s.mnu.fetch = some ⟨.autoPop p, page, true⟩) (claim : s.mnu.claim = .granted true) :
    ∃ t : State, exec .descriptorFetchComplete s = .next t ∧ GrantEnded s t ∧
      (menuPanel p t).stack = (menuPanel p s).stack.dropLast ∧ (menuPanel p t).autoPop = .none ∧ t.mnu.request = s.mnu.request ∧
      (∀ timeout : Nat, timeout = s.lyu.committed.idleTimeout.get p →
        (menuPanel p t).idle = (if (menuPanel p s).stack.dropLast ≠ [] ∧ 1 ≤ timeout ∧ timeout ≤ 60
          then .running (s.lyu.partTime + BitVec.ofNat 32 (1000 * timeout)) else .stopped)) ∧
      (∀ q : Panel, q ≠ p → (menuPanel q t).stack = (menuPanel q s).stack ∧ (menuPanel q t).top = (menuPanel q s).top) ∧
      (descriptorFailure beats p (rowPages s.lyu.committed.map.menuStore) = none →
        (menuPanel p t).top = .valid (parseDescriptor (beatData beats)) ∧ ChangesOnly [.fmc, .mnu, .stw] s t) ∧
      (∀ check : Nat, descriptorFailure beats p (rowPages s.lyu.committed.map.menuStore) = some check →
        (menuPanel p t).top = .invalid ∧ t.flt = (report ⟨.menuPageInvalid, panelSource p, .menuPage page check, none⟩ s).flt) ∧
      ReportsBeside [.fmc, .mnu] s t := by
  obtain ⟨verdict, u, judge, judged, passes, fails⟩ := judgeDescriptor_cases beats p page s
  have runs := exec_descriptor_judged (purpose := .autoPop p) busy fetch (by rw [claim]; rfl) judge
  obtain ⟨here, others, request, work⟩ := autoPop_kicked (p := p) (verdict := verdict) judged rfl
  refine ⟨_, runs, (work.only .fmc (by decide)).trans judged.grant, by rw [here], by rw [here], request, ?_, others, fun valid => ?_,
    fun check invalid => ?_, judged.only.trans (work.only.mono (by simp))⟩
  · rw [here]
    exact restartedIdle_eq s p _
  · obtain ⟨rfl, rfl⟩ := passes valid
    rw [here]
    exact ⟨rfl, ((descriptorTaken_changesOnly s).mono (by simp)).trans (work.only.mono (by simp))⟩
  · obtain ⟨rfl, rfl⟩ := fails check invalid
    rw [here]
    exact ⟨rfl, (work.only .flt (by decide)).trans (descriptorRefused_flt p page check s)⟩

/-! ## A notice (R103) -/

theorem noticeOf_ne_pending (verdict : Option Descriptor) : noticeOf verdict ≠ .pending := by cases verdict <;> exact NoticeCache.noConfusion

/-- A notice cache that is filled, and the next fetch (R93, R103). -/
theorem noticeFilled_kicked {m : Mnu} (judged : FetchJudged s u) (panels : m.panels = u.mnu.panels)
    (request : m.request = u.mnu.request) (next : t = menuKick (markDirty .s4 (setMnu m u))) :
    t.mnu.request = s.mnu.request ∧
    (∀ q : Panel, (menuPanel q t).stack = (menuPanel q s).stack ∧ (menuPanel q t).top = (menuPanel q s).top) ∧
    t.stw.dirty.has .s4 = true ∧ Works [.mnu, .stw] u t := by
  subst next
  have filled : Works [.mnu, .stw] u (markDirty .s4 (setMnu m u)) := (works_setMnu u m).seq (works_markDirty _ _)
  refine ⟨?_, fun q => ?_, (works_menuKick _).marks _ (by rw [markDirty_has]; exact Bool.or_true _), filled.seq (works_menuKick _)⟩
  · rw [menuKick_request, ← judged.request]
    exact request
  · obtain ⟨stack, top, -⟩ := menuKick_panel_keeps (markDirty .s4 (setMnu m u)) q
    rw [show menuPanel q (markDirty .s4 (setMnu m u)) = menuPanel q s from
      (congrArg (fun t => PerPanel.get t q) panels).trans (judged.panel q)] at stack top
    exact ⟨stack, top⟩

/-- The notice caches that the fetch of a notice can be for, with the panel it is judged against (R103). -/
def NoticeFetch (purpose : MenuPurpose) (p : Panel) : Prop := (purpose = .service ∧ p = .rl) ∨ (purpose = .cameraLost ∧ p = .c)

/-- A judged notice (R103). -/
theorem descriptorNotice_judged (busy : s.fmc.busy = some ⟨.descriptorFetch, beats⟩)
    (fetch : s.mnu.fetch = some ⟨purpose, page, true⟩) (claim : s.mnu.claim = .granted true) (notice : NoticeFetch purpose p)
    (judge : judgeDescriptor beats p page (descriptorTaken s) = (verdict, u)) (judged : FetchJudged s u) :
    ∃ t : State, exec .descriptorFetchComplete s = .next t ∧ t.mnu.request = s.mnu.request ∧
      (∀ q : Panel, (menuPanel q t).stack = (menuPanel q s).stack ∧ (menuPanel q t).top = (menuPanel q s).top) ∧
      ((purpose = .service → t.mnu.service = noticeOf verdict) ∧ (purpose = .cameraLost → t.mnu.cameraLost = noticeOf verdict)) ∧
      t.stw.dirty.has .s4 = true ∧ Works [.mnu, .stw] u t := by
  have live : s.mnu.claim.live = true := by
    rw [claim]
    rfl
  have filled := noticeOf_ne_pending verdict
  rcases notice with ⟨rfl, rfl⟩ | ⟨rfl, rfl⟩
  · obtain ⟨request, panels, rest⟩ := noticeFilled_kicked (m := { u.mnu with service := noticeOf verdict }) judged rfl rfl rfl
    exact ⟨_, exec_descriptor_judged busy fetch live judge, request, panels, ⟨fun _ => menuKick_service filled, nofun⟩, rest⟩
  · obtain ⟨request, panels, rest⟩ := noticeFilled_kicked (m := { u.mnu with cameraLost := noticeOf verdict }) judged rfl rfl rfl
    exact ⟨_, exec_descriptor_judged busy fetch live judge, request, panels, ⟨nofun, fun _ => menuKick_cameraLost filled⟩, rest⟩

/-- The descriptor of a notice (R103). -/
theorem descriptorNotice_acts (busy : s.fmc.busy = some ⟨.descriptorFetch, beats⟩)
    (fetch : s.mnu.fetch = some ⟨purpose, page, true⟩) (claim : s.mnu.claim = .granted true) (notice : NoticeFetch purpose p) :
    ∃ t : State, exec .descriptorFetchComplete s = .next t ∧ GrantEnded s t ∧ t.mnu.request = s.mnu.request ∧
      (∀ q : Panel, (menuPanel q t).stack = (menuPanel q s).stack ∧ (menuPanel q t).top = (menuPanel q s).top) ∧
      (∀ verdict : NoticeCache,
        (descriptorFailure beats p (rowPages s.lyu.committed.map.menuStore) = none → verdict = .valid (parseDescriptor (beatData beats))) →
        (descriptorFailure beats p (rowPages s.lyu.committed.map.menuStore) ≠ none → verdict = .invalid) →
        (purpose = .service → t.mnu.service = verdict) ∧ (purpose = .cameraLost → t.mnu.cameraLost = verdict)) ∧
      (descriptorFailure beats p (rowPages s.lyu.committed.map.menuStore) = none → t.flt = s.flt) ∧
      (∀ check : Nat, descriptorFailure beats p (rowPages s.lyu.committed.map.menuStore) = some check →
        t.flt = (report ⟨.menuPageInvalid, panelSource p, .menuPage page check, none⟩ s).flt) ∧
      t.stw.dirty.has .s4 = true ∧ ReportsBeside [.fmc, .mnu] s t := by
  obtain ⟨verdict, u, judge, judged, passes, fails⟩ := judgeDescriptor_cases beats p page s
  obtain ⟨t, runs, request, panels, cache, marked, work⟩ := descriptorNotice_judged busy fetch claim notice judge judged
  have flt : t.flt = u.flt := work.only .flt (by decide)
  refine ⟨t, runs, (work.only .fmc (by decide)).trans judged.grant, request, panels, fun expected valid invalid => ?_, fun sound => ?_,
    fun check unsound => ?_, marked, judged.only.trans (work.only.mono (by simp))⟩
  · have same : noticeOf verdict = expected := by
      cases failure : descriptorFailure beats p (rowPages s.lyu.committed.map.menuStore) with
      | none =>
        obtain ⟨rfl, -⟩ := passes failure
        exact (valid failure).symm
      | some check =>
        obtain ⟨rfl, -⟩ := fails check failure
        exact (invalid (by rw [failure]; exact Option.some_ne_none check)).symm
    rw [← same]
    exact cache
  · obtain ⟨-, rfl⟩ := passes sound
    exact flt
  · obtain ⟨-, rfl⟩ := fails check unsound
    exact flt.trans (descriptorRefused_flt p page check s)

/-! ## What waits after the event (R93) -/

/-- Work waits by MNU's own state, its panels and the committed layout alone. -/
theorem menuFetchWaits_congr (request : v.mnu.request = s.mnu.request) (service : v.mnu.service = s.mnu.service)
    (cameraLost : v.mnu.cameraLost = s.mnu.cameraLost) (lyu : v.lyu = s.lyu) (panels : v.mnu.panels = s.mnu.panels) (q : MenuPurpose) :
    MenuFetchWaits v q ↔ MenuFetchWaits s q := by
  cases q <;> simp only [MenuFetchWaits, menuPanel, request, service, cameraLost, lyu, panels]

theorem FetchJudged.waits (h : FetchJudged s u) (q : MenuPurpose) : MenuFetchWaits u q ↔ MenuFetchWaits s q :=
  menuFetchWaits_congr (by rw [h.mnu]) (by rw [h.mnu]) (by rw [h.mnu]) h.lyu (by rw [h.mnu]) q

/-- The answer to the request in hand comes after its panel's stack has changed, or with no stack changed (R95 to R97). -/
theorem finishMenuRequest_cases (r : MenuRequest) (verdict : Option Descriptor) (u : State) :
    ∃ (code : ResultCode) (v : State), finishMenuRequest r verdict u = answerMenu code v ∧
      (v = u ∨ ∃ (stack : List Nat) (top : TopCache), v = changeStack r.panel stack top u) := by
  cases verdict with
  | some d => exact ⟨_, _, finishMenuRequest_valid r d u, .inr ⟨_, _, rfl⟩⟩
  | none =>
    obtain ⟨pops, stays⟩ := finishMenuRequest_invalid (r := r) u
    by_cases pop : r.kind = .pop
    · exact ⟨_, _, pops pop, .inr ⟨_, _, rfl⟩⟩
    · exact ⟨_, _, stays pop, .inl rfl⟩

/-- An answered request is in hand no more; its panel's stack and top cache have changed at most (R95 to R97). -/
theorem finishMenuRequest_mnu (r : MenuRequest) (verdict : Option Descriptor) (u : State) :
    (finishMenuRequest r verdict u).mnu =
      { u.mnu with request := none, panels := (finishMenuRequest r verdict u).mnu.panels } ∧
    (menuPanel r.panel (finishMenuRequest r verdict u)).autoPop = (menuPanel r.panel u).autoPop ∧
    ∀ q : Panel, q ≠ r.panel → menuPanel q (finishMenuRequest r verdict u) = menuPanel q u := by
  obtain ⟨code, v, answers, stack⟩ := finishMenuRequest_cases r verdict u
  have panel : ∀ q : Panel, menuPanel q (answerMenu code v) = menuPanel q v := fun q => by rw [menuPanel, answerMenu_mnu]; rfl
  rw [answers, panel]
  rcases stack with rfl | ⟨stack, top, rfl⟩
  · exact ⟨by rw [answerMenu_mnu], rfl, fun q _ => panel q⟩
  · refine ⟨by rw [answerMenu_mnu, changeStack_mnu], by rw [menuPanel_changeStack], fun q other => ?_⟩
    rw [panel, menuPanel_changeStack_other _ _ _ other]

theorem works_finishMenuFetch (purpose : MenuPurpose) (verdict : Option Descriptor) (u : State) :
    Works [.mnu, .stw, .rqe] u (finishMenuFetch purpose verdict u) := by
  cases purpose with
  | request =>
    unfold finishMenuFetch
    dsimp only
    split
    · next r _ =>
      obtain ⟨code, v, answers, stack⟩ := finishMenuRequest_cases r verdict u
      rw [answers]
      rcases stack with rfl | ⟨stack, top, rfl⟩
      · exact works_answerMenu _ code
      · exact (works_changeStack u r.panel stack top).seq (works_answerMenu _ code)
    · exact .refl _ u
  | service | cameraLost => exact (works_setMnu u _).seq (works_markDirty _ _) (blocks := [.mnu, .stw, .rqe])
  | autoPop p => exact (works_finishAutoPop p verdict u).seq (.refl [] _)

/-- A judged fetch leaves the port as it was. -/
theorem finishMenuFetch_port (purpose : MenuPurpose) (verdict : Option Descriptor) (u : State) :
    (finishMenuFetch purpose verdict u).mnu.held = u.mnu.held ∧ (finishMenuFetch purpose verdict u).mnu.fetch = u.mnu.fetch ∧
    (finishMenuFetch purpose verdict u).mnu.claim = u.mnu.claim := by
  cases purpose with
  | request =>
    unfold finishMenuFetch
    dsimp only
    split
    · next r _ =>
      rw [(finishMenuRequest_mnu r verdict u).1]
      exact ⟨rfl, rfl, rfl⟩
    · exact ⟨rfl, rfl, rfl⟩
  | service | cameraLost => exact ⟨rfl, rfl, rfl⟩
  | autoPop p =>
    rw [finishMenuFetch, setMenuPanel_mnu, changeStack_mnu]
    exact ⟨rfl, rfl, rfl⟩

/-- The work whose fetch has been judged waits no more. -/
theorem finishMenuFetch_spent (purpose : MenuPurpose) (verdict : Option Descriptor) (u : State) :
    ¬ MenuFetchWaits (finishMenuFetch purpose verdict u) purpose := by
  cases purpose with
  | request =>
    unfold finishMenuFetch
    dsimp only
    split
    · next r _ =>
      refine not_not.mpr ?_
      rw [(finishMenuRequest_mnu r verdict u).1]
    · next free => exact not_not.mpr free
  | service | cameraLost => exact fun waits => noticeOf_ne_pending verdict waits.1
  | autoPop p => exact not_waits_of_rests (by rw [(finishAutoPop_panels p verdict u).1])

/-- The other work waits as before: a request's panel has no auto-pop (R93, R94). -/
theorem finishMenuFetch_others (rests : ∀ r, u.mnu.request = some r → (menuPanel r.panel u).autoPop = .none) {q : MenuPurpose}
    (other : q ≠ purpose) : MenuFetchWaits (finishMenuFetch purpose verdict u) q ↔ MenuFetchWaits u q := by
  have lyu : (finishMenuFetch purpose verdict u).lyu = u.lyu := (works_finishMenuFetch purpose verdict u).only .lyu (by decide)
  cases purpose with
  | request =>
    revert lyu
    unfold finishMenuFetch
    dsimp only
    split
    · next r hand =>
      intro lyu
      obtain ⟨mnu, autoPop, panels⟩ := finishMenuRequest_mnu r verdict u
      cases q with
      | request => exact absurd rfl other
      | service | cameraLost => rw [MenuFetchWaits, mnu, lyu]; rfl
      | autoPop p =>
        by_cases same : p = r.panel
        · subst same
          exact iff_of_false (not_waits_of_rests (autoPop.trans (rests r hand))) (not_waits_of_rests (rests r hand))
        · rw [MenuFetchWaits, panels p same]
          rfl
    · exact fun _ => .rfl
  | service => cases q <;> first | exact .rfl | exact absurd rfl other
  | cameraLost => cases q <;> first | exact .rfl | exact absurd rfl other
  | autoPop p =>
    have mnu : (finishMenuFetch (.autoPop p) verdict u).mnu =
        { u.mnu with panels := (finishMenuFetch (.autoPop p) verdict u).mnu.panels } := by
      rw [finishMenuFetch, setMenuPanel_mnu, changeStack_mnu]
    cases q with
    | request => rw [MenuFetchWaits, mnu]; rfl
    | service | cameraLost => rw [MenuFetchWaits, mnu, lyu]; rfl
    | autoPop p' =>
      rw [MenuFetchWaits, (finishAutoPop_panels p verdict u).2 p' fun same => other (congrArg MenuPurpose.autoPop same)]
      rfl

/-- The end of a descriptor fetch, before MNU's port is raised: the port is free but for a hold, and only the work of a fetch that still
counted waits no more. -/
structure DescriptorEnded (s w : State) : Prop where
  grant : GrantEnded s w
  port : w.mnu.held = s.mnu.held ∧ w.mnu.fetch = none ∧ w.mnu.claim = .idle
  fewer : MenuSafe s → ∀ q : MenuPurpose, MenuFetchWaits w q → MenuFetchWaits s q
  others : MenuSafe s → ∀ q : MenuPurpose, (∀ f : MenuFetch, s.mnu.fetch = some f → f.live = true → f.purpose ≠ q) →
    MenuFetchWaits s q → MenuFetchWaits w q
  given : (∀ f : MenuFetch, s.mnu.fetch = some f → f.live = false) → w = descriptorTaken s

theorem descriptorEnded_judged (judged : FetchJudged s u) (fetch : s.mnu.fetch = some ⟨purpose, page, true⟩) :
    DescriptorEnded s (finishMenuFetch purpose verdict u) := by
  have rests : MenuSafe s → ∀ r, u.mnu.request = some r → (menuPanel r.panel u).autoPop = .none := fun safe r hand => by
    rw [judged.panel]
    exact (((menuSafe_iff s).mp safe).request r (judged.request ▸ hand)).1
  obtain ⟨held, flight, claim⟩ := finishMenuFetch_port purpose verdict u
  rw [judged.mnu] at held flight claim
  refine ⟨((works_finishMenuFetch purpose verdict u).only .fmc (by decide)).trans judged.grant, ⟨held, flight, claim⟩,
    fun safe q waits => ?_, fun safe q counts waits => ?_, fun given => Bool.noConfusion (given _ fetch)⟩
  · have other : q ≠ purpose := by
      rintro rfl
      exact finishMenuFetch_spent q verdict u waits
    exact (judged.waits q).mp ((finishMenuFetch_others (rests safe) other).mp waits)
  · exact (finishMenuFetch_others (rests safe) (counts _ fetch rfl).symm).mpr ((judged.waits q).mpr waits)

theorem descriptorEnded_discarded (s : State) : DescriptorEnded s (descriptorTaken s) :=
  have taken := fetchJudged_taken s
  ⟨rfl, ⟨rfl, rfl, rfl⟩, fun _ q => (taken.waits q).mp, fun _ q _ => (taken.waits q).mpr, fun _ => rfl⟩

/-- Every end of a descriptor fetch is a judgement or a discard, and then MNU's port is raised (R91, R93). -/
theorem exec_descriptor_ends (busy : s.fmc.busy = some ⟨.descriptorFetch, beats⟩) :
    ∃ w : State, exec .descriptorFetchComplete s = .next (menuKick w) ∧ DescriptorEnded s w := by
  by_cases counts : ∃ (purpose : MenuPurpose) (page : Nat), s.mnu.fetch = some ⟨purpose, page, true⟩ ∧ s.mnu.claim.live = true
  · obtain ⟨purpose, page, fetch, claim⟩ := counts
    obtain ⟨verdict, u, judge, judged, -⟩ := judgeDescriptor_cases beats (purpose.panel s.mnu.request) page s
    exact ⟨_, exec_descriptor_judged busy fetch claim judge, descriptorEnded_judged judged fetch⟩
  · refine ⟨_, exec_descriptor_discarded busy fun f fetch ⟨live, claim⟩ => counts ⟨f.purpose, f.page, ?_, claim⟩,
      descriptorEnded_discarded s⟩
    rw [fetch, ← live]

/-- MNU's next fetch is for work that waits (R93). -/
theorem menuKick_fetch_waits {f : MenuFetch} (rests : s.mnu.fetch = none) (started : (menuKick s).mnu.fetch = some f) :
    MenuFetchWaits s f.purpose := by
  rcases menuKick_cases s with ⟨same, -⟩ | ⟨purpose, page, starts, -, needs, -⟩
  · rw [same, rests] at started
    cases started
  · rw [starts] at started
    cases started
    exact menuFetchWaits_of_page needs

end Judged

/-- Settles O46: the checks of R91, what the judgement of each purpose leaves, and the fetch that MNU's port starts next. -/
theorem descriptorIsJudged : Obligations.DescriptorIsJudged := by
  refine ⟨fun beats p storePages => ?_, fun s beats page r index phase busy fetch claim hand entry => ⟨fun passes => ?_, fun check fails =>
      descriptorRequest_invalid busy fetch claim hand entry fails⟩,
    fun s beats page p busy fetch claim => ?_, fun s beats page purpose p busy fetch claim notice => ?_, fun s beats busy free => ?_⟩
  · exact descriptorFailure_eq_none beats p storePages
  · exact descriptorRequest_valid busy fetch claim hand entry passes
  · exact descriptorAutoPop_acts busy fetch claim
  · exact descriptorNotice_acts busy fetch claim notice
  · obtain ⟨w, runs, ended⟩ := exec_descriptor_ends busy
    obtain ⟨held, fetch, claim⟩ := ended.port
    have kicks := works_menuKick w
    refine ⟨_, runs, (kicks.only .fmc (by decide)).trans ended.grant, menuKick_raised (held.trans free) fetch claim,
      fun safe => ⟨fun f started => ended.fewer safe _ (menuKick_fetch_waits fetch started),
        fun purpose counts waits => menuKick_waitsOn w purpose (ended.others safe purpose counts waits)⟩, fun given => ?_⟩
    obtain rfl := ended.given given
    refine ⟨kicks.only .flt (by decide), fun q => ?_⟩
    obtain ⟨stack, top, -⟩ := menuKick_panel_keeps (descriptorTaken s) q
    exact ⟨stack, top⟩

end Sys2Proof.Machine
end

section
/-! SUPPORT. The frame of the reverse view and capture. What R110 to R125 say of RVC, CCP and DEN-C's pin record is one view of the state;
every operation outside the reverse view, the camera packets, the pin exchange and the resets leaves it, and each such operation has one
lemma here. -/

namespace Sys2Proof.Machine

/-! ## The view -/

/-- What R110 to R118 say of RVC: the view with its cause and timer, and the camera health with its timers and its count. -/
structure RvcCore where
  view : View
  engageCause : EngageCause
  holdTimer : Timer
  health : Health
  firstFrameDeadline : Timer
  lostTimer : Timer
  recoveryCount : Nat

/-- What R119 to R125 say of CCP: whether it captures, the frames in hand, the lines not yet written, and the latest and the pinned slot. -/
structure CcpCore where
  capturing : Bool
  reception : Reception
  receiving : Option ReceivingFrame
  closing : Option ClosingFrame
  buffer : List CameraLine
  latest : Option (Fin 4)
  pinned : Option (Fin 4)

/-- RVC without the qualification of REV (R108) and without the host's request. -/
def Rvc.core (r : Rvc) : RvcCore :=
  ⟨r.view, r.engageCause, r.holdTimer, r.health, r.firstFrameDeadline, r.lostTimer, r.recoveryCount⟩

/-- CCP without its claim, its counters, the numbers of its frames, and its part in a drain or a hold. -/
def Ccp.core (c : Ccp) : CcpCore := ⟨c.capturing, c.reception, c.receiving, c.closing, c.buffer, c.latest, c.pinned⟩

/-- What R110 to R125 speak of, with DEN-C's pin record (R58). -/
structure CaptureView where
  rvc : RvcCore
  ccp : CcpCore
  pin : Option (Fin 4)

/-- RVC, CCP and the pin record of a state. -/
def captureView (s : State) : CaptureView := ⟨s.rvc.core, s.ccp.core, s.den.pin⟩

theorem captureView_of_fields {s t : State} (rvc : t.rvc = s.rvc) (ccp : t.ccp = s.ccp) (den : t.den = s.den) :
    captureView t = captureView s := by
  rw [captureView, rvc, ccp, den, captureView]

/-- Work in other blocks than RVC, CCP and the display engines leaves the view. -/
theorem ChangesOnly.captureView {blocks : List Block} {s t : State} (h : ChangesOnly blocks s t) (rvc : Block.rvc ∉ blocks := by decide)
    (ccp : Block.ccp ∉ blocks := by decide) (den : Block.den ∉ blocks := by decide) : captureView t = captureView s :=
  captureView_of_fields (h .rvc rvc) (h .ccp ccp) (h .den den)

/-! The two directions in which `simp` meets a record update that leaves the view. -/

@[simp] theorem captureView_mk (fmc : Fmc) (hlp : Hlp) (wdc : Wdc) (lyu : Lyu) (stw : Stw) (rqe : Rqe) (den : Engines)
    (fsq : PerChannel FilmChannel) (mnu : Mnu) (rvc : Rvc) (ccp : Ccp) (gdu : Gdu) (pdu : Pdu) (chu : Chu) (aop : Aop) (flt : Flt)
    (pins : Pins) (freeCount : Nat) (pending : List Instr) :
    captureView ⟨fmc, hlp, wdc, lyu, stw, rqe, den, fsq, mnu, rvc, ccp, gdu, pdu, chu, aop, flt, pins, freeCount, pending⟩ =
      ⟨rvc.core, ccp.core, den.pin⟩ := by rw [captureView]

@[simp] theorem captureView_fields (s : State) : (⟨s.rvc.core, s.ccp.core, s.den.pin⟩ : CaptureView) = captureView s := by
  rw [captureView]

section Frame

variable (s : State)

@[simp] theorem captureView_rvc : (captureView s).rvc = s.rvc.core := rfl
@[simp] theorem captureView_ccp : (captureView s).ccp = s.ccp.core := rfl
@[simp] theorem captureView_pin : (captureView s).pin = s.den.pin := rfl

/-! ## Shared operations -/

@[simp] theorem captureView_freeFmc : captureView (freeFmc s) = captureView s := captureView_of_fields rfl rfl rfl
@[simp] theorem captureView_markDirty (k : StatusSection) : captureView (markDirty k s) = captureView s :=
  captureView_of_fields rfl rfl rfl
@[simp] theorem captureView_raiseCause (c : Cause) : captureView (raiseCause c s) = captureView s :=
  (works_raiseCause s c).only.captureView
@[simp] theorem captureView_setCauses (set : BitVec 6) : captureView (setCauses set s) = captureView s :=
  captureView_of_fields (by simp) (by simp) (by simp)
@[simp] theorem captureView_giveResult (code : ResultCode) : captureView (giveResult code s) = captureView s :=
  (giveResult_changesOnly code s).captureView
@[simp] theorem captureView_setMnu (m : Mnu) : captureView (setMnu m s) = captureView s := captureView_of_fields rfl rfl rfl
@[simp] theorem captureView_setMenuPanel (p : Panel) (m : MenuPanel) : captureView (setMenuPanel p m s) = captureView s :=
  captureView_of_fields rfl rfl rfl
@[simp] theorem captureView_setRqe (r : Rqe) : captureView (setRqe r s) = captureView s := captureView_of_fields rfl rfl rfl
@[simp] theorem captureView_setLyu (l : Lyu) : captureView (setLyu l s) = captureView s := captureView_of_fields rfl rfl rfl
@[simp] theorem captureView_setEngine (p : Panel) (d : Den) : captureView (setEngine p d s) = captureView s := by simp [setEngine]
@[simp] theorem captureView_setRvc (r : Rvc) : captureView (setRvc r s) = { captureView s with rvc := r.core } := by
  unfold setRvc; split <;> rfl
@[simp] theorem captureView_setCcp (c : Ccp) : captureView (setCcp c s) = { captureView s with ccp := c.core } := rfl
@[simp] theorem captureView_setChu (c : Chu) : captureView (setChu c s) = captureView s := (works_setChu s c).only.captureView
@[simp] theorem captureView_setAop (o : Aop) : captureView (setAop o s) = captureView s := (works_setAop s o).only.captureView
@[simp] theorem captureView_setGdu (g : Gdu) : captureView (setGdu g s) = captureView s := (works_setGdu s g).only.captureView
@[simp] theorem captureView_setChannel (x : Channel) (r : FilmChannel) : captureView (setChannel x r s) = captureView s :=
  (setChannel_changesOnly x r s).captureView
@[simp] theorem captureView_settleChu (c : Chu) : captureView (settleChu c s) = captureView s := (settleChu_changesOnly c s).captureView
@[simp] theorem captureView_chimeEvent (e : ChimeEvent) : captureView (chimeEvent e s) = captureView s :=
  (works_chimeEvent s e).only.captureView
@[simp] theorem captureView_cadenceNotice (n : CadenceNotice) : captureView (cadenceNotice n s) = captureView s :=
  captureView_of_fields (by simp) (by simp) (by simp)
@[simp] theorem captureView_sendResponse (r : Response) : captureView (sendResponse r s) = captureView s :=
  captureView_of_fields rfl rfl rfl
@[simp] theorem captureView_report (r : Report) : captureView (report r s) = captureView s := (report_changesOnly r s).captureView
@[simp] theorem captureView_reportPlain (kind : FaultKind) (source : FaultSource) (detail : Detail) :
    captureView (reportPlain kind source detail s) = captureView s := captureView_report s _
@[simp] theorem captureView_reportHost (kind : FaultKind) (source : FaultSource) (detail : Detail) (p : HostRequest) :
    captureView (reportHost kind source detail p s) = captureView s := captureView_report s _
@[simp] theorem captureView_reportMemoryHost (p : HostRequest) (target : Nat) (m : Moved) :
    captureView (reportMemoryHost p target m s) = captureView s :=
  (reportMemory_changesOnly (fun _ _ _ u => report_changesOnly _ u) _ _ s).captureView
@[simp] theorem captureView_reportIfDue (kind : FaultKind) (source : FaultSource) (detail : Option Detail) :
    captureView (reportIfDue kind source detail s) = captureView s := by unfold reportIfDue; split <;> simp
@[simp] theorem captureView_beginGrant (port : Port) (kind : GrantKind) (m : Moved) :
    captureView (beginGrant port kind m s) = captureView s := (beginGrant_reportsBeside port kind m s).captureView

/-! ## Faults, guide lines and park distance -/

@[simp] theorem captureView_requestFaultAck (classes clear : Nat) : captureView (requestFaultAck classes clear s).1 = captureView s := by
  simp only [requestFaultAck]; split <;> simp
@[simp] theorem captureView_requestAttnAck (causes : Nat) : captureView (requestAttnAck causes s).1 = captureView s := by
  unfold requestAttnAck; split <;> simp
@[simp] theorem captureView_requestResume : captureView (requestResume s).1 = captureView s := by
  unfold requestResume; repeat' split
  all_goals simp
@[simp] theorem captureView_staleCheck : captureView (staleCheck s) = captureView s := (works_staleCheck s).only.captureView
@[simp] theorem captureView_steeringBeat (bytes : List Byte) : captureView (steeringBeat bytes s) = captureView s := by
  simp only [steeringBeat]; split <;> simp
@[simp] theorem captureView_requestGuideBank (b : Nat) : captureView (requestGuideBank b s).1 = captureView s := by
  unfold requestGuideBank; repeat' split
  all_goals simp
@[simp] theorem captureView_guideSwitch : captureView (guideSwitch s) = captureView s := (guideSwitch_changesOnly s).captureView
@[simp] theorem captureView_reportList (f : GuideFetch) (v : GuideVerdict) : captureView (reportList f v s) = captureView s := by
  unfold reportList; split <;> simp
@[simp] theorem captureView_handCadence (k : ParkSettings) : captureView (handCadence k s) = captureView s := by
  unfold handCadence; split <;> simp
@[simp] theorem captureView_enterSensorFault (k : ParkSettings) (detail : Detail) :
    captureView (enterSensorFault k detail s) = captureView s := by unfold enterSensorFault; split <;> simp
@[simp] theorem captureView_distanceBeat (bytes : List Byte) : captureView (distanceBeat bytes s) = captureView s := by
  simp only [distanceBeat, evaluatePark]; repeat' split
  all_goals simp

/-! ## Film, chimes and film audio -/

@[simp] theorem captureView_aopKick : captureView (aopKick s) = captureView s := (aopKick_changesOnly s).captureView
@[simp] theorem captureView_setHold (p : RearPanel) (hold : Option Hold) : captureView (p.setHold hold s) = captureView s := by
  cases p <;> rfl
@[simp] theorem captureView_handPresented (x : Channel) (p : Presented) : captureView (handPresented x p s) = captureView s := by
  unfold handPresented; split <;> simp
@[simp] theorem captureView_filmRefresh (p : RearPanel) (showing : Bool) : captureView (filmRefresh p showing s) = captureView s := by
  simp only [filmRefresh]; split <;> simp
@[simp] theorem captureView_rearRefresh (p : RearPanel) : captureView (rearRefresh p s) = captureView s := by simp [rearRefresh]
@[simp] theorem captureView_audioStop (x : Channel) : captureView (audioStop x s) = captureView s := (works_audioStop s x).only.captureView
@[simp] theorem captureView_uiBaseBeat (bytes : List Byte) : captureView (uiBaseBeat bytes s) = captureView s := by
  simp only [uiBaseBeat]; repeat' split
  all_goals simp
@[simp] theorem captureView_audioProducerBeat (x : Channel) (bytes : List Byte) :
    captureView (audioProducerBeat x bytes s) = captureView s := by
  simp only [audioProducerBeat]; repeat' split
  all_goals simp
@[simp] theorem captureView_blockBoundary : captureView (blockBoundary s) = captureView s := by
  simp only [blockBoundary, settleBlock]; split <;> simp
@[simp] theorem captureView_requestChimePlay (clip priority plays route requeue : Nat) :
    captureView (requestChimePlay clip priority plays route requeue s).1 = captureView s := by
  unfold requestChimePlay; repeat' split
  all_goals simp
@[simp] theorem captureView_requestChimeStop (clip : Option Nat) : captureView (requestChimeStop clip s).1 = captureView s := by
  unfold requestChimeStop; repeat' split
  all_goals simp
@[simp] theorem captureView_changeChannel (x : Channel) (f : FilmChannel → FilmChannel) :
    captureView (changeChannel x f s) = captureView s := captureView_setChannel s _ _
@[simp] theorem captureView_requestFilmPlay (x : Channel) : captureView (requestFilmPlay x s).1 = captureView s := by
  unfold requestFilmPlay; repeat' split
  all_goals simp
@[simp] theorem captureView_requestFilmPause (x : Channel) : captureView (requestFilmPause x s).1 = captureView s :=
  captureView_changeChannel s _ _
@[simp] theorem captureView_requestFilmStop (x : Channel) : captureView (requestFilmStop x s).1 = captureView s := by
  simp [requestFilmStop]
@[simp] theorem captureView_requestFilmSeek (h m sec : Nat) (x : Channel) : captureView (requestFilmSeek h m sec x s).1 = captureView s := by
  unfold requestFilmSeek; split <;> simp
theorem captureView_filmRequest (channel : Nat) {act : Channel → State → State × ResultCode}
    (h : ∀ x, captureView (act x s).1 = captureView s) : captureView (filmRequest channel act s).1 = captureView s := by
  unfold filmRequest; repeat' split
  all_goals first | rfl | exact h _

/-! ## Menus -/

@[simp] theorem captureView_restartIdle (p : Panel) : captureView (restartIdle p s) = captureView s := captureView_of_fields rfl rfl rfl
@[simp] theorem captureView_changeStack (p : Panel) (stack : List Nat) (top : TopCache) :
    captureView (changeStack p stack top s) = captureView s := captureView_of_fields rfl rfl rfl
@[simp] theorem captureView_menuKick : captureView (menuKick s) = captureView s := (works_menuKick s).only.captureView
@[simp] theorem captureView_touchPanel (p : Panel) : captureView (touchPanel p s) = captureView s := (works_touchPanel s p).only.captureView
@[simp] theorem captureView_takeInHand (r : MenuRequest) : captureView (takeInHand r s) = captureView s :=
  (works_takeInHand s r).only.captureView
@[simp] theorem captureView_requestMenuPush (panel page : Nat) : captureView (requestMenuPush panel page s).1 = captureView s := by
  simp only [requestMenuPush]; repeat' split
  all_goals simp
@[simp] theorem captureView_requestMenuReplace (panel page : Nat) : captureView (requestMenuReplace panel page s).1 = captureView s := by
  simp only [requestMenuReplace]; repeat' split
  all_goals simp
@[simp] theorem captureView_requestMenuPop (panel : Nat) : captureView (requestMenuPop panel s).1 = captureView s := by
  simp only [requestMenuPop]; repeat' split
  all_goals simp
@[simp] theorem captureView_requestMenuClear (panel : Nat) : captureView (requestMenuClear panel s).1 = captureView s := by
  simp only [requestMenuClear]; repeat' split
  all_goals simp
@[simp] theorem captureView_requestMenuTouch (panel : Nat) : captureView (requestMenuTouch panel s).1 = captureView s := by
  unfold requestMenuTouch; split <;> simp
@[simp] theorem captureView_judgeDescriptor (beats : List ReadBeat) (panel : Panel) (page : Nat) :
    captureView (judgeDescriptor beats panel page s).2 = captureView s := by unfold judgeDescriptor; split <;> simp
@[simp] theorem captureView_finishMenuFetch (purpose : MenuPurpose) (verdict : Option Descriptor) :
    captureView (finishMenuFetch purpose verdict s) = captureView s := (works_finishMenuFetch purpose verdict s).only.captureView

/-! ## The request ring, layouts and what the host's WRITE hands on -/

@[simp] theorem captureView_producerBeat (bytes : List Byte) : captureView (producerBeat bytes s) = captureView s := by
  simp only [producerBeat]; repeat' split
  all_goals simp
@[simp] theorem captureView_enterPhase (phase : EntryPhase) : captureView (enterPhase phase s) = captureView s :=
  captureView_of_fields rfl rfl rfl
@[simp] theorem captureView_resultWritten : captureView (resultWritten s) = captureView s := by
  simp only [resultWritten]; split <;> simp
@[simp] theorem captureView_requestLayoutCommit : captureView (requestLayoutCommit s).1 = captureView s := by
  unfold requestLayoutCommit; split <;> simp
@[simp] theorem captureView_rejectCommit (f : CheckFailure) (code : ResultCode) : captureView (rejectCommit f code s) = captureView s :=
  (rejectCommit_reportsBeside f code s).captureView
@[simp] theorem captureView_applyLayout (l : Layout) : captureView (applyLayout l s) = captureView s :=
  (applyLayout_works l s).only.captureView.trans (committed_works l s).only.captureView
@[simp] theorem captureView_acceptCommit (l : Layout) : captureView (acceptCommit l s) = captureView s := by
  simp only [acceptCommit]; split <;> simp
@[simp] theorem captureView_normalEntryNotice : captureView (normalEntryNotice s) = captureView s :=
  (works_normalEntryNotice s).only.captureView
@[simp] theorem captureView_handView (before : View) : captureView (handView before s) = captureView s :=
  (works_handView s before).only.captureView
@[simp] theorem captureView_engageChime (cause : EngageCause) : captureView (engageChime cause s) = captureView s := by
  unfold engageChime; split <;> simp
@[simp] theorem captureView_takeTrailer (x : Channel) (bytes : List Byte) : captureView (takeTrailer x bytes s) = captureView s := by
  simp only [takeTrailer]; split <;> simp
@[simp] theorem captureView_takeWatched (w : Nat × List Byte) : captureView (takeWatched s w) = captureView s := by
  unfold takeWatched; repeat' split
  all_goals simp
theorem captureView_foldl_takeWatched (ws : List (Nat × List Byte)) (s : State) :
    captureView (ws.foldl takeWatched s) = captureView s := by
  induction ws generalizing s with
  | nil => rfl
  | cons w ws ih => exact (ih _).trans (captureView_takeWatched s w)
@[simp] theorem captureView_handOn (window : Option Channel) (p : HostRequest) : captureView (handOn window p s) = captureView s := by
  simp only [handOn, handTrailer]; repeat' split
  all_goals simp [captureView_foldl_takeWatched]
@[simp] theorem captureView_performTake (p : HostRequest) (target : Nat) (window : Option Channel) :
    captureView (performTake p target window s) = captureView s := by simp [performTake]

end Frame

/-! ## What CCP's bookkeeping leaves -/

section Core

variable (c : Ccp)

/-- A claim raised is none of what R119 to R125 speak of. -/
@[simp] theorem Ccp.kick_core : c.kick.core = c.core := by rw [Ccp.kick_keeps]; rfl

/-- A boundary reported in a drain is none of what R119 to R125 speak of. -/
@[simp] theorem Ccp.boundary_core : c.boundary.core = c.core := by rw [Ccp.boundary_keeps]; rfl

/-- An edge of REV does not move the view (R108). -/
@[simp] theorem Rvc.takeEdge_core (r : Rvc) (t : Millis) (level : RevLevel) : (r.takeEdge t level).core = r.core := by
  unfold Rvc.takeEdge
  split <;> rfl

@[simp] theorem captureView_beginActing (s : State) : captureView (beginActing s) = captureView s := by
  rw [beginActing_eq, captureView_setRvc]
  rfl

@[simp] theorem captureView_startDrain (s : State) : captureView (startDrain s) = captureView s := by
  rw [captureView, captureView, startDrain_ccp, Ccp.boundary_core]
  rfl

@[simp] theorem captureView_releaseReset (s : State) : captureView (releaseReset s) = captureView s :=
  (releaseReset_only s).captureView.trans rfl

end Core

end Sys2Proof.Machine
end

section
/-! SUPPORT. What makes RVC, CCP and the pin safe, said of the view, and what camera health, the camera packets, the pin exchange and the
moves of the reverse view do to it (R58, R110 to R125). -/

namespace Sys2Proof.Machine

namespace CaptureView

/-! ## Safe views -/

/-- RVC and CCP agree: `ReverseSafe`, said of the view, its parts by name (R110 to R119, R125). -/
structure Agrees (v : CaptureView) : Prop where
  normal : v.rvc.view = .normal →
    v.rvc.engageCause = .none ∧ v.rvc.health = .awaiting ∧ v.rvc.recoveryCount = 0 ∧ v.rvc.firstFrameDeadline = .stopped ∧
      v.rvc.lostTimer = .stopped ∧ v.ccp.capturing = false
  reverse : v.rvc.view ≠ .normal → v.rvc.engageCause ≠ .none ∧ v.ccp.capturing = true
  hold : v.rvc.view = .hold ↔ v.rvc.holdTimer ≠ .stopped
  good : v.rvc.health = .good ↔ v.rvc.lostTimer ≠ .stopped
  awaiting : v.rvc.view ≠ .normal → (v.rvc.health = .awaiting ↔ v.rvc.firstFrameDeadline ≠ .stopped)
  recovery : v.rvc.recoveryCount ≤ 1 ∧ (v.rvc.recoveryCount = 1 → v.rvc.health = .lost)
  stopped : v.ccp.capturing = false → v.ccp.receiving = none ∧ v.ccp.closing = none ∧ v.ccp.buffer = [] ∧ v.ccp.latest = none

/-- Capture spares the slots that are shown: `CaptureSafe`, said of the view, its parts by name (R58, R120, R124). -/
structure Spares (v : CaptureView) : Prop where
  receiving : ∀ f, v.ccp.receiving = some f →
    v.ccp.latest ≠ some f.slot ∧ v.ccp.pinned ≠ some f.slot ∧ v.ccp.closing.map ClosingFrame.slot ≠ some f.slot ∧ f.nextLine ≤ 720
  closing : ∀ f, v.ccp.closing = some f → v.ccp.latest ≠ some f.slot ∧ v.ccp.pinned ≠ some f.slot
  reception : v.ccp.reception = .receiving ↔ v.ccp.receiving.isSome = true
  room : v.ccp.buffer.length ≤ 4
  pin : v.pin = v.ccp.pinned

end CaptureView

theorem reverseSafe_iff (s : State) : ReverseSafe s ↔ (captureView s).Agrees :=
  ⟨fun ⟨normal, reverse, hold, good, awaiting, recovery, stopped⟩ => ⟨normal, reverse, hold, good, awaiting, recovery, stopped⟩,
    fun ⟨normal, reverse, hold, good, awaiting, recovery, stopped⟩ => ⟨normal, reverse, hold, good, awaiting, recovery, stopped⟩⟩

theorem captureSafe_iff (s : State) : CaptureSafe s ↔ (captureView s).Spares :=
  ⟨fun ⟨receiving, closing, reception, room, pin⟩ => ⟨receiving, closing, reception, room, pin⟩,
    fun ⟨receiving, closing, reception, room, pin⟩ => ⟨receiving, closing, reception, room, pin⟩⟩

namespace CaptureView

/-- A move of the view that keeps RVC and CCP in agreement and, from a view where they agree, the shown slots spared. -/
structure Moves (v w : CaptureView) : Prop where
  agrees : v.Agrees → w.Agrees
  spares : v.Agrees → v.Spares → w.Spares

variable {u v w : CaptureView}

@[simp] theorem Moves.refl (v : CaptureView) : v.Moves v := ⟨id, fun _ => id⟩

theorem Moves.of_eq (same : w = v) : v.Moves w := same ▸ .refl v

theorem Moves.trans (h : u.Moves v) (k : v.Moves w) : u.Moves w :=
  ⟨fun agrees => k.agrees (h.agrees agrees), fun agrees spares => k.spares (h.agrees agrees) (h.spares agrees spares)⟩

/-- A move may lean on the agreement it starts from. -/
theorem Moves.of_agrees (h : v.Agrees → v.Moves w) : v.Moves w :=
  ⟨fun agrees => (h agrees).agrees agrees, fun agrees => (h agrees).spares agrees⟩

/-! ## Moves of RVC alone -/

/-- A timer or a cause that NORMAL does not have tells that the view is another (R114). -/
theorem Agrees.away (h : v.Agrees) (busy : v.rvc.firstFrameDeadline ≠ .stopped ∨ v.rvc.lostTimer ≠ .stopped ∨ v.ccp.capturing = true) :
    v.rvc.view ≠ .normal := fun normal => by
  obtain ⟨-, -, -, deadline, lost, stopped⟩ := h.normal normal
  simp [deadline, lost, stopped] at busy

/-- RVC moves from a view to a view, both other than NORMAL, while CCP stays. -/
theorem Moves.of_reverse {r : RvcCore} (away : v.Agrees → v.rvc.view ≠ .normal)
    (reverse : v.Agrees → v.rvc.view ≠ .normal → r.view ≠ .normal ∧ r.engageCause ≠ .none)
    (hold : v.Agrees → (r.view = .hold ↔ r.holdTimer ≠ .stopped)) (good : v.Agrees → (r.health = .good ↔ r.lostTimer ≠ .stopped))
    (awaiting : v.Agrees → v.rvc.view ≠ .normal → (r.health = .awaiting ↔ r.firstFrameDeadline ≠ .stopped))
    (recovery : v.Agrees → r.recoveryCount ≤ 1 ∧ (r.recoveryCount = 1 → r.health = .lost)) : v.Moves { v with rvc := r } where
  agrees := fun h =>
    have there := reverse h (away h)
    { normal := fun normal => absurd normal there.1
      reverse := fun _ => ⟨there.2, (h.reverse (away h)).2⟩
      hold := hold h
      good := good h
      awaiting := fun _ => awaiting h (away h)
      recovery := recovery h
      stopped := h.stopped }
  spares := fun _ h => ⟨h.receiving, h.closing, h.reception, h.room, h.pin⟩

/-! ## Moves of CCP alone -/

/-- CCP moves while it captures and goes on capturing: RVC has no part in it. -/
theorem Moves.of_capturing {c : CcpCore} (on : v.Agrees → v.ccp.capturing = true) (goes : c.capturing = v.ccp.capturing)
    (spares : v.Agrees → v.Spares → ({ v with ccp := c } : CaptureView).Spares) : v.Moves { v with ccp := c } where
  agrees := fun h =>
    { normal := fun normal => absurd normal (h.away (.inr (.inr (on h))))
      reverse := fun away => ⟨(h.reverse away).1, goes.trans (on h)⟩
      hold := h.hold
      good := h.good
      awaiting := h.awaiting
      recovery := h.recovery
      stopped := fun off => absurd (goes.symm.trans off) (by simp [on h]) }
  spares := spares

/-- A frame in hand or a line not yet written tells that capture runs (R125). -/
theorem Agrees.capturing (h : v.Agrees) (hand : v.ccp.receiving ≠ none ∨ v.ccp.closing ≠ none ∨ v.ccp.buffer ≠ []) :
    v.ccp.capturing = true := by
  by_contra off
  obtain ⟨receiving, closing, buffer, -⟩ := h.stopped (Bool.eq_false_iff.mpr off)
  simp [receiving, closing, buffer] at hand

/-! ## The view at rest -/

/-- NORMAL with capture stopped: of the slots only the pinned one is kept (R114, R125, R128). -/
def rest (v : CaptureView) : CaptureView :=
  ⟨⟨.normal, .none, .stopped, .awaiting, .stopped, .stopped, 0⟩, ⟨false, .waiting, none, none, [], none, v.ccp.pinned⟩, v.pin⟩

theorem Moves.of_eq_rest (same : w = v.rest) : v.Moves w := by
  rw [same]
  exact ⟨fun _ => ⟨by simp [rest], by simp [rest], by simp [rest], by simp [rest], by simp [rest], by simp [rest], by simp [rest]⟩,
    fun _ h => ⟨by simp [rest], by simp [rest], by simp [rest], by simp [rest], h.pin⟩⟩

end CaptureView

section Operations

open CaptureView

variable {s : State}

/-! ## Camera health (R116 to R118) -/

theorem enterLost_movesCapture (deadline : Bool) (away : (captureView s).Agrees → s.rvc.view ≠ .normal) :
    (captureView s).Moves (captureView (enterLost deadline s)) := by
  have lost : captureView (enterLost deadline s) = { captureView s with
      rvc := { s.rvc.core with health := .lost, lostTimer := .stopped, firstFrameDeadline := .stopped, recoveryCount := 0 } } := by
    simp only [enterLost, captureView_markDirty, captureView_chimeEvent, captureView_reportPlain]
    rfl
  rw [lost]
  exact .of_reverse away (fun h away => ⟨away, (h.reverse away).1⟩) (fun h => h.hold) (fun _ => by simp) (fun _ _ => by simp)
    fun _ => by simp

theorem goodFrameNotice_movesCapture (frameNo : Count) (away : (captureView s).Agrees → s.rvc.view ≠ .normal) :
    (captureView s).Moves (captureView (goodFrameNotice frameNo s)) := by
  rw [goodFrameNotice, captureView_setRvc, Rvc.goodFrame]
  dsimp only
  split
  · exact .of_reverse away (fun h away => ⟨away, (h.reverse away).1⟩) (fun h => h.hold) (fun _ => by simp [Rvc.core, Timer.start])
      (fun _ _ => by simp [Rvc.core]) fun h => by have := h.recovery; simp_all [Rvc.core]
  · next good =>
    exact .of_reverse away (fun h away => ⟨away, (h.reverse away).1⟩) (fun h => h.hold) (fun _ => by simp [Rvc.core, Timer.start, good])
      (fun h => h.awaiting) fun h => h.recovery
  · next lost =>
    split
    · exact .of_reverse away (fun h away => ⟨away, (h.reverse away).1⟩) (fun h => h.hold) (fun h => h.good) (fun h => h.awaiting)
        fun _ => by simp [Rvc.core, lost]
    · exact .of_reverse away (fun h away => ⟨away, (h.reverse away).1⟩) (fun h => h.hold) (fun _ => by simp [Rvc.core, Timer.start])
        (fun h away => by have := h.awaiting away; simp_all [Rvc.core]) fun _ => by simp [Rvc.core]

theorem damagedFrameNotice_movesCapture (s : State) : (captureView s).Moves (captureView (damagedFrameNotice s)) := by
  unfold damagedFrameNotice
  split
  · next lost =>
    rw [captureView_setRvc]
    have away : (captureView s).Agrees → s.rvc.view ≠ .normal := fun h normal => by
      have := (h.normal normal).2.1
      simp [Rvc.core, lost] at this
    exact .of_reverse away (fun h away => ⟨away, (h.reverse away).1⟩) (fun h => h.hold) (fun h => h.good) (fun h => h.awaiting)
      fun _ => by simp [Rvc.core]
  · exact .refl _
  · exact .refl _

/-! ## Frames (R120 to R123) -/

/-- The lines of a damaged frame leave the buffer, and no frame is being received (R123). -/
theorem damaged_core (c : Ccp) (f : ReceivingFrame) (reception : Reception) :
    (c.damaged f reception).core =
      { c.core with receiving := none, reception := reception, buffer := c.buffer.filter fun l => !(l.slot == f.slot) } := by
  rw [Ccp.damaged, Ccp.kick_core]
  rfl

/-- CCP loses a frame that it was receiving: its receiving frame or some of its lines (R123). -/
theorem damaged_movesCapture {f : ReceivingFrame} {reception : Reception} (receiving : s.ccp.receiving = some f) (ends : reception ≠ .receiving) :
    (captureView s).Moves (captureView (setCcp (s.ccp.damaged f reception) s)) := by
  rw [captureView_setCcp, damaged_core]
  refine .of_capturing (fun h => h.capturing (.inl (by simp [Ccp.core, receiving]))) rfl fun _ h => ?_
  exact
    { receiving := fun g hand => by cases hand
      closing := h.closing
      reception := by simp [ends]
      room := Nat.le_trans (List.length_filter_le _ _) h.room
      pin := h.pin }

theorem damageFrame_movesCapture (detail : Detail) {reception : Reception} (ends : reception ≠ .receiving) (s : State) :
    (captureView s).Moves (captureView (damageFrame detail reception s)) := by
  cases hand : s.ccp.receiving with
  | none =>
    refine .of_eq (congrArg captureView ?_)
    unfold damageFrame
    simp only [hand]
  | some f =>
    rw [damageFrame_eq detail reception hand]
    refine Moves.trans ?_ (damagedFrameNotice_movesCapture _)
    rw [captureView_report, captureView_markDirty]
    exact damaged_movesCapture hand ends

/-- After a damage no frame is being received, and capture runs or not as before (R123). -/
theorem damageFrame_leaves (detail : Detail) (reception : Reception) (s : State) :
    (damageFrame detail reception s).ccp.receiving = none ∧ (damageFrame detail reception s).ccp.capturing = s.ccp.capturing := by
  cases hand : s.ccp.receiving with
  | none =>
    unfold damageFrame
    simp only [hand, and_self]
  | some f =>
    rw [(damageFrame_spec detail reception hand).1, Ccp.damaged, Ccp.kick_keeps]
    exact ⟨rfl, rfl⟩

/-- The slot that a frame starts in is FREE: neither that of a frame in hand, nor pinned, nor the latest (7.4, R120). -/
theorem Ccp.lowestFree_free {c : Ccp} {i : Fin 4} (h : c.lowestFree = some i) :
    c.receivingSlot ≠ some i ∧ c.closingSlot ≠ some i ∧ c.pinned ≠ some i ∧ c.latest ≠ some i := by
  have free : c.slotFree i = true := List.find?_some h
  simpa [Ccp.slotFree, and_assoc] using free

theorem startFrame_movesCapture (frameNo : Count) (on : s.ccp.capturing = true) (free : s.ccp.receiving = none) :
    (captureView s).Moves (captureView (startFrame frameNo s)) := by
  unfold startFrame
  split
  · next slot _ lowest =>
    obtain ⟨-, closing, pinned, latest⟩ := Ccp.lowestFree_free lowest
    refine .of_capturing (fun _ => on) rfl fun _ h => ?_
    exact
      { receiving := fun g hand => by cases hand; exact ⟨latest, pinned, closing, Nat.zero_le _⟩
        closing := h.closing
        reception := by simp [Ccp.core]
        room := h.room
        pin := h.pin }
  · refine .of_capturing (fun _ => on) rfl fun _ h => ?_
    exact ⟨h.receiving, h.closing, by simp [Ccp.core, free], h.room, h.pin⟩

/-- A whole frame with no line left becomes the latest: no frame in hand has its slot (R122). -/
theorem closed_movesCapture {f : ClosingFrame} (closing : s.ccp.closing = some f) :
    (captureView s).Moves (captureView (setCcp (s.ccp.closed f) s)) := by
  refine .of_capturing (fun h => h.capturing (.inr (.inl (by simp [Ccp.core, closing])))) rfl fun _ h => ?_
  refine ⟨fun g hand => ?_, fun g hand => (by cases hand), h.reception, h.room, h.pin⟩
  obtain ⟨-, pinned, other, lines⟩ := h.receiving g hand
  refine ⟨fun same => other ?_, pinned, by simp [Ccp.core, Ccp.closed], lines⟩
  simpa [Ccp.core, closing, Ccp.closed] using same

theorem closeIfWritten_movesCapture (s : State) : (captureView s).Moves (captureView (closeIfWritten s)) := by
  unfold closeIfWritten
  split
  · exact .refl _
  · next f closing =>
    split
    · exact .refl _
    · refine .of_agrees fun h => ?_
      have on : s.ccp.capturing = true := h.capturing (.inr (.inl (by simp [Ccp.core, closing])))
      refine (closed_movesCapture closing).trans ?_
      exact goodFrameNotice_movesCapture (s := markDirty .s3 (setCcp (s.ccp.closed f) s)) _ fun h => h.away (.inr (.inr on))

/-! ## Camera packets (R119 to R122) -/

/-- CCP takes packets only while it captures (R119). -/
theorem Ccp.capturing_of_taking {c : Ccp} (taking : c.taking = true) : c.capturing = true := by
  simp only [Ccp.taking, Bool.and_eq_true] at taking
  exact taking.1

@[simp] theorem captureView_boundary (s : State) : captureView (setCcp s.ccp.boundary s) = captureView s := by
  rw [captureView_setCcp, Ccp.boundary_core]
  rfl

theorem takeFrameStart_movesCapture (frameNo : Count) (s : State) : (captureView s).Moves (captureView (takeFrameStart frameNo s)) := by
  unfold takeFrameStart
  split
  · next taking =>
    obtain ⟨free, on⟩ := damageFrame_leaves (.startBeforeEnd s.ccp.frameNo) .discarding s
    dsimp only
    rw [captureView_boundary]
    exact (damageFrame_movesCapture _ (by decide) s).trans
      (startFrame_movesCapture frameNo (on.trans (Ccp.capturing_of_taking taking)) free)
  · exact .refl _

/-- A line that passes is the next of its frame, and the buffer has room (R121). -/
theorem lineFailure_none {c : Ccp} {f : ReceivingFrame} {lineNo : Count} {data : List Byte} {check : BitVec 32}
    (passes : lineFailure c f lineNo data check = none) : f.nextLine < 720 ∧ c.buffer.length < 4 := by
  unfold lineFailure at passes
  split at passes
  · cases passes
  · split at passes
    · cases passes
    · split at passes
      · cases passes
      · omega

theorem takeLine_movesCapture (lineNo : Count) (data : List Byte) (check : BitVec 32) (s : State) :
    (captureView s).Moves (captureView (takeLine lineNo data check s)) := by
  unfold takeLine
  split
  · next f taking hand =>
    split
    · dsimp only
      rw [captureView_boundary]
      exact damageFrame_movesCapture _ (by decide) s
    · next passes =>
      obtain ⟨next, room⟩ := lineFailure_none passes
      dsimp only
      rw [captureView_setCcp, Ccp.kick_core]
      refine .of_capturing (fun _ => Ccp.capturing_of_taking taking) rfl fun _ h => ?_
      refine ⟨fun g joined => ?_, h.closing, ?_, ?_, h.pin⟩
      · cases joined
        obtain ⟨latest, pinned, closing, -⟩ := h.receiving f hand
        exact ⟨latest, pinned, closing, next⟩
      · exact h.reception.trans (by simp [Ccp.core, hand])
      · simpa [Ccp.core] using room
  · exact .refl _

/-- A whole frame ends and closes (R122). -/
theorem closing_movesCapture {f : ReceivingFrame} (hand : s.ccp.receiving = some f) :
    (captureView s).Moves (captureView
      (setCcp { s.ccp with receiving := none, closing := some ⟨f.slot, f.frameNo⟩, reception := .waiting } s)) := by
  refine .of_capturing (fun h => h.capturing (.inl (by simp [Ccp.core, hand]))) rfl fun _ h => ?_
  refine ⟨fun g none => (by cases none), fun g closing => ?_, by simp [Ccp.core], h.room, h.pin⟩
  cases closing
  obtain ⟨latest, pinned, -⟩ := h.receiving f hand
  exact ⟨latest, pinned⟩

theorem takeFrameEnd_movesCapture (s : State) : (captureView s).Moves (captureView (takeFrameEnd s)) := by
  unfold takeFrameEnd
  split
  · next f taking hand =>
    dsimp only
    rw [captureView_boundary]
    split
    · exact damageFrame_movesCapture _ (by decide) s
    · exact (closing_movesCapture hand).trans (closeIfWritten_movesCapture _)
  · next taking free =>
    refine .of_capturing (fun _ => Ccp.capturing_of_taking taking) rfl fun _ h => ?_
    exact ⟨h.receiving, h.closing, by simp [Ccp.core, free], h.room, h.pin⟩
  · exact .refl _

/-- Lines leave the buffer, or one of them is written in part (R121). -/
theorem written_movesCapture {lines : List CameraLine} {claim : Claim} (some : s.ccp.buffer ≠ []) (fewer : lines.length ≤ s.ccp.buffer.length) :
    (captureView s).Moves (captureView (setCcp (Ccp.kick { s.ccp with claim := claim, buffer := lines }) s)) := by
  rw [captureView_setCcp, Ccp.kick_core]
  exact .of_capturing (fun h => h.capturing (.inr (.inr some))) rfl fun _ h =>
    ⟨h.receiving, h.closing, h.reception, Nat.le_trans fewer h.room, h.pin⟩

theorem lineWritten_movesCapture (s : State) : (captureView s).Moves (captureView (lineWritten s)) := by
  unfold lineWritten
  dsimp only
  split
  · split
    · exact .refl _
    · next line rest buffer =>
      have some : s.ccp.buffer ≠ [] := by simp [buffer]
      split
      · exact written_movesCapture some (by simp [buffer])
      · rw [captureView_boundary]
        exact (written_movesCapture some (by simp [buffer])).trans (closeIfWritten_movesCapture _)
  · rw [captureView_setCcp, Ccp.kick_core]
    exact .refl _

/-! ## The pin (R58, R124) -/

/-- The pin moves to the latest slot, which no frame in hand has, or is released; the pin record follows it. -/
theorem pinExchange_movesCapture (move : Bool) (s : State) : (captureView s).Moves (captureView (pinExchange move s)) := by
  have rvc : (pinExchange move s).rvc = s.rvc := pinExchange_changesOnly move s .rvc (by decide)
  rw [captureView, captureView, rvc, pinExchange_ccp, pinExchange_den]
  have spared : ∀ i : Fin 4, s.ccp.latest ≠ some i → (if move then s.ccp.latest else none) ≠ some i := fun i other => by
    split
    · exact other
    · simp
  refine ⟨fun h => ⟨h.normal, h.reverse, h.hold, h.good, h.awaiting, h.recovery, h.stopped⟩, fun _ h =>
    ⟨fun f hand => ?_, fun f hand => ?_, h.reception, h.room, rfl⟩⟩
  · obtain ⟨latest, -, closing, lines⟩ := h.receiving f hand
    exact ⟨latest, spared _ latest, closing, lines⟩
  · obtain ⟨latest, -⟩ := h.closing f hand
    exact ⟨latest, spared _ latest⟩

theorem centreRow_movesCapture (s : State) : (captureView s).Moves (captureView (centreRow s).1) := by
  unfold centreRow
  split <;> exact pinExchange_movesCapture _ s

theorem centreRefresh_movesCapture (s : State) : (captureView s).Moves (captureView (centreRefresh s)) := by
  simp only [centreRefresh]
  split
  · rw [captureView_setEngine]
    exact (Moves.of_eq (by simp)).trans (pinExchange_movesCapture false _)
  · rw [captureView_setEngine]
    exact (Moves.of_eq (by simp)).trans (centreRow_movesCapture _)

/-! ## The moves of the reverse view (R110 to R114, R125) -/

/-- The view as it is engaged from NORMAL: capture runs, with no frame in hand, and health waits for its first frame (R111, R125). -/
theorem viewEngage_movesCapture {cause : EngageCause} (known : cause ≠ .none) (normal : s.rvc.view = .normal) :
    (captureView s).Moves (captureView (viewEngage cause s)) := by
  refine .of_agrees fun h => ?_
  obtain ⟨-, -, -, -, -, off⟩ := h.normal normal
  obtain ⟨receiving, closing, buffer, latest⟩ := h.stopped off
  have rests : s.rvc.holdTimer = .stopped := by
    by_contra runs
    have := h.hold.mpr runs
    simp [Rvc.core, normal] at this
  have engaged : captureView (viewEngage cause s) = ⟨⟨.engaged, cause, s.rvc.holdTimer, .awaiting, .running (s.lyu.partTime + 250), .stopped, 0⟩,
      ⟨true, .waiting, s.ccp.receiving, s.ccp.closing, s.ccp.buffer, s.ccp.latest, s.ccp.pinned⟩, s.den.pin⟩ := by
    have capturing : s.ccp.capturing = false := off
    simp [viewEngage, startCapture, capturing, Rvc.core, Ccp.core, Timer.start, now]
  rw [engaged]
  refine ⟨fun _ => ?_, fun _ spares => ?_⟩
  · exact
      { normal := fun h => by cases h
        reverse := fun _ => ⟨known, rfl⟩
        hold := by simp [rests]
        good := by simp
        awaiting := fun _ => by simp
        recovery := by simp
        stopped := fun h => by cases h }
  · exact ⟨spares.receiving, spares.closing, by simp [show s.ccp.receiving = none from receiving], spares.room, spares.pin⟩

theorem viewReengage_movesCapture {cause : EngageCause} (known : cause ≠ .none) (hold : s.rvc.view = .hold) :
    (captureView s).Moves (captureView (viewReengage cause s)) := by
  simp only [viewReengage, captureView_engageChime, captureView_handView, captureView_setRvc]
  exact .of_reverse (fun _ => by simp [Rvc.core, hold]) (fun _ _ => ⟨by simp [Rvc.core], known⟩) (fun _ => by simp [Rvc.core])
    (fun h => h.good) (fun h => h.awaiting) fun h => h.recovery

theorem captureView_stopCapture (s : State) :
    captureView (stopCapture s) = { captureView s with ccp := ⟨false, .waiting, none, none, [], none, s.ccp.pinned⟩ } := by
  rw [stopCapture, captureView_markDirty, captureView_setCcp, Ccp.boundary_core]
  rfl

/-- The entry into NORMAL stops capture (R114, R125). -/
theorem captureView_enterNormal (s : State) : captureView (enterNormal s) = (captureView s).rest := by
  simp only [enterNormal, captureView_normalEntryNotice, captureView_raiseCause, captureView_handView, captureView_stopCapture,
    captureView_setRvc, setRvc_ccp]
  rfl

theorem viewHold_movesCapture (engaged : s.rvc.view = .engaged) : (captureView s).Moves (captureView (viewHold s)) := by
  simp only [viewHold]
  split
  · exact .of_eq_rest (captureView_enterNormal s)
  · rw [captureView_handView, captureView_setRvc]
    exact .of_reverse (fun _ => by simp [Rvc.core, engaged]) (fun h away => ⟨by simp [Rvc.core], (h.reverse away).1⟩)
      (fun _ => by simp [Rvc.core, Timer.start]) (fun h => h.good) (fun h => h.awaiting) fun h => h.recovery

theorem evaluateDemand_movesCapture {cause : EngageCause} (known : cause ≠ .none) (s : State) :
    (captureView s).Moves (captureView (evaluateDemand cause s)) := by
  unfold evaluateDemand
  split
  · next normal _ => exact viewEngage_movesCapture known normal
  · next engaged _ => exact viewHold_movesCapture engaged
  · next hold _ => exact viewReengage_movesCapture known hold
  all_goals exact .refl _

theorem requestViewCamera_movesCapture (argument : Nat) (s : State) :
    (captureView s).Moves (captureView (requestViewCamera argument s).1) := by
  have asked : ∀ on, captureView (askView on s) = captureView s := fun on => captureView_setRvc s _
  unfold requestViewCamera
  split
  · have ends := (Moves.of_eq (asked false)).trans (.of_eq_rest (captureView_enterNormal _))
    simp only [viewCameraOff]
    split
    · exact .of_eq (asked false)
    · exact .of_eq (asked false)
    · exact ends
    · exact ends
  · exact (Moves.of_eq (asked true)).trans (evaluateDemand_movesCapture EngageCause.noConfusion _)
  · exact .refl _

theorem qualifyRev_movesCapture (s : State) : (captureView s).Moves (captureView (qualifyRev s)) := by
  unfold qualifyRev
  repeat' split
  · exact .refl _
  · refine Moves.trans (.of_eq ?_) (evaluateDemand_movesCapture EngageCause.noConfusion _)
    exact captureView_setRvc s _
  · exact .refl _

theorem endHold_movesCapture (s : State) : (captureView s).Moves (captureView (endHold s)) := by
  unfold endHold
  split
  · next due =>
    split
    · exact .of_eq_rest (captureView_enterNormal s)
    all_goals
      next other =>
      have stops : captureView { s with rvc := { s.rvc with holdTimer := .stopped } } =
          { captureView s with rvc := { s.rvc.core with holdTimer := .stopped } } := rfl
      rw [stops]
      refine .of_agrees fun h => absurd (h.hold.mpr ?_) (by simp [Rvc.core, other])
      intro rests
      rw [show s.rvc.holdTimer = .stopped from rests] at due
      cases due
  · exact .refl _

/-! ## The warm reset (R128) -/

theorem applyReset_movesCapture (s : State) : (captureView s).Moves (captureView (applyReset s)) := by
  exact .of_eq_rest ((applyReset_only s).captureView.trans rfl)

theorem resetNow_movesCapture (s : State) : (captureView s).Moves (captureView (resetNow s)) := by
  unfold resetNow
  split
  · exact applyReset_movesCapture s
  · rw [captureView_releaseReset]
    exact applyReset_movesCapture s

theorem checkDrain_movesCapture (s : State) : (captureView s).Moves (captureView (checkDrain s)) := by
  unfold checkDrain
  split
  · exact resetNow_movesCapture s
  · exact .refl _

theorem takeAssertion_movesCapture (s : State) : (captureView s).Moves (captureView (takeAssertion s)) := by
  unfold takeAssertion
  split
  · exact resetNow_movesCapture s
  · exact (Moves.of_eq (captureView_startDrain s)).trans (checkDrain_movesCapture _)

end Operations

end Sys2Proof.Machine
end

section
/-! What every command can do to the reverse view and to capture, and the statement that each step keeps them in agreement and the shown slots
spared (R58, R110 to R128). -/

namespace Sys2Proof.Machine

open CaptureView

/-! ## Commands -/

/-- Every next state of an outcome is a move of the reverse view and capture. -/
def MovesCapture (v : CaptureView) (o : Host.Outcome State Fault Refusal) : Prop := ∀ t : State, o = .next t → v.Moves (captureView t)

@[simp] theorem movesCapture_next (v : CaptureView) (t : State) : MovesCapture v (.next t) ↔ v.Moves (captureView t) :=
  ⟨fun h => h t rfl, fun h _ next => by cases next; exact h⟩

@[simp] theorem movesCapture_fault (v : CaptureView) (f : Fault) : MovesCapture v (.fault f) := fun _ h => by cases h

@[simp] theorem movesCapture_refused (v : CaptureView) (r : Refusal) : MovesCapture v (.refused r) := fun _ h => by cases h

section Commands

variable (s : State)

/-! ### Grants: each leaves the view, CCP's too, which marks its claim granted (R19, R121) -/

theorem movesCapture_grantRead {port : Port} {kind : GrantKind} {r : Req} {granted : State → State}
    (h : captureView (granted s) = captureView s) : MovesCapture (captureView s) (grantRead port kind r granted s) := by
  unfold grantRead
  split <;> simp [h]

theorem movesCapture_withClaim {c : Claim} {f : Req → Host.Outcome State Fault Refusal} (h : ∀ r, MovesCapture (captureView s) (f r)) :
    MovesCapture (captureView s) (withClaim c s f) := by
  unfold withClaim
  split
  · exact h _
  · simp
  · simp

theorem movesCapture_grantHost (p : HostRequest) : MovesCapture (captureView s) (grantHost p s) := by
  unfold grantHost
  repeat' split
  all_goals simp [answerTake]

theorem movesCapture_grantStatus : MovesCapture (captureView s) (grantStatus s) := by
  unfold grantStatus
  split <;> simp [grantSection, grantResult]

theorem movesCapture_grantCapture (r : Req) : MovesCapture (captureView s) (grantCapture r s) := by
  have granted : ∀ m : Moved, MovesCapture (captureView s)
      (.next (beginGrant .ccp .cameraWrite m { s with ccp := { s.ccp with claim := .granted true } })) := fun m => by
    rw [movesCapture_next, captureView_beginGrant]
    exact .refl _
  simp only [grantCapture]
  repeat' split
  all_goals simp only [granted, movesCapture_fault]

theorem movesCapture_grantTo (port : Port) : MovesCapture (captureView s) (grantTo port s) := by
  unfold grantTo
  cases port with
  | host =>
    dsimp only
    split
    · exact movesCapture_grantHost s _
    · simp
  | stw => exact movesCapture_grantStatus s
  | ccp => exact movesCapture_withClaim s (movesCapture_grantCapture s)
  | rqe | lyu | mnu | gdu | denRl | denRr | denC | aop | chu =>
    exact movesCapture_withClaim s fun _ => movesCapture_grantRead s (by simp)

theorem movesCapture_execArbiterGrant : MovesCapture (captureView s) (execArbiterGrant s) := by
  unfold execArbiterGrant
  split
  · next k port _ _ _ => exact movesCapture_grantTo { s with fmc := s.fmc.setRotation k port } port
  all_goals simp

/-! ### The request ring -/

theorem dispatchKind_movesCapture {kind : Nat} {e : List Byte} {r : State × Option ResultCode} (h : dispatchKind kind e s = some r) :
    (captureView s).Moves (captureView r.1) := by
  unfold dispatchKind at h
  dsimp only at h
  split at h
  case h_11 => cases h; exact requestViewCamera_movesCapture _ s
  case h_18 => cases h
  all_goals
    cases h
    refine .of_eq ?_
    simp [answered, captureView_filmRequest]

theorem judgeEntry_movesCapture (index : Count) (e : List Byte) : (captureView s).Moves (captureView (judgeEntry index e s)) := by
  simp only [judgeEntry]
  repeat' split
  · simp
  · simp
  · next dispatched =>
    have acts := dispatchKind_movesCapture _ dispatched
    rw [captureView_enterPhase] at acts
    unfold finishDispatch
    split
    · simpa using acts
    · exact acts
  · exact .refl _

theorem entryFetched_movesCapture (beats : List ReadBeat) : (captureView s).Moves (captureView (entryFetched beats s)) := by
  simp only [entryFetched]
  repeat' split
  · simp
  · simpa using judgeEntry_movesCapture (setRqe { s.rqe with claim := .idle, fetched := beatData beats } s) _ _
  · simp

/-! ### The resets -/

theorem movesCapture_execPowerOnReset : MovesCapture (captureView s) (execPowerOnReset s) := by
  rw [execPowerOnReset, movesCapture_next]
  exact ⟨fun _ => (reverseSafe_iff State.reset).mp reverseSafe_reset, fun _ _ => (captureSafe_iff State.reset).mp captureSafe_reset⟩

theorem movesCapture_execInitEnd : MovesCapture (captureView s) (execInitEnd s) := by
  have begun : captureView (beginActing (raiseCause .resetDone (markDirty .s0 (enterRunning s)))) = captureView s := by
    simp [enterRunning]
  simp only [execInitEnd]
  repeat' split
  · simp
  · simp [begun]
  · rw [movesCapture_next, ← begun]
    exact takeAssertion_movesCapture _

theorem movesCapture_execWrstAssert : MovesCapture (captureView s) (execWrstAssert s) := by
  simp only [execWrstAssert]
  repeat' split
  · simp
  · exact (movesCapture_next _ _).mpr (takeAssertion_movesCapture { s with pins := { s.pins with wrst := .high } })
  all_goals simp

theorem movesCapture_execDrainLimitExpiry : MovesCapture (captureView s) (execDrainLimitExpiry s) := by
  unfold execDrainLimitExpiry
  split
  · exact (movesCapture_next _ _).mpr (resetNow_movesCapture s)
  · simp

/-! ### Camera health (R116, R117) -/

theorem due_ne_stopped {t : Millis} {timer : Timer} (due : timer.due t = true) : timer ≠ .stopped := by
  rintro rfl
  cases due

/-- The deadline runs only while health waits for its first frame, in a view other than NORMAL (R116). -/
theorem movesCapture_execFirstFrameDeadlineExpiry : MovesCapture (captureView s) (execFirstFrameDeadlineExpiry s) := by
  unfold execFirstFrameDeadlineExpiry
  split
  · next due =>
    have away : (captureView s).Agrees → s.rvc.view ≠ .normal := fun h => h.away (.inl (due_ne_stopped due))
    have waits : (captureView s).Agrees → s.rvc.health = .awaiting := fun h => (h.awaiting (away h)).mpr (due_ne_stopped due)
    split
    · exact (movesCapture_next _ _).mpr (enterLost_movesCapture true away)
    all_goals
      next other => exact (movesCapture_next _ _).mpr (.of_agrees fun h => absurd (waits h) (by simp [other]))
  · simp

/-- The lost timer runs only while health is GOOD (R117). -/
theorem movesCapture_execLostTimerExpiry : MovesCapture (captureView s) (execLostTimerExpiry s) := by
  unfold execLostTimerExpiry
  split
  · next due =>
    have good : (captureView s).Agrees → s.rvc.health = .good := fun h => h.good.mpr (due_ne_stopped due)
    split
    · exact (movesCapture_next _ _).mpr (enterLost_movesCapture false fun h => h.away (.inr (.inl (due_ne_stopped due))))
    all_goals
      next other => exact (movesCapture_next _ _).mpr (.of_agrees fun h => absurd (good h) (by simp [other]))
  · simp

end Commands

/-- What every command can do to the reverse view and capture. -/
theorem exec_movesCapture (c : Instr) (s : State) : MovesCapture (captureView s) (exec c s) := by
  have drains : ∀ u : State, (captureView s).Moves (captureView u) → MovesCapture (captureView s) (.next (checkDrain u)) := fun u moves =>
    (movesCapture_next _ _).mpr (moves.trans (checkDrain_movesCapture u))
  cases c
  case powerOnReset => exact movesCapture_execPowerOnReset s
  case initEnd => exact movesCapture_execInitEnd s
  case arbiterGrant => exact movesCapture_execArbiterGrant s
  case wrstAssert => exact movesCapture_execWrstAssert s
  case drainLimitExpiry => exact movesCapture_execDrainLimitExpiry s
  case firstFrameDeadlineExpiry => exact movesCapture_execFirstFrameDeadlineExpiry s
  case lostTimerExpiry => exact movesCapture_execLostTimerExpiry s
  case revPendingExpiry => exact drains _ (qualifyRev_movesCapture s)
  case holdTimerExpiry => exact drains _ (endHold_movesCapture s)
  case frameStart => exact drains _ (takeFrameStart_movesCapture _ s)
  case line => exact drains _ (takeLine_movesCapture _ _ _ s)
  case frameEnd => exact drains _ (takeFrameEnd_movesCapture s)
  case blockBoundary => exact drains _ (by simp)
  case entryFetchComplete =>
    simp only [exec, execEntryFetchComplete]
    split
    · exact drains _ (entryFetched_movesCapture (freeFmc s) _)
    · simp
  case resultWriteComplete =>
    simp only [exec, execResultWriteComplete]
    split
    · exact drains _ (by simp)
    · simp
  case cameraLineWriteComplete =>
    simp only [exec, execCameraLineWriteComplete]
    split
    · exact drains _ (lineWritten_movesCapture (freeFmc s))
    · simp
  case refreshStart p =>
    simp only [exec, execRefreshStart]
    repeat' split
    all_goals simp [centreRefresh_movesCapture]
  case memoryCellDisturbance | hostRequestPacket | hostGrantComplete | statusSectionWriteComplete | wrstDeassert | lineDue |
      layoutFetchGrantComplete | validationEnd | lineFetchGrantComplete | descriptorFetchComplete | idleTimerExpiry | revEdge |
      unknownCameraPacket | staleTimerExpiry | guideListGrantComplete | distanceTimerExpiry | clipDirectoryFetchComplete |
      clipBlockFetchComplete | tonePeriodWrap | audioBlockFetchComplete | partTimeTick =>
    simp only [exec, execMemoryCellDisturbance, execHostRequestPacket, execHostGrantComplete, execStatusSectionWriteComplete,
      execWrstDeassert, execLineDue, execLayoutFetchGrantComplete, execValidationEnd, execLineFetchGrantComplete,
      execDescriptorFetchComplete, execIdleTimerExpiry, execRevEdge, execUnknownCameraPacket, execStaleTimerExpiry,
      execGuideListGrantComplete, execDistanceTimerExpiry, execClipDirectoryFetchComplete, execClipBlockFetchComplete,
      execTonePeriodWrap, execAudioBlockFetchComplete, execPartTimeTick]
    repeat' split
    all_goals simp

/-! ## The statement -/

/-- Settles O13: RVC, CCP and the pin record are one view of the state, and every command is a move of the view that keeps RVC and CCP in
agreement and, on that premise, the shown slots spared. -/
theorem captureSparesShownSlots : Obligations.CaptureSparesShownSlots :=
  ⟨step_keeps (fun _ _ => id) fun c s t safe h =>
      (reverseSafe_iff t).mpr ((exec_movesCapture c s t h).agrees ((reverseSafe_iff s).mp safe)),
    fun s t ⟨reverse, capture⟩ => And.right ∘ step_keeps (P := fun s => ReverseSafe s ∧ CaptureSafe s) (fun _ _ => id)
      (fun c s t ⟨agrees, spares⟩ h =>
        have moves := exec_movesCapture c s t h
        have agrees := (reverseSafe_iff s).mp agrees
        ⟨(reverseSafe_iff t).mpr (moves.agrees agrees), (captureSafe_iff t).mpr (moves.spares agrees ((captureSafe_iff s).mp spares))⟩)
      s t ⟨reverse, capture⟩⟩

end Sys2Proof.Machine
end

section
/-! SUPPORT. Camera packets outside the last boundary of a drain (R119 to R123, R127): what a damaged frame, a frame's start and a whole frame
leave, with RVC's notices (R116 to R118). -/

namespace Sys2Proof.Machine

/-! ## An event that ends no drain -/

/-- While RQE or CHU has not reported its boundary, an event that leaves the two and the phase ends no drain (R38). -/
theorem checkDrain_rests {s u : State} (waits : NotLast s [s.rqe.drain, s.chu.drain]) (lyu : u.lyu = s.lyu) (rqe : u.rqe = s.rqe)
    (chu : u.chu.drain = s.chu.drain) : checkDrain u = u :=
  checkDrain_of_notLast (others := [s.rqe.drain, s.chu.drain]) (by rw [NotLast, lyu]; exact waits) (by simp [rqe, chu])

theorem checkDrain_setCcp {s : State} (waits : NotLast s [s.rqe.drain, s.chu.drain]) (c : Ccp) : checkDrain (setCcp c s) = setCcp c s :=
  checkDrain_rests waits rfl rfl rfl

theorem NotDraining.notLast {s : State} (calm : NotDraining s) (others : List Drain) : NotLast s others := .inl calm

theorem Ccp.boundary_drained {c : Ccp} (drains : c.drain ≠ .none) (receiving : c.receiving = none) (closing : c.closing = none) :
    c.boundary.drain = .drained := by
  cases drain : c.drain with
  | none => exact absurd drain drains
  | draining => exact Ccp.boundary_reports drain receiving closing
  | drained => simp [Ccp.boundary, drain]

/-- A frame in hand, or no drain, leaves CCP's part in the drain as it is (R127). -/
theorem Ccp.boundary_stays {c : Ccp} (hand : c.drain = .none ∨ c.receiving ≠ none ∨ c.closing ≠ none) : c.boundary = c := by
  unfold Ccp.boundary
  split
  · next drain receiving closing => exact absurd hand (by simp [drain, receiving, closing])
  · rfl

/-! CCP's report of its boundary leaves everything but its part in the drain. -/

section Boundary

variable (c : Ccp)

@[simp] theorem Ccp.boundary_receiving : c.boundary.receiving = c.receiving := by rw [Ccp.boundary_keeps]
@[simp] theorem Ccp.boundary_reception : c.boundary.reception = c.reception := by rw [Ccp.boundary_keeps]
@[simp] theorem Ccp.boundary_closing : c.boundary.closing = c.closing := by rw [Ccp.boundary_keeps]
@[simp] theorem Ccp.boundary_buffer : c.boundary.buffer = c.buffer := by rw [Ccp.boundary_keeps]
@[simp] theorem Ccp.boundary_latest : c.boundary.latest = c.latest := by rw [Ccp.boundary_keeps]
@[simp] theorem Ccp.boundary_pinned : c.boundary.pinned = c.pinned := by rw [Ccp.boundary_keeps]
@[simp] theorem Ccp.boundary_framesGood : c.boundary.framesGood = c.framesGood := by rw [Ccp.boundary_keeps]
@[simp] theorem Ccp.boundary_framesDamaged : c.boundary.framesDamaged = c.framesDamaged := by rw [Ccp.boundary_keeps]

end Boundary

/-! ## A damaged frame (R118, R123) -/

theorem Ccp.damaged_eq (c : Ccp) (f : ReceivingFrame) (reception : Reception) :
    c.damaged f reception =
      { c with
        receiving := none, reception := reception, framesDamaged := c.framesDamaged + 1
        buffer := c.buffer.filter fun l => !(l.slot == f.slot), claim := (c.damaged f reception).claim } := by
  rw [Ccp.damaged, Ccp.kick_keeps]
  rfl

section DamagedFields

variable (c : Ccp) (f : ReceivingFrame) (reception : Reception)

@[simp] theorem Ccp.damaged_receiving : (c.damaged f reception).receiving = none := by rw [Ccp.damaged_eq]
@[simp] theorem Ccp.damaged_takes : (c.damaged f reception).reception = reception := by rw [Ccp.damaged_eq]
@[simp] theorem Ccp.damaged_closing : (c.damaged f reception).closing = c.closing := by rw [Ccp.damaged_eq]
@[simp] theorem Ccp.damaged_drain : (c.damaged f reception).drain = c.drain := by rw [Ccp.damaged_eq]
@[simp] theorem Ccp.damaged_latest : (c.damaged f reception).latest = c.latest := by rw [Ccp.damaged_eq]
@[simp] theorem Ccp.damaged_pinned : (c.damaged f reception).pinned = c.pinned := by rw [Ccp.damaged_eq]
@[simp] theorem Ccp.damaged_framesGood : (c.damaged f reception).framesGood = c.framesGood := by rw [Ccp.damaged_eq]
@[simp] theorem Ccp.damaged_framesDamaged : (c.damaged f reception).framesDamaged = c.framesDamaged + 1 := by rw [Ccp.damaged_eq]

@[simp] theorem Ccp.damaged_buffer : (c.damaged f reception).buffer = c.buffer.filter fun l => !(l.slot == f.slot) := by
  rw [Ccp.damaged_eq]

end DamagedFields

/-- RVC has taken the notice of a damaged frame (R118). -/
theorem damagedFrameNotice_rvc (s : State) : DamagedFrameNoticed s (damagedFrameNotice s) := by
  unfold damagedFrameNotice
  split
  · next lost => exact ⟨fun _ => setRvc_rvc s _, fun other => absurd lost other⟩
  all_goals
    next health => exact ⟨fun lost => (by rw [health] at lost; cases lost), fun _ => rfl⟩

/-- The receiving frame is damaged: CCP without it, one report, RVC's notice, and nothing else. -/
structure FrameDamaged (f : ReceivingFrame) (detail : Detail) (reception : Reception) (s u : State) : Prop where
  ccp : u.ccp = s.ccp.damaged f reception
  flt : u.flt = (report (lineReport detail) s).flt
  chimes : u.chu.drain = s.chu.drain
  notice : DamagedFrameNoticed s u
  marked : u.stw.dirty.has .s3 = true
  only : ReportsBeside [.ccp, .rvc] s u

theorem damageFrame_damages {s : State} {f : ReceivingFrame} (detail : Detail) (reception : Reception) (receiving : s.ccp.receiving = some f) :
    FrameDamaged f detail reception s (damageFrame detail reception s) := by
  obtain ⟨ccp, flt, chimes, only⟩ := damageFrame_spec detail reception receiving
  refine ⟨ccp, flt, chimes.1, ?_, ?_, only.mono (by simp)⟩
  · rw [damageFrame_eq detail reception receiving]
    have rvc : (report (lineReport detail) (markDirty .s3 (setCcp (s.ccp.damaged f reception) s))).rvc = s.rvc := by simp
    have notice := damagedFrameNotice_rvc (report (lineReport detail) (markDirty .s3 (setCcp (s.ccp.damaged f reception) s)))
    rwa [DamagedFrameNoticed, rvc] at notice
  · rw [damageFrame_eq detail reception receiving]
    exact (works_damagedFrameNotice _).marks _ ((works_report _ _).marks _ (by simp))

/-- A frame is damaged in the event of a packet, and CCP's boundary reported: the state that the event ends in. -/
def damagedIn (f : ReceivingFrame) (detail : Detail) (reception : Reception) (s : State) : State :=
  setCcp (s.ccp.damaged f reception).boundary (damageFrame detail reception s)

section Damaged

variable {s : State} {f : ReceivingFrame} {detail : Detail} {reception : Reception}

theorem damagedIn_rests (waits : NotLast s [s.rqe.drain, s.chu.drain]) (receiving : s.ccp.receiving = some f) :
    checkDrain (damagedIn f detail reception s) = damagedIn f detail reception s :=
  have damaged := damageFrame_damages detail reception receiving
  checkDrain_rests waits (damaged.only .lyu (by decide)) (damaged.only .rqe (by decide)) damaged.chimes

theorem damagedIn_ccp : (damagedIn f detail reception s).ccp = (s.ccp.damaged f reception).boundary := rfl

/-- In a drain with no closing frame, the damage is CCP's boundary (R127). -/
theorem damagedIn_drained (drains : s.ccp.drain ≠ .none) (closing : s.ccp.closing = none) :
    (damagedIn f detail reception s).ccp.drain = .drained := by
  rw [damagedIn_ccp]
  exact Ccp.boundary_drained (by simpa using drains) (by simp) (by simpa using closing)

theorem damagedIn_only (receiving : s.ccp.receiving = some f) : ReportsBeside [.ccp, .rvc] s (damagedIn f detail reception s) :=
  (damageFrame_damages detail reception receiving).only.trans
    (.of_changesOnly ((works_setCcp _ _).only.mono (by simp)))

theorem takeFrameEnd_short (taking : s.ccp.taking = true) (receiving : s.ccp.receiving = some f) (short : f.nextLine < 720) :
    takeFrameEnd s = damagedIn f (.missingLines (720 - f.nextLine) f.frameNo) .waiting s := by
  rw [takeFrameEnd_damages taking receiving short, Ccp.damaged_reception, damagedIn]

theorem takeLine_fails {lineNo : Count} {data : List Byte} {check : BitVec 32} (taking : s.ccp.taking = true)
    (receiving : s.ccp.receiving = some f) (fails : lineFailure s.ccp f lineNo data check = some detail) :
    takeLine lineNo data check s = damagedIn f detail .discarding s := by
  unfold takeLine
  simp only [taking, receiving, fails]
  rw [damagedIn, ← (damageFrame_damages detail .discarding receiving).ccp]

/-- The start of a frame over another (R120). -/
theorem takeFrameStart_over (frameNo : Count) (taking : s.ccp.taking = true) (receiving : s.ccp.receiving = some f) :
    takeFrameStart frameNo s =
      setCcp (startFrame frameNo (damageFrame (.startBeforeEnd f.frameNo) .discarding s)).ccp.boundary
        (startFrame frameNo (damageFrame (.startBeforeEnd f.frameNo) .discarding s)) := by
  unfold takeFrameStart
  rw [if_pos taking, show s.ccp.frameNo = f.frameNo by simp [Ccp.frameNo, receiving]]

end Damaged

/-! ## The start of a frame (R120) -/

/-- CCP with a frame started in a slot (R120). -/
def Ccp.started (c : Ccp) (slot : Fin 4) (frameNo : Count) (camera : Option Region) : Ccp :=
  { c with
    receiving := some ⟨slot, frameNo, 0, rowBase camera + 1843200 * slot.val⟩, reception := .receiving,
    frameNos := c.frameNos.set slot none }

section Start

variable {s : State} {slot : Fin 4} (frameNo : Count)

theorem startFrame_starts (calm : s.ccp.drain = .none) (lowest : s.ccp.lowestFree = some slot) :
    startFrame frameNo s = setCcp (s.ccp.started slot frameNo s.lyu.committed.map.camera) s := by
  unfold startFrame
  split
  · next chosen _ lowest' =>
    rw [lowest] at lowest'
    cases lowest'
    rfl
  · next none_free => exact absurd lowest (none_free slot calm)

theorem startFrame_waits (drains : s.ccp.drain ≠ .none) : startFrame frameNo s = setCcp { s.ccp with reception := .waiting } s := by
  unfold startFrame
  split
  · next calm _ => exact absurd calm drains
  · rfl

/-- A frame's start, or its refusal, touches the receiving frame, the reception and the slot's number alone. -/
theorem startFrame_eq (s : State) :
    startFrame frameNo s = setCcp { s.ccp with
      receiving := (startFrame frameNo s).ccp.receiving, reception := (startFrame frameNo s).ccp.reception
      frameNos := (startFrame frameNo s).ccp.frameNos } s := by
  unfold startFrame
  split <;> rfl

/-- A slot is FREE whatever becomes of the lines and the counters. -/
theorem Ccp.lowestFree_damaged (c : Ccp) (f : ReceivingFrame) (reception : Reception) :
    (c.damaged f reception).lowestFree = Ccp.lowestFree { c with receiving := none } := by
  rw [Ccp.damaged_eq]
  rfl

end Start

/-! ## A whole frame (R116 to R118, R122) -/

/-- RVC that has taken a good frame meets what R116 to R118 say of it. -/
theorem GoodFrameNoticed.of_rvc {frameNo : Count} {s t : State} (h : t.rvc = s.rvc.goodFrame s.lyu.partTime frameNo) :
    GoodFrameNoticed frameNo s t := by
  unfold Rvc.goodFrame at h
  dsimp only at h
  split at h
  · next health => constructor <;> simp [h, health, Timer.start]
  · next health => constructor <;> simp [h, health, Timer.start]
  · next health =>
    split at h
    · next first => constructor <;> simp [h, health, first]
    · next second => constructor <;> simp [h, health, second, Timer.start]

/-- The closing frame is complete: its slot is the latest, RVC has its notice, and nothing else has changed. -/
structure CameraFrameClosed (f : ClosingFrame) (s u : State) : Prop where
  ccp : u.ccp = s.ccp.closed f
  rvc : u.rvc = s.rvc.goodFrame s.lyu.partTime f.frameNo
  marked : u.stw.dirty.has .s3 = true
  only : ChangesOnly [.ccp, .rvc, .stw] s u

theorem closeIfWritten_whole {s : State} {f : ClosingFrame} (closing : s.ccp.closing = some f) (written : ∀ l ∈ s.ccp.buffer, l.slot ≠ f.slot) :
    CameraFrameClosed f s (closeIfWritten s) := by
  obtain ⟨ccp, works⟩ := closeIfWritten_closes closing written
  have none_left : s.ccp.buffer.any (fun l => l.slot == f.slot) = false := by simpa using written
  have eq : closeIfWritten s = goodFrameNotice f.frameNo (markDirty .s3 (setCcp (s.ccp.closed f) s)) := by
    unfold closeIfWritten
    simp only [closing, none_left]
    rfl
  refine ⟨ccp, ?_, ?_, works.only⟩
  · rw [eq, goodFrameNotice, setRvc_rvc]
    rfl
  · rw [eq]
    exact (works_setRvc _ _).marks _ (by simp)

/-- A closing frame with a line left goes on closing. -/
theorem closeIfWritten_waits {s : State} {f : ClosingFrame} (closing : s.ccp.closing = some f) (left : ∃ l ∈ s.ccp.buffer, l.slot = f.slot) :
    closeIfWritten s = s := by
  have some_left : s.ccp.buffer.any (fun l => l.slot == f.slot) = true := by simpa using left
  unfold closeIfWritten
  simp only [closing, some_left, if_true]

/-- CCP once its receiving frame has ended whole (R122). -/
def Ccp.ended (c : Ccp) (f : ReceivingFrame) : Ccp :=
  { c with receiving := none, closing := some ⟨f.slot, f.frameNo⟩, reception := .waiting }

theorem takeFrameEnd_whole {s : State} {f : ReceivingFrame} (taking : s.ccp.taking = true) (receiving : s.ccp.receiving = some f)
    (whole : f.nextLine = 720) :
    takeFrameEnd s = setCcp (closeIfWritten (setCcp (s.ccp.ended f) s)).ccp.boundary (closeIfWritten (setCcp (s.ccp.ended f) s)) := by
  unfold takeFrameEnd
  simp only [taking, receiving, if_neg (show ¬ f.nextLine < 720 by omega)]
  rfl

/-! ## A line written (R121) -/

/-- CCP with its claim done and other lines in the buffer: the next claim is raised (R121). -/
def Ccp.wrote (c : Ccp) (lines : List CameraLine) : Ccp := Ccp.kick { c with claim := .idle, buffer := lines }

theorem Ccp.wrote_eq (c : Ccp) (lines : List CameraLine) : c.wrote lines = { c with claim := (c.wrote lines).claim, buffer := lines } :=
  Ccp.kick_keeps _

@[simp] theorem Ccp.wrote_receiving (c : Ccp) (lines : List CameraLine) : (c.wrote lines).receiving = c.receiving := by rw [Ccp.wrote_eq]
@[simp] theorem Ccp.wrote_closing (c : Ccp) (lines : List CameraLine) : (c.wrote lines).closing = c.closing := by rw [Ccp.wrote_eq]
@[simp] theorem Ccp.wrote_buffer (c : Ccp) (lines : List CameraLine) : (c.wrote lines).buffer = lines := by rw [Ccp.wrote_eq]
@[simp] theorem Ccp.wrote_latest (c : Ccp) (lines : List CameraLine) : (c.wrote lines).latest = c.latest := by rw [Ccp.wrote_eq]
@[simp] theorem Ccp.wrote_drain (c : Ccp) (lines : List CameraLine) : (c.wrote lines).drain = c.drain := by rw [Ccp.wrote_eq]
@[simp] theorem Ccp.wrote_framesGood (c : Ccp) (lines : List CameraLine) : (c.wrote lines).framesGood = c.framesGood := by rw [Ccp.wrote_eq]

section Written

variable {s : State} {line : CameraLine} {rest : List CameraLine}

theorem lineWritten_partly (claim : s.ccp.claim = .granted true) (buffer : s.ccp.buffer = line :: rest)
    (more : line.written + line.request.beats < 160) :
    lineWritten s = setCcp (s.ccp.wrote ({ line with written := line.written + line.request.beats } :: rest)) s := by
  unfold lineWritten
  simp only [claim, buffer, Claim.live, if_true, if_pos more]
  rfl

theorem lineWritten_wholly (claim : s.ccp.claim = .granted true) (buffer : s.ccp.buffer = line :: rest)
    (last : 160 ≤ line.written + line.request.beats) :
    lineWritten s = setCcp (closeIfWritten (setCcp (s.ccp.wrote rest) s)).ccp.boundary (closeIfWritten (setCcp (s.ccp.wrote rest) s)) := by
  unfold lineWritten
  simp only [claim, buffer, Claim.live, if_true, if_neg (Nat.not_lt.mpr last)]
  rfl

end Written

end Sys2Proof.Machine
end

section
/-! SETTLES O51 to O53. The camera packets and the writes of camera lines (R119 to R123, R127). -/

namespace Sys2Proof.Machine

/-! ## FRAME_START -/

section FrameStart

variable {s : State} {slot : Fin 4} {f : ReceivingFrame} (no : Count)

/-- With no frame in hand, FRAME_START is a frame's start, or its refusal, alone (R120). -/
theorem takeFrameStart_alone (taking : s.ccp.taking = true) (receiving : s.ccp.receiving = none) :
    takeFrameStart no s = setCcp (startFrame no s).ccp.boundary (startFrame no s) := by
  unfold takeFrameStart
  rw [if_pos taking, show damageFrame _ _ s = s by simp [damageFrame, receiving]]

theorem takeFrameStart_passes (idle : s.ccp.capturing = false ∨ s.ccp.held = true) : takeFrameStart no s = s := by
  unfold takeFrameStart
  rw [if_neg (by rcases idle with stopped | held <;> simp [Ccp.taking, *])]

/-- A free slot takes the frame, and CCP's boundary is not reached (R120, R127). -/
theorem takeFrameStart_free (taking : s.ccp.taking = true) (receiving : s.ccp.receiving = none) (calm : s.ccp.drain = .none)
    (lowest : s.ccp.lowestFree = some slot) :
    takeFrameStart no s = setCcp (s.ccp.started slot no s.lyu.committed.map.camera) s := by
  rw [takeFrameStart_alone no taking receiving, startFrame_starts no calm lowest, setCcp_ccp,
    Ccp.boundary_stays (c := s.ccp.started slot no _) (.inl calm)]
  rfl

/-- In a drain no frame starts (R127). -/
theorem takeFrameStart_drains (taking : s.ccp.taking = true) (receiving : s.ccp.receiving = none) (drains : s.ccp.drain ≠ .none) :
    takeFrameStart no s = setCcp { s.ccp with reception := .waiting }.boundary s := by
  rw [takeFrameStart_alone no taking receiving, startFrame_waits no drains]
  rfl

/-- A frame's start over another leaves what the damage of that one left, but for the receiving frame, reception and the slots' numbers. -/
theorem takeFrameStart_over_ccp (taking : s.ccp.taking = true) (receiving : s.ccp.receiving = some f) :
    (takeFrameStart no s).ccp = { s.ccp.damaged f .discarding with
      receiving := (takeFrameStart no s).ccp.receiving, reception := (takeFrameStart no s).ccp.reception
      frameNos := (takeFrameStart no s).ccp.frameNos, drain := (takeFrameStart no s).ccp.drain } := by
  rw [takeFrameStart_over no taking receiving, ← (damageFrame_damages (.startBeforeEnd f.frameNo) .discarding receiving).ccp, setCcp_ccp,
    Ccp.boundary_keeps, startFrame_eq]
  rfl

/-- Beside CCP, a frame's start over another is the damage of that one. -/
theorem takeFrameStart_over_beside (taking : s.ccp.taking = true) (receiving : s.ccp.receiving = some f) :
    takeFrameStart no s = setCcp (takeFrameStart no s).ccp (damageFrame (.startBeforeEnd f.frameNo) .discarding s) := by
  rw [takeFrameStart_over no taking receiving, startFrame_eq]
  rfl

theorem takeFrameStart_over_starts (taking : s.ccp.taking = true) (receiving : s.ccp.receiving = some f) (calm : s.ccp.drain = .none)
    (lowest : Ccp.lowestFree { s.ccp with receiving := none } = some slot) :
    (takeFrameStart no s).ccp = ((s.ccp.damaged f .discarding).started slot no s.lyu.committed.map.camera) := by
  have damaged := damageFrame_damages (.startBeforeEnd f.frameNo) .discarding receiving
  have lyu : (damageFrame (.startBeforeEnd f.frameNo) .discarding s).lyu = s.lyu := damaged.only .lyu (by decide)
  rw [takeFrameStart_over no taking receiving, startFrame_starts no (slot := slot) (by rw [damaged.ccp]; simpa using calm)
    (by rw [damaged.ccp, Ccp.lowestFree_damaged]; exact lowest), damaged.ccp, lyu, setCcp_ccp, setCcp_ccp,
    Ccp.boundary_stays (.inr (.inl (by simp [Ccp.started])))]

theorem takeFrameStart_over_waits (taking : s.ccp.taking = true) (receiving : s.ccp.receiving = some f) (drains : s.ccp.drain ≠ .none) :
    (takeFrameStart no s).ccp = Ccp.boundary { s.ccp.damaged f .discarding with reception := .waiting } := by
  have damaged := damageFrame_damages (.startBeforeEnd f.frameNo) .discarding receiving
  rw [takeFrameStart_over no taking receiving, startFrame_waits no (by rw [damaged.ccp]; simpa using drains), damaged.ccp]
  rfl

end FrameStart

theorem exec_frameStart (no : Count) (s : State) : exec (.frameStart no) s = .next (checkDrain (takeFrameStart no s)) := by
  rfl

/-- Settles O51: the frame that starts alone, the frame that starts over another, the drain, and the packets that pass. -/
theorem frameStartTakesAFreeSlot : Obligations.FrameStartTakesAFreeSlot := by
  refine ⟨fun s no slot capturing free receiving calm running lowest => ?alone, fun s no f capturing free receiving waits => ?restarts,
    fun s no capturing free receiving drains waits => ?drains, fun s no idle running => ?passes, fun s code one two three => ?unknown⟩
  case alone =>
    have start := takeFrameStart_free no (Ccp.taking_of capturing free) receiving calm lowest
    obtain ⟨-, -, pinned, latest⟩ := Ccp.lowestFree_free lowest
    refine ⟨_, (exec_frameStart no s).trans (congrArg _ (checkDrain_of_notDraining _ ?_)), ?_⟩
    · rw [start]
      exact running
    · rw [start]
      exact ⟨rfl, rfl, by simp [Ccp.started, PerCameraSlot.get_set], rfl, rfl, rfl, rfl, latest, pinned, (works_setCcp s _).only⟩
  case restarts =>
    have taking := Ccp.taking_of capturing free
    have damaged := damageFrame_damages (.startBeforeEnd f.frameNo) .discarding receiving
    have beside := takeFrameStart_over_beside no taking receiving
    have ccp := takeFrameStart_over_ccp no taking receiving
    have stands : checkDrain (takeFrameStart no s) = takeFrameStart no s := by
      rw [beside]
      exact checkDrain_rests waits (damaged.only .lyu (by decide)) (damaged.only .rqe (by decide)) damaged.chimes
    refine ⟨takeFrameStart no s, by rw [exec_frameStart, stands], by rw [ccp]; simp, by rw [ccp]; simp, by rw [ccp]; simp,
      by rw [ccp]; simp, by rw [ccp]; simp, by rw [ccp]; simp, by rw [beside]; exact damaged.flt, ?_, fun slot calm lowest => ?_,
      fun drains => ?_, by rw [beside]; exact damaged.marked, ?_⟩
    · rw [beside]
      exact damaged.notice
    · rw [takeFrameStart_over_starts no taking receiving calm lowest]
      exact ⟨rfl, rfl⟩
    · rw [takeFrameStart_over_waits no taking receiving drains]
      refine ⟨by simp, by simp, fun closing => ?_⟩
      exact Ccp.boundary_drained (by simpa using drains) (by simp) (by simpa using closing)
    · rw [beside]
      exact damaged.only.trans (.of_changesOnly ((works_setCcp _ _).only.mono (by simp)))
  case drains =>
    have start := takeFrameStart_drains no (Ccp.taking_of capturing free) receiving drains
    refine ⟨_, (exec_frameStart no s).trans (congrArg _ (checkDrain_rests waits ?_ ?_ ?_)), ?_⟩
    all_goals rw [start]
    · rfl
    · rfl
    · rfl
    · exact ⟨by simpa using receiving, by simp, (works_setCcp s _).only⟩
  case passes => rw [exec_frameStart, takeFrameStart_passes no idle, checkDrain_of_notDraining s running]
  case unknown =>
    have unknown : unknownTypeCode code = true := by simpa [unknownTypeCode, and_assoc] using ⟨one, two, three⟩
    simp only [exec, execUnknownCameraPacket, unknown, if_true]

/-! ## LINE -/

theorem exec_line (lineNo : Count) (data : List Byte) (check : BitVec 32) (s : State) :
    exec (.line lineNo data check) s = .next (checkDrain (takeLine lineNo data check s)) := by
  rfl

section Line

variable {s : State} {f : ReceivingFrame} {lineNo : Count} {data : List Byte} {check : BitVec 32}

/-- CCP with a line of its receiving frame in the buffer (R121). -/
def Ccp.joined (c : Ccp) (f : ReceivingFrame) (data : List Byte) : Ccp :=
  Ccp.kick { c with
    buffer := c.buffer ++ [⟨f.slot, f.base, f.nextLine, data, 0⟩], receiving := some { f with nextLine := f.nextLine + 1 } }

theorem Ccp.joined_eq (c : Ccp) (f : ReceivingFrame) (data : List Byte) :
    c.joined f data = { c with
      buffer := c.buffer ++ [⟨f.slot, f.base, f.nextLine, data, 0⟩], receiving := some { f with nextLine := f.nextLine + 1 }
      claim := (c.joined f data).claim } := Ccp.kick_keeps _

theorem takeLine_joins (taking : s.ccp.taking = true) (receiving : s.ccp.receiving = some f)
    (passes : lineFailure s.ccp f lineNo data check = none) : takeLine lineNo data check s = setCcp (s.ccp.joined f data) s := by
  unfold takeLine
  simp only [taking, receiving, passes]
  rfl

/-- A line in order, with a good check and room in the buffer, passes R121. -/
theorem lineFailure_passes (c : Ccp) (order : lineNo.toNat = f.nextLine) (last : f.nextLine < 720) (good : goodCheck data check = true)
    (room : c.buffer.length < 4) : lineFailure c f lineNo data check = none := by
  unfold lineFailure
  rw [if_neg (by omega), if_neg (by simp [good]), if_neg (by omega)]

/-- A line that fails R121 has the detail of the first check it fails. -/
theorem lineFailure_fails (c : Ccp)
    (fails : lineNo.toNat ≠ f.nextLine ∨ (f.nextLine < 720 ∧ (goodCheck data check = false ∨ 4 ≤ c.buffer.length))) :
    lineFailure c f lineNo data check =
      some (if lineNo.toNat ≠ f.nextLine then .outOfOrder f.nextLine lineNo f.frameNo
        else if goodCheck data check = false then .badCheck lineNo f.frameNo
        else .bufferOverrun lineNo f.frameNo) := by
  unfold lineFailure
  by_cases order : lineNo.toNat = f.nextLine
  · obtain ⟨last, why⟩ := fails.resolve_left (absurd order)
    rw [if_neg (by omega), if_neg (not_not.mpr order)]
    by_cases bad : goodCheck data check = false
    · rw [if_pos bad, if_pos bad]
    · rw [if_neg bad, if_neg bad, if_pos (why.resolve_left bad)]
  · rw [if_pos (.inl order), if_pos order]

end Line

/-- Settles O52: by the judgement of R121 (`lineFailure`), a line that passes and one that fails. -/
theorem lineIsJudged : Obligations.LineIsJudged := by
  refine fun s f lineNo data check capturing free receiving calm => ⟨fun order last good room => ?joins, fun detail is fails => ?fails⟩
  case joins =>
    have joins := takeLine_joins (Ccp.taking_of capturing free) receiving (lineFailure_passes s.ccp order last good room)
    refine ⟨_, (exec_line ..).trans (congrArg _ (checkDrain_of_notDraining _ ?_)), ?_⟩
    all_goals rw [joins]
    · exact calm
    · rw [setCcp_ccp, Ccp.joined_eq]
      exact ⟨rfl, rfl, rfl, rfl, rfl, (works_setCcp s _).only⟩
  case fails =>
    have fails := takeLine_fails (Ccp.taking_of capturing free) receiving (is ▸ lineFailure_fails s.ccp fails)
    have damaged := damageFrame_damages detail .discarding receiving
    refine ⟨_, by rw [exec_line, fails, damagedIn_rests (calm.notLast _) receiving], ?_⟩
    rw [damagedIn_ccp]
    exact ⟨by simp, by simp, by simp, by simp, by simp, by simp, by simp, damaged.flt, damaged.notice, damaged.marked,
      damagedIn_only receiving⟩

/-! ## FRAME_END -/

theorem exec_frameEnd (s : State) : exec .frameEnd s = .next (checkDrain (takeFrameEnd s)) := by
  rfl

theorem takeFrameEnd_passes {s : State} (idle : s.ccp.capturing = false ∨ s.ccp.held = true) : takeFrameEnd s = s := by
  have taking : s.ccp.taking = false := by rcases idle with stopped | held <;> simp [Ccp.taking, *]
  unfold takeFrameEnd
  simp only [taking]

theorem takeFrameEnd_alone {s : State} (taking : s.ccp.taking = true) (receiving : s.ccp.receiving = none) :
    takeFrameEnd s = setCcp { s.ccp with reception := .waiting } s := by
  unfold takeFrameEnd
  simp only [taking, receiving]

/-! ## CAMERA_LINE_WRITE_COMPLETE -/

theorem exec_cameraLineWriteComplete {s : State} {beats : List ReadBeat} (busy : s.fmc.busy = some ⟨.cameraWrite, beats⟩) :
    exec .cameraLineWriteComplete s = .next (checkDrain (lineWritten (freeFmc s))) := by
  simp only [exec, execCameraLineWriteComplete, busy]

theorem freeFmc_only (s : State) : ChangesOnly [.fmc] s (freeFmc s) := fun b hb => by
  cases b <;> first | rfl | exact absurd (by simp) hb

/-- Whether or not the written line was the closing frame's last, CCP, RVC and STW alone have changed (R122). -/
theorem closeIfWritten_only (s : State) : ChangesOnly [.ccp, .rvc, .stw] s (closeIfWritten s) := by
  cases closing : s.ccp.closing with
  | none => simpa [closeIfWritten, closing] using ChangesOnly.refl _ s
  | some f =>
    by_cases left : ∃ l ∈ s.ccp.buffer, l.slot = f.slot
    · rw [closeIfWritten_waits closing left]
      exact .refl _ s
    · exact (closeIfWritten_whole closing (by simpa using left)).only

/-- The written line leaves the buffer, and so may the closing frame's last: before CCP reports its boundary (R121, R122). -/
def lineLeaves (rest : List CameraLine) (s : State) : State := closeIfWritten (setCcp (s.ccp.wrote rest) s)

section LineLeaves

variable {s : State} {rest : List CameraLine}

theorem lineLeaves_only : ChangesOnly [.ccp, .rvc, .stw] s (lineLeaves rest s) :=
  ((works_setCcp s _).only.mono (by simp)).trans (closeIfWritten_only _)

theorem lineLeaves_alone (closing : s.ccp.closing = none) : lineLeaves rest s = setCcp (s.ccp.wrote rest) s := by
  have closing' : (setCcp (s.ccp.wrote rest) s).ccp.closing = none := by simpa using closing
  simp only [lineLeaves, closeIfWritten, closing']

theorem lineLeaves_closes {f : ClosingFrame} (closing : s.ccp.closing = some f) (written : ∀ l ∈ rest, l.slot ≠ f.slot) :
    CameraFrameClosed f (setCcp (s.ccp.wrote rest) s) (lineLeaves rest s) :=
  closeIfWritten_whole (by simpa using closing) (by simpa using written)

theorem lineLeaves_buffer : (lineLeaves rest s).ccp.buffer = rest := by
  cases closing : s.ccp.closing with
  | none => simp [lineLeaves_alone closing]
  | some f =>
    by_cases left : ∃ l ∈ rest, l.slot = f.slot
    · rw [lineLeaves, closeIfWritten_waits (f := f) (by simpa using closing) (by simpa using left)]
      simp
    · rw [(lineLeaves_closes closing (by simpa using left)).ccp]
      simp [Ccp.closed]

end LineLeaves

/-- Settles O53: a FRAME_END by the lines that are missing or still in the buffer, the FRAME_END that ends no frame, and a written line. -/
theorem wholeFrameBecomesLatest : Obligations.WholeFrameBecomesLatest := by
  refine ⟨fun s f capturing free receiving waits => ⟨fun short => ?short, fun whole written => ?whole, fun whole left => ?waits⟩,
    fun s capturing free receiving waits => ?alone, fun s idle waits => ?passes,
    fun s beats line rest busy claim buffer waits => ⟨fun more => ?partly, fun last => ?wholly⟩⟩
  case short =>
    have damaged := damageFrame_damages (.missingLines (720 - f.nextLine) f.frameNo) .waiting receiving
    refine ⟨_, by rw [exec_frameEnd, takeFrameEnd_short (Ccp.taking_of capturing free) receiving short, damagedIn_rests waits receiving], ?_⟩
    exact ⟨by simp [damagedIn_ccp], by simp [damagedIn_ccp], by simp [damagedIn_ccp], by simp [damagedIn_ccp], damaged.flt, damaged.notice,
      fun drain closing => damagedIn_drained (by simp [drain]) closing, damagedIn_only receiving⟩
  case whole =>
    have ends := takeFrameEnd_whole (Ccp.taking_of capturing free) receiving whole
    have closed : CameraFrameClosed ⟨f.slot, f.frameNo⟩ (setCcp (s.ccp.ended f) s) (closeIfWritten (setCcp (s.ccp.ended f) s)) :=
      closeIfWritten_whole rfl written
    have only := (works_setCcp s (s.ccp.ended f)).only.mono (more := [.ccp, .rvc, .stw]) (by simp) |>.trans closed.only
    have stands : checkDrain (takeFrameEnd s) = takeFrameEnd s := by
      rw [ends]
      exact checkDrain_rests waits (only .lyu (by decide)) (only .rqe (by decide)) (congrArg Chu.drain (only .chu (by decide)))
    refine ⟨_, by rw [exec_frameEnd, stands, ends], ?_⟩
    rw [closed.ccp]
    exact ⟨by simp [Ccp.closed, Ccp.ended], by simp [Ccp.closed], by simp [Ccp.closed, Ccp.ended], by simp [Ccp.closed],
      by simp [Ccp.closed, Ccp.ended], by simp [Ccp.closed, Ccp.ended], .of_rvc closed.rvc,
      fun drain => Ccp.boundary_drained (by simp [Ccp.closed, Ccp.ended, drain]) rfl rfl, closed.marked,
      only.trans ((works_setCcp _ _).only.mono (by simp))⟩
  case waits =>
    have ends : takeFrameEnd s = setCcp (s.ccp.ended f) s := by
      rw [takeFrameEnd_whole (Ccp.taking_of capturing free) receiving whole,
        closeIfWritten_waits (s := setCcp (s.ccp.ended f) s) (f := ⟨f.slot, f.frameNo⟩) rfl left,
        setCcp_ccp, Ccp.boundary_stays (c := s.ccp.ended f) (.inr (.inr (by simp [Ccp.ended])))]
      rfl
    refine ⟨setCcp (s.ccp.ended f) s, by rw [exec_frameEnd, ends, checkDrain_setCcp waits], rfl, rfl, rfl, rfl, rfl, (works_setCcp s _).only⟩
  case alone =>
    rw [exec_frameEnd, takeFrameEnd_alone (Ccp.taking_of capturing free) receiving, checkDrain_setCcp waits]
    rfl
  case passes => rw [exec_frameEnd, takeFrameEnd_passes idle, checkDrain_rests waits rfl rfl rfl]
  case partly =>
    have written := lineWritten_partly (s := freeFmc s) claim buffer more
    have stands : checkDrain (lineWritten (freeFmc s)) = lineWritten (freeFmc s) := by
      rw [written]
      exact checkDrain_setCcp (s := freeFmc s) waits _
    refine ⟨_, by rw [exec_cameraLineWriteComplete busy, stands], ?_⟩
    rw [written]
    exact ⟨rfl, rfl, ((freeFmc_only s).mono (by simp)).trans ((works_setCcp _ _).only.mono (by simp))⟩
  case wholly =>
    have written : lineWritten (freeFmc s) = setCcp (lineLeaves rest (freeFmc s)).ccp.boundary (lineLeaves rest (freeFmc s)) :=
      lineWritten_wholly claim buffer last
    have only : ChangesOnly [.ccp, .rvc, .stw] (freeFmc s) (lineWritten (freeFmc s)) := by
      rw [written]
      exact lineLeaves_only.trans ((works_setCcp _ _).only.mono (by simp))
    have stands : checkDrain (lineWritten (freeFmc s)) = lineWritten (freeFmc s) :=
      checkDrain_rests waits (only .lyu (by decide)) (only .rqe (by decide)) (congrArg Chu.drain (only .chu (by decide)))
    refine ⟨_, by rw [exec_cameraLineWriteComplete busy, stands], only .fmc (by decide), by simp [written, lineLeaves_buffer],
      fun f closing gone => ?_, fun closing => ?_, ?_⟩
    · have closed := lineLeaves_closes (s := freeFmc s) closing gone
      rw [written]
      refine ⟨by simp [closed.ccp, Ccp.closed], by simp [closed.ccp, Ccp.closed], ?_, .of_rvc closed.rvc, fun drain receiving => ?_⟩
      · simp [closed.ccp, Ccp.closed]
      · refine Ccp.boundary_drained ?_ ?_ (by simp [closed.ccp, Ccp.closed])
        · simp [closed.ccp, Ccp.closed, drain]
        · simp [closed.ccp, Ccp.closed, receiving]
    · rw [written, lineLeaves_alone (s := freeFmc s) closing]
      exact ⟨by simp, rfl⟩
    · exact .trans ((freeFmc_only s).mono (by simp)) (only.mono (by simp))

end Sys2Proof.Machine
end

section
/-! SETTLES O48 to O50. The moves of the view by REV and by its timers (R108 to R117, R125, R30). -/

namespace Sys2Proof.Machine

/-! ## A silent camera (R116, R117) -/

/-- The camera is LOST: RVC's state, one report with the last good frame's number, and S3 to be written. -/
structure CameraLost (deadline : Bool) (s t : State) : Prop where
  rvc : t.rvc = { s.rvc with health := .lost, lostTimer := .stopped, firstFrameDeadline := .stopped, recoveryCount := 0 }
  flt : t.flt = (report ⟨.cameraLost, .camera, .cameraLost deadline s.rvc.lastGoodFrameNo, none⟩ s).flt
  marked : t.stw.dirty.has .s3 = true
  only : ReportsBeside [.rvc] s t

theorem enterLost_loses (deadline : Bool) (s : State) : CameraLost deadline s (enterLost deadline s) where
  rvc := by simp [enterLost]
  flt := by
    simp only [enterLost, markDirty_flt, chimeEvent_flt]
    exact report_flt_congr _ rfl rfl
  marked := by simp [enterLost]
  only := by
    have lost : Works [.rvc] s { s with rvc := { s.rvc with
      health := .lost, lostTimer := .stopped, firstFrameDeadline := .stopped, recoveryCount := 0 } } := works_withRvc s _
    have told : Works [.rvc, .stw, .flt, .fsq, .chu] s (enterLost deadline s) :=
      ((lost.seq (works_report _ _) (blocks := [.rvc, .stw, .flt, .fsq, .chu])).seq (works_chimeEvent _ _)
        (blocks := [.rvc, .stw, .flt, .fsq, .chu])).seq (works_markDirty _ _)
    exact told.only

/-- Settles O50: either timer that is due enters LOST (`enterLost_loses`). -/
theorem silentCameraIsLost : Obligations.SilentCameraIsLost := by
  refine ⟨fun s expiry timer due health => ⟨enterLost true s, ?deadline, ?_⟩,
    fun s expiry timer due health => ⟨enterLost false s, ?timer, ?_⟩⟩
  case deadline => simp [exec, execFirstFrameDeadlineExpiry, timer, Timer.due, now, due, health]
  case timer => simp [exec, execLostTimerExpiry, timer, Timer.due, now, due, health]
  all_goals
    obtain ⟨rvc, flt, marked, only⟩ := enterLost_loses _ s
    exact ⟨rvc, flt, marked, only⟩

/-! ## The hold timer (R114) -/

theorem exec_holdTimerExpiry (s : State) : exec .holdTimerExpiry s = .next (checkDrain (endHold s)) := by
  rfl

/-- Settles O49: the end of HOLD is the entry into NORMAL (`enterNormal_ends`), which ends no drain. -/
theorem holdExpiryReturnsToNormal : Obligations.HoldExpiryReturnsToNormal := by
  intro s expiry hold timer due calm
  have from_ : s.rvc.view ≠ .normal := by rw [hold]; exact View.noConfusion
  obtain ⟨-, ended, phase, -⟩ := enterNormal_ends from_
  have running : NotDraining (enterNormal s) := by rw [NotDraining, phase]; exact calm
  obtain ⟨rvc, ⟨capturing, receiving, closing, latest, pinned⟩, ⟨guide, -⟩, cause, unstaged, staged, memory⟩ := ended
  exact ⟨enterNormal s, by rw [exec_holdTimerExpiry, endHold_ends hold timer due, checkDrain_of_notDraining _ running], rvc, capturing, receiving,
    closing, latest, pinned, cause, guide, unstaged, staged, memory⟩

/-! ## REV is qualified (R108, R110) -/

/-- The state with REV's pending level qualified (R108). -/
def revSettled (level : RevLevel) (s : State) : State := setRvc { s.rvc with revQualified := level, revPending := none } s

section Settled

variable {s : State} {level : RevLevel}

theorem works_revSettled : Works [.rvc, .stw] s (revSettled level s) := works_setRvc s _

@[simp] theorem revSettled_rvc : (revSettled level s).rvc = { s.rvc with revQualified := level, revPending := none } := setRvc_rvc s _
@[simp] theorem revSettled_lyu : (revSettled level s).lyu = s.lyu := setRvc_lyu s _
@[simp] theorem revSettled_gdu : (revSettled level s).gdu = s.gdu := setRvc_gdu s _
@[simp] theorem revSettled_pdu : (revSettled level s).pdu = s.pdu := setRvc_pdu s _
@[simp] theorem revSettled_chu : (revSettled level s).chu = s.chu := setRvc_chu s _

/-- A level that was pending is shown in S3 (R109). -/
theorem revSettled_marks {p : RevPending} (pending : s.rvc.revPending = some p) : (revSettled level s).stw.dirty.has .s3 = true := by
  have differs : ({ s.rvc with revQualified := level, revPending := none } : Rvc).shown ≠ s.rvc.shown := fun same => by
    have shown := congrArg RvcShown.revPending same
    simp [Rvc.shown, pending] at shown
  rw [revSettled, setRvc_has]
  simp [differs]

/-- A level that stays is qualified, and demand is evaluated (R108, R110). -/
theorem qualifyRev_settles {expiry : Millis} (acting : s.rvc.acting = true) (pending : s.rvc.revPending = some ⟨level, expiry⟩)
    (due : reached s.lyu.partTime expiry = true) : qualifyRev s = evaluateDemand .rev (revSettled level s) := by
  unfold qualifyRev
  simp only [pending]
  rw [if_pos ⟨acting, due⟩]
  rfl

/-- A view that agrees with the demand stands (R110). -/
theorem evaluateDemand_stands {cause : EngageCause} (agrees : s.rvc.view = .engaged ↔ s.rvc.demand = true) : evaluateDemand cause s = s := by
  unfold evaluateDemand
  split
  case h_1 view demand => exact absurd (agrees.mpr demand) (by rw [view]; exact View.noConfusion)
  case h_2 view demand => exact absurd (agrees.mp view) (by rw [demand]; exact Bool.noConfusion)
  case h_3 view demand => exact absurd (agrees.mpr demand) (by rw [view]; exact View.noConfusion)
  all_goals rfl

end Settled

theorem exec_revPendingExpiry (s : State) : exec .revPendingExpiry s = .next (checkDrain (qualifyRev s)) := by
  rfl

/-- Outside a drain, REV's expiry ends in the state that the evaluation of demand leaves, when that keeps the phase. -/
theorem exec_revPendingExpiry_settles {s u : State} {level : RevLevel} {expiry : Millis} (acting : s.rvc.acting = true)
    (pending : s.rvc.revPending = some ⟨level, expiry⟩) (due : reached s.lyu.partTime expiry = true) (calm : NotDraining s)
    (moves : evaluateDemand .rev (revSettled level s) = u) (phase : u.lyu.phase = s.lyu.phase) : exec .revPendingExpiry s = .next u := by
  have running : NotDraining u := by rw [NotDraining, phase]; exact calm
  rw [exec_revPendingExpiry, qualifyRev_settles acting pending due, moves, checkDrain_of_notDraining u running]

/-! ## REV engages the view (R111, R115, R128) -/

@[simp] theorem Gdu.kick_working (l : Layout) (g : Gdu) : (g.kick l).working = g.working := by
  unfold Gdu.kick
  repeat' split
  all_goals rfl

theorem staleCheck_working (s : State) : (staleCheck s).gdu.working = s.gdu.working := by
  unfold staleCheck
  split
  · rw [reportPlain_gdu]
  · rfl

/-- GDU works from the view's engagement on (R132). -/
theorem guideViewNotice_begins {s : State} (free : s.gdu.held = false) : (guideViewNotice .normal .engaged s).gdu.working = true := by
  unfold guideViewNotice
  rw [if_neg (by simp [free]), if_pos ⟨rfl, View.noConfusion⟩, staleCheck_working, markDirty_gdu, setGdu_gdu, Gdu.kick_working]

/-- GDU works and PDU is active once they have taken the engagement from NORMAL (R132, R139). -/
theorem handView_begins {s : State} (view : s.rvc.view = .engaged) :
    (s.gdu.held = false → (handView .normal s).gdu.working = true) ∧
    (s.pdu.held = false → s.pdu.active = false → s.lyu.source = .host →
      (handView .normal s).pdu.active = true ∧ (handView .normal s).pdu.distance = none) := by
  simp only [handView, view]
  have guide := works_guideViewNotice s .normal .engaged
  have park := works_parkViewNotice (guideViewNotice .normal .engaged s) .engaged
  have chu := works_chuViewNotice (parkViewNotice .engaged (guideViewNotice .normal .engaged s)) .normal .engaged
  refine ⟨fun free => ?_, fun free resting source => ?_⟩
  · rw [show (chuViewNotice .normal .engaged _).gdu = _ from chu.only .gdu (by simp),
      show (parkViewNotice .engaged _).gdu = _ from park.only .gdu (by simp)]
    exact guideViewNotice_begins free
  · have pdu : (guideViewNotice .normal .engaged s).pdu = s.pdu := guide.only .pdu (by simp)
    have lyu : (guideViewNotice .normal .engaged s).lyu = s.lyu := guide.only .lyu (by simp)
    rw [show (chuViewNotice .normal .engaged _).pdu = _ from chu.only .pdu (by simp)]
    exact parkViewNotice_engaged (by rw [pdu]; exact free) (by rw [pdu]; exact resting) (by rw [lyu]; exact source)

theorem startCapture_captures (s : State) : (startCapture s).ccp.capturing = true := by
  unfold startCapture
  split
  · next already => exact already
  · rfl

/-- RVC when REV engages the view from NORMAL (R111). -/
def revEngaged (s : State) : Rvc :=
  { s.rvc with
    view := .engaged, engageCause := .rev, health := .awaiting, recoveryCount := 0, lastGoodFrameNo := none,
    lostTimer := .stopped, firstFrameDeadline := .running (s.lyu.partTime + 250) }

/-- The view is engaged by REV: capture runs, GDU and PDU are told, and REVERSE_CHANGED is raised. -/
structure EngagedByRev (s t : State) : Prop where
  rvc : t.rvc = revEngaged s
  capture : t.ccp.capturing = true
  guide : s.gdu.held = false → t.gdu.working = true
  park : s.pdu.held = false → s.pdu.active = false → s.lyu.source = .host → t.pdu.active = true ∧ t.pdu.distance = none
  cause : t.flt.causes.getLsbD Cause.reverseChanged.bit = true
  only : ChangesOnly [.rvc, .ccp, .gdu, .wdc, .pdu, .stw, .flt, .fsq, .chu] s t

theorem viewEngage_rev (s : State) : EngagedByRev s (viewEngage .rev s) := by
  have engages : viewEngage .rev s =
      chimeEvent .reverseEngaged (raiseCause .reverseChanged (handView .normal (startCapture (setRvc (revEngaged s) s)))) := rfl
  have engaged := works_setRvc s (revEngaged s)
  have starts := works_startCapture (setRvc (revEngaged s) s)
  have hands := works_handView (startCapture (setRvc (revEngaged s) s)) .normal
  have before : Works [.rvc, .ccp, .stw] s (startCapture (setRvc (revEngaged s) s)) := engaged.seq starts
  have rvc : (startCapture (setRvc (revEngaged s) s)).rvc = revEngaged s := (starts.only .rvc (by simp)).trans (setRvc_rvc s _)
  have gdu : (startCapture (setRvc (revEngaged s) s)).gdu = s.gdu := before.only .gdu (by simp)
  have pdu : (startCapture (setRvc (revEngaged s) s)).pdu = s.pdu := before.only .pdu (by simp)
  have lyu : (startCapture (setRvc (revEngaged s) s)).lyu = s.lyu := before.only .lyu (by simp)
  obtain ⟨guide, park⟩ := handView_begins (congrArg Rvc.view rvc)
  rw [gdu] at guide
  rw [pdu, lyu] at park
  constructor <;> rw [engages]
  case rvc => rw [chimeEvent_rvc, raiseCause_rvc, show (handView .normal _).rvc = _ from hands.only .rvc (by simp), rvc]
  case capture =>
    rw [chimeEvent_ccp, raiseCause_ccp, show (handView .normal _).ccp = _ from hands.only .ccp (by simp)]
    exact startCapture_captures _
  case guide => simpa using guide
  case park => simpa using park
  case cause => simp
  case only =>
    have told : Works [.rvc, .ccp, .gdu, .wdc, .pdu, .stw, .flt, .fsq, .chu] s
        (handView .normal (startCapture (setRvc (revEngaged s) s))) := before.seq hands
    exact ((told.seq (works_raiseCause _ _) (blocks := [.rvc, .ccp, .gdu, .wdc, .pdu, .stw, .flt, .fsq, .chu])).seq
      (works_chimeEvent _ _) (blocks := [.rvc, .ccp, .gdu, .wdc, .pdu, .stw, .flt, .fsq, .chu])).only

/-- RVC when REV engages the view again from HOLD (R111). -/
def revReengaged (s : State) : Rvc := { s.rvc with view := .engaged, engageCause := .rev, holdTimer := .stopped }

/-- A chime event finds CHU and its chime map as they stand (R149). -/
theorem chimeEvent_chu_congr {s u : State} (e : ChimeEvent) (chu : u.chu = s.chu) (lyu : u.lyu = s.lyu) :
    (chimeEvent e u).chu = (chimeEvent e s).chu := by
  unfold chimeEvent
  rw [chu, lyu]
  split
  · exact chu
  · split
    · exact chu
    · simp [chimeStore, lyu]

/-- The view is re-engaged by REV from HOLD: PDU is told, and CHU has the chime event of an engagement. -/
structure ReengagedByRev (s t : State) : Prop where
  rvc : t.rvc = revReengaged s
  park : s.pdu.held = false → s.pdu.active = false → s.lyu.source = .host → t.pdu.active = true ∧ t.pdu.distance = none
  chime : t.chu = (chimeEvent .reverseEngaged s).chu
  works : Works [.rvc, .stw, .pdu, .chu] s t

theorem viewReengage_rev (s : State) : ReengagedByRev s (viewReengage .rev s) := by
  have reengages : viewReengage .rev s = chimeEvent .reverseEngaged (parkViewNotice .engaged (setRvc (revReengaged s) s)) :=
    congrArg _ (handView_reengage (s := setRvc (revReengaged s) s) (congrArg Rvc.view (setRvc_rvc s _)))
  have engaged := works_setRvc s (revReengaged s)
  have parks := works_parkViewNotice (setRvc (revReengaged s) s) .engaged
  have before : Works [.rvc, .stw, .pdu] s (parkViewNotice .engaged (setRvc (revReengaged s) s)) := engaged.seq parks
  constructor <;> rw [reengages]
  case rvc =>
    rw [chimeEvent_rvc]
    exact (parks.only .rvc (by simp)).trans (setRvc_rvc s _)
  case park =>
    intro free resting source
    rw [chimeEvent_pdu]
    exact parkViewNotice_engaged (by simpa using free) (by simpa using resting) (by simpa using source)
  case chime => exact chimeEvent_chu_congr _ (before.only .chu (by simp)) (before.only .lyu (by simp))
  case works => exact before.seq (works_chimeEvent _ _)

/-! ## REV falls (R113, R114) -/

/-- RVC when the view enters HOLD (R113). -/
def revHeld (s : State) : Rvc :=
  { s.rvc with view := .hold, holdTimer := .running (s.lyu.partTime + BitVec.ofNat 32 (100 * s.lyu.committed.reverseHold)) }

/-- Outside an engaged view PDU is inactive (R139). -/
theorem parkViewNotice_rests {s : State} {view : View} (other : view ≠ .engaged) (free : s.pdu.held = false) :
    (parkViewNotice view s).pdu.active = false := by
  unfold parkViewNotice
  simp only [other, free, decide_false, Bool.false_and]
  split
  · next resting => simpa using resting
  · rfl

/-- From ENGAGED to HOLD, GDU takes no notice, PDU takes one and the tone voice stops (R115, R132, R139, R155). -/
theorem handView_holds {s : State} (view : s.rvc.view = .hold) :
    handView .engaged s = setChu { s.chu with tone := s.chu.tone.halt } (parkViewNotice .hold s) := by
  simp only [handView, view]
  have guide : guideViewNotice .engaged .hold s = s := by
    unfold guideViewNotice
    rw [if_neg (show ¬ (View.engaged = .normal ∧ View.hold ≠ .normal) by decide),
      if_neg (show ¬ (View.engaged ≠ .normal ∧ View.hold = .normal) by decide), ite_self]
  have chu : (parkViewNotice .hold s).chu = s.chu := (works_parkViewNotice s .hold).only .chu (by simp)
  rw [guide, chuViewNotice, if_pos (by decide), chu]

/-- The view enters HOLD: its timer runs, PDU is told, and the tone voice stops. -/
structure EntersHold (s t : State) : Prop where
  rvc : t.rvc = revHeld s
  park : s.pdu.held = false → t.pdu.active = false
  chu : t.chu = { s.chu with tone := s.chu.tone.halt }
  works : Works [.rvc, .stw, .pdu, .chu] s t

theorem viewHold_holds {s : State} (long : 1 ≤ s.lyu.committed.reverseHold) : EntersHold s (viewHold s) := by
  have holds : viewHold s = setChu { s.chu with tone := s.chu.tone.halt } (parkViewNotice .hold (setRvc (revHeld s) s)) := by
    have handed := handView_holds (s := setRvc (revHeld s) s) (congrArg Rvc.view (setRvc_rvc s _))
    rw [setRvc_chu] at handed
    rw [viewHold, if_neg (by omega), ← handed]
    rfl
  have held := works_setRvc s (revHeld s)
  have parks := works_parkViewNotice (setRvc (revHeld s) s) .hold
  have before : Works [.rvc, .stw, .pdu] s (parkViewNotice .hold (setRvc (revHeld s) s)) := held.seq parks
  constructor <;> rw [holds]
  case rvc =>
    rw [setChu_rvc]
    exact (parks.only .rvc (by simp)).trans (setRvc_rvc s _)
  case park =>
    intro free
    rw [setChu_pdu]
    exact parkViewNotice_rests View.noConfusion (by simpa using free)
  case chu => exact setChu_chu _ _
  case works => exact before.seq (works_setChu _ _)

/-! ## The obligation -/

/-- An edge on REV's pin, at an RVC that is held or acts (R108). -/
theorem revEdge_takes {s : State} {level : Level} (edge : s.pins.rev ≠ level) :
    ∃ t : State, exec (.revEdge level) s = .next t ∧ t.pins = { s.pins with rev := level } ∧ ChangesOnly [.pins, .rvc, .stw] s t ∧
      t.rvc = if s.rvc.acting = true then s.rvc.takeEdge s.lyu.partTime (revLevelOf level) else s.rvc := by
  have pinned : ChangesOnly [.pins, .rvc, .stw] s { s with pins := { s.pins with rev := level } } := fun b hb => by
    cases b <;> first | rfl | exact absurd (by simp) hb
  by_cases acting : s.rvc.acting = true
  · refine ⟨setRvc (s.rvc.takeEdge s.lyu.partTime (revLevelOf level)) { s with pins := { s.pins with rev := level } }, ?_, by simp,
      pinned.trans ((works_setRvc _ _).only.mono (by simp)), by simp [acting]⟩
    simp only [exec, execRevEdge, if_neg edge, if_pos acting]
    rfl
  · refine ⟨_, ?_, rfl, pinned, (if_neg acting).symm⟩
    simp only [exec, execRevEdge, if_neg edge, if_neg acting]

/-- Settles O48: an edge, an engagement, and by the qualified level and the view the rest of R110. -/
theorem revIsQualifiedAndMovesTheView : Obligations.RevIsQualifiedAndMovesTheView := by
  refine ⟨fun s level edge => ?edge, fun s expiry pending due acting normal calm => ?engages, fun s level expiry pending due acting calm =>
    ⟨fun agrees => ?stands, fun rise hold => ?reengages, fun fall engaged quiet long => ?holds, fun fall engaged quiet short => ?ends⟩⟩
  case edge =>
    obtain ⟨t, next, pins, only, rvc⟩ := revEdge_takes edge
    refine ⟨t, next, pins, only, fun rests => ?_, fun acting back => ?_, fun acting away => ?_⟩
    · rw [rvc, if_neg (by simp [rests])]
    · rw [rvc, if_pos acting, Rvc.takeEdge, if_pos back]
    · rw [rvc, if_pos acting, Rvc.takeEdge, if_neg away]
  case engages =>
    have moves : evaluateDemand .rev (revSettled .asserted s) = viewEngage .rev (revSettled .asserted s) := by
      simp [evaluateDemand, normal, Rvc.demand]
    obtain ⟨rvc, capture, guide, park, cause, only⟩ := viewEngage_rev (revSettled .asserted s)
    have lyu : (viewEngage .rev (revSettled .asserted s)).lyu = s.lyu := (only .lyu (by simp)).trans revSettled_lyu
    have fmc : (viewEngage .rev (revSettled .asserted s)).fmc = s.fmc :=
      (only .fmc (by simp)).trans (works_revSettled.only .fmc (by simp))
    refine ⟨_, exec_revPendingExpiry_settles acting pending due calm moves (by rw [lyu]), ?_, capture, by simpa using guide, by simpa using park,
      cause, lyu, by rw [MemoryKept, fmc]; exact ⟨rfl, rfl⟩⟩
    rw [rvc, revEngaged, revSettled_rvc, revSettled_lyu]
  case stands =>
    have stands : evaluateDemand .rev (revSettled level s) = revSettled level s := by
      refine evaluateDemand_stands ?_
      rcases agrees with ⟨rfl, view⟩ | ⟨rfl, view, asked⟩ | ⟨rfl, view, asked⟩ <;> simp [Rvc.demand, *]
    exact ⟨_, exec_revPendingExpiry_settles acting pending due calm stands (by rw [revSettled_lyu]), revSettled_rvc, revSettled_marks pending,
      works_revSettled.only⟩
  case reengages =>
    subst rise
    have moves : evaluateDemand .rev (revSettled .asserted s) = viewReengage .rev (revSettled .asserted s) := by
      simp [evaluateDemand, hold, Rvc.demand]
    obtain ⟨rvc, park, chime, works⟩ := viewReengage_rev (revSettled .asserted s)
    have lyu : (viewReengage .rev (revSettled .asserted s)).lyu = s.lyu := (works.only .lyu (by simp)).trans revSettled_lyu
    refine ⟨_, exec_revPendingExpiry_settles acting pending due calm moves (by rw [lyu]), ?_, by simpa using park, ?_,
      works.marks _ (revSettled_marks pending), (works_revSettled.seq works).only⟩
    · rw [rvc, revReengaged, revSettled_rvc]
    · rw [chime, chimeEvent_chu_congr _ revSettled_chu revSettled_lyu]
  case holds =>
    subst fall
    have moves : evaluateDemand .rev (revSettled .deasserted s) = viewHold (revSettled .deasserted s) := by
      simp [evaluateDemand, engaged, Rvc.demand, quiet]
    obtain ⟨rvc, park, chu, works⟩ := viewHold_holds (s := revSettled .deasserted s) (by simpa using long)
    have lyu : (viewHold (revSettled .deasserted s)).lyu = s.lyu := (works.only .lyu (by simp)).trans revSettled_lyu
    refine ⟨_, exec_revPendingExpiry_settles acting pending due calm moves (by rw [lyu]), ?_, by simpa using park, ?_, ?_, ?_,
      works.marks _ (revSettled_marks pending), (works_revSettled.seq works).only⟩
    · rw [rvc, revHeld, revSettled_rvc, revSettled_lyu]
    · rw [chu]
      exact Tone.halt_silent _
    · rw [chu, revSettled_chu]
    · rw [chu, revSettled_chu]
  case ends =>
    subst fall
    have from_ : (revSettled .deasserted s).rvc.view ≠ .normal := by simp [engaged]
    have moves : evaluateDemand .rev (revSettled .deasserted s) = enterNormal (revSettled .deasserted s) := by
      simp [evaluateDemand, engaged, Rvc.demand, quiet, viewHold, short]
    obtain ⟨-, ended, phase, -⟩ := enterNormal_ends from_
    have fmc : (revSettled .deasserted s).fmc = s.fmc := works_revSettled.only .fmc (by simp)
    rw [revSettled_rvc] at ended
    exact ⟨_, exec_revPendingExpiry_settles acting pending due calm moves (by rw [phase, revSettled_lyu]),
      ended.within (works_revSettled.only.mono (by simp)) (by rw [MemoryKept, fmc]; exact ⟨rfl, rfl⟩) (.refl _ _)⟩

end Sys2Proof.Machine
end

section
/-! SUPPORT. GDU's fetches, steering beat, stale report and list checks; PDU's cadence, sensor fault and evaluation; what the expiries of
their timers do (R130, R131, R135 to R142). -/

namespace Sys2Proof.Machine

/-! ## GDU's fetches (R135, R136) -/

/-- Raising the next claim moves GDU's fetch and its claim alone (R135). -/
theorem Gdu.kick_moves (l : Layout) (g : Gdu) :
    ∃ (fetch : Option GuideFetch) (claim : Claim), g.kick l = { g with fetch := fetch, claim := claim } := by
  unfold Gdu.kick
  split
  · exact ⟨g.fetch, _, rfl⟩
  · split
    · exact ⟨_, _, rfl⟩
    · exact ⟨g.fetch, g.claim, rfl⟩
  · exact ⟨g.fetch, g.claim, rfl⟩

/-- Giving a fetch up moves GDU's fetch and its claim alone (R136). -/
theorem Gdu.giveUp_moves (g : Gdu) :
    ∃ (fetch : Option GuideFetch) (claim : Claim), g.giveUp = { g with fetch := fetch, claim := claim } := by
  unfold Gdu.giveUp
  split <;> exact ⟨_, _, rfl⟩

/-- So does overtaking a bucket fetch, which is left or given up (R136). -/
theorem Gdu.overtake_moves (g : Gdu) :
    ∃ (fetch : Option GuideFetch) (claim : Claim), g.overtake = { g with fetch := fetch, claim := claim } := by
  unfold Gdu.overtake
  split
  · split
    · exact ⟨g.fetch, g.claim, rfl⟩
    · split
      · exact ⟨g.fetch, g.claim, rfl⟩
      · exact g.giveUp_moves
  · exact ⟨g.fetch, g.claim, rfl⟩

/-! ## The steering beat (R130) -/

/-- The bucket of an angle within the wheel's travel holds the angles of 300 tenths of a degree (R130). -/
theorem bucketOf_spans {angle : Int} (low : -4800 ≤ angle) (high : angle ≤ 4800) :
    bucketOf angle ≤ 32 ∧ 300 * (bucketOf angle : Int) ≤ angle + 4950 ∧ angle + 4950 < 300 * (bucketOf angle : Int) + 300 := by
  unfold bucketOf
  omega

theorem clampAngle_travel (angle : Int) : -4800 ≤ clampAngle angle ∧ clampAngle angle ≤ 4800 := by
  unfold clampAngle
  omega

/-- GDU with a steering beat taken, its fetch and its claim as they were (R130). -/
def Gdu.steer (g : Gdu) (bytes : List Byte) (time : Millis) : Gdu :=
  { g with
    steering := some ⟨BitVec.ofNat 16 (get16 bytes 0), clampAngle (angleOf bytes)⟩
    steeringState := .fresh
    staleReported := false
    staleTimer := Timer.start time 300
    wantedBucket := bucketOf (clampAngle (angleOf bytes)) }

/-- Beside what it steers, a beat moves GDU's fetch and its claim alone (R130, R136). -/
theorem steeringBeat_steers {s : State} (free : s.gdu.held = false) (bytes : List Byte) :
    ∃ (fetch : Option GuideFetch) (claim : Claim), steeringBeat bytes s =
      markDirty .s3 (setGdu { s.gdu.steer bytes (now s) with fetch := fetch, claim := claim } s) := by
  unfold steeringBeat
  rw [if_neg (by simp [free])]
  dsimp only
  split
  · exact ⟨s.gdu.fetch, s.gdu.claim, rfl⟩
  · obtain ⟨overtaken, freed, overtake⟩ := (s.gdu.steer bytes (now s)).overtake_moves
    obtain ⟨fetch, claim, kick⟩ := Gdu.kick_moves s.lyu.committed (s.gdu.steer bytes (now s)).overtake
    refine ⟨fetch, claim, congrArg (fun g => markDirty .s3 (setGdu g s)) (kick.trans ?_)⟩
    rw [overtake]

/-! ## The stale report (R131) -/

/-- A stale report that is due is made, and GDU remembers it (R131). -/
theorem staleCheck_due {s : State} (due : s.gdu.staleDue = true) :
    (staleCheck s).gdu = { s.gdu with staleReported := true } ∧
    (staleCheck s).flt = (report ⟨.steerStale, .guide, .steering (s.gdu.steering.map Steering.seq), none⟩ s).flt := by
  unfold staleCheck
  rw [if_pos due, reportPlain]
  exact ⟨report_gdu _ _, report_flt_congr _ rfl rfl⟩

theorem staleCheck_rests {s : State} (rests : s.gdu.staleDue = false) : staleCheck s = s := by
  unfold staleCheck
  rw [rests]
  rfl

/-! ## A guide list (R137) -/

theorem segmentFailure_none_iff (g : Segment) : segmentFailure g = none ↔ g.fits := by
  unfold segmentFailure Segment.fits
  repeat' split
  all_goals simp
  all_goals omega

/-- No segment fails exactly when each keeps to the ranges of R137. -/
theorem firstBadSegment_none_iff (place : Nat) (l : List Segment) : firstBadSegment place l = none ↔ ∀ g ∈ l, g.fits := by
  induction l generalizing place with
  | nil => simp [firstBadSegment]
  | cons g rest ih =>
    rw [List.forall_mem_cons, ← segmentFailure_none_iff g, ← ih (place + 1), firstBadSegment]
    cases segmentFailure g <;> simp

/-- A list passes with the segments within its count, and only without poison, within the limit and with every segment in range (R137). -/
theorem judgeGuideList_valid_iff (list : GuideList) (header : ReadBeat) (rest : List ReadBeat) (l : List Segment) :
    judgeGuideList list (header :: rest) = .valid l ↔
      header.poison = false ∧ anyPoison (rest.take (get16 header.bytes 0)) = false ∧ get16 header.bytes 0 ≤ list.limit ∧
      l = (rest.take (get16 header.bytes 0)).map (fun b => parseSegment b.bytes) ∧ ∀ g ∈ l, g.fits := by
  simp only [judgeGuideList, List.headD_cons, List.drop_succ_cons, List.drop_zero, Bool.or_eq_true]
  split
  · next poison =>
    refine ⟨GuideVerdict.noConfusion, fun ⟨clean, cleanRest, _⟩ => ?_⟩
    simp [clean, cleanRest] at poison
  next clean =>
  obtain ⟨header, used⟩ : header.poison = false ∧ anyPoison (rest.take (get16 header.bytes 0)) = false := by simpa using clean
  split
  · next many => exact ⟨GuideVerdict.noConfusion, fun ⟨_, _, few, _⟩ => absurd many (by omega)⟩
  next few =>
  split
  · next check place bad =>
    refine ⟨GuideVerdict.noConfusion, fun ⟨_, _, _, segments, fit⟩ => ?_⟩
    rw [segments, ← firstBadSegment_none_iff 0, bad] at fit
    cases fit
  · next good =>
    rw [firstBadSegment_none_iff] at good
    constructor
    · rintro ⟨⟩
      exact ⟨header, used, by omega, rfl, good⟩
    · rintro ⟨-, -, -, rfl, -⟩
      rfl

/-! ## The end of a list fetch (R136, R137) -/

theorem Gdu.store_keeps (g : Gdu) (list : GuideList) (v : GuideVerdict) :
    (g.store list v).liveBank = g.liveBank ∧ (g.store list v).stagedBank = g.stagedBank ∧ (g.store list v).steering = g.steering := by
  unfold Gdu.store
  split <;> exact ⟨rfl, rfl, rfl⟩

theorem works_reportList (f : GuideFetch) (v : GuideVerdict) (s : State) : Works [.stw, .flt, .fsq, .chu] s (reportList f v s) := by
  cases v with
  | valid l => exact .refl _ s
  | invalid check place => exact works_report s _

/-- The state that a fetch's end leaves, with GDU as it goes on from there (R136, R137). -/
def guideGoesOn (g : Gdu) (s : State) : State := setGdu (g.kick s.lyu.committed) (freeFmc s)

section GoesOn

variable (g : Gdu) (s : State)

theorem guideGoesOn_ends : GrantEnded s (guideGoesOn g s) := by simp [guideGoesOn, GrantEnded, freeFmc]

theorem guideGoesOn_gdu :
    ∃ (fetch : Option GuideFetch) (claim : Claim), (guideGoesOn g s).gdu = { g with fetch := fetch, claim := claim } := by
  rw [guideGoesOn, setGdu_gdu]
  exact Gdu.kick_moves _ g

theorem guideGoesOn_only : ChangesOnly [.fmc, .gdu, .wdc, .stw] s (guideGoesOn g s) :=
  ((freeFmc_only s).mono (by simp)).trans ((works_setGdu _ _).only.mono (by simp))

theorem guideGoesOn_flt : (guideGoesOn g s).flt = s.flt := guideGoesOn_only g s .flt (by decide)

end GoesOn

/-- GDU with a judged list in its cache and no fetch (R137). -/
def Gdu.judged (g : Gdu) (list : GuideList) (v : GuideVerdict) : Gdu := { g with claim := .idle, fetch := none }.store list v

/-- The state that the last grant of a fetch leaves: the list judged, the fetch ended, a failing list reported (R137). -/
def listJudged (f : GuideFetch) (v : GuideVerdict) (s : State) : State :=
  reportList f v (markDirty .s3 (guideGoesOn (s.gdu.judged f.list v) s))

section ListEnds

variable {s : State} {f : GuideFetch} {beats : List ReadBeat}

theorem exec_guideList_givenUp (busy : s.fmc.busy = some ⟨.guideList, beats⟩) (fetch : s.gdu.fetch = some f) (up : f.givenUp = true) :
    exec .guideListGrantComplete s = .next (guideGoesOn { s.gdu with claim := .idle, fetch := none } s) := by
  simp only [exec, execGuideListGrantComplete, busy, fetch, up, true_or, if_true]
  rfl

theorem exec_guideList_last (busy : s.fmc.busy = some ⟨.guideList, beats⟩) (fetch : s.gdu.fetch = some f) (counts : f.givenUp = false)
    (claim : s.gdu.claim = .granted true) (whole : f.list.beats ≤ (f.beats ++ beats).length) :
    exec .guideListGrantComplete s = .next (listJudged f (judgeGuideList f.list (f.beats ++ beats)) s) := by
  simp only [exec, execGuideListGrantComplete, busy, fetch, counts, claim, Claim.live, Bool.false_eq_true, Bool.true_eq_false, or_self,
    if_false, Nat.not_lt.mpr whole]
  rfl

variable (f : GuideFetch) (v : GuideVerdict) (s : State)

theorem listJudged_ends : GrantEnded s (listJudged f v s) := by
  rw [GrantEnded, listJudged, (works_reportList f v _).only .fmc (by decide)]
  exact guideGoesOn_ends _ s

theorem listJudged_gdu :
    ∃ (fetch : Option GuideFetch) (claim : Claim),
      (listJudged f v s).gdu = { s.gdu.judged f.list v with fetch := fetch, claim := claim } := by
  rw [listJudged, (works_reportList f v _).only .gdu (by decide)]
  exact guideGoesOn_gdu _ s

theorem listJudged_marks : (listJudged f v s).stw.dirty.has .s3 = true := (works_reportList f v _).marks _ (by simp)

theorem listJudged_only : ReportsBeside [.fmc, .gdu, .wdc] s (listJudged f v s) :=
  (((guideGoesOn_only _ s).mono (by simp)).trans ((works_markDirty _ _).only.mono (by simp))).trans
    ((works_reportList f v _).only.mono (by simp))

theorem listJudged_flt_valid (l : List Segment) : (listJudged f (.valid l) s).flt = s.flt := guideGoesOn_flt _ s

theorem listJudged_flt_invalid (check : Nat) (place : Option Nat) :
    (listJudged f (.invalid check place) s).flt = (report ⟨.guideInvalid, .guide, .guideList f.bank f.list check place, none⟩ s).flt :=
  report_flt_congr _ (guideGoesOn_flt _ s) (guideGoesOn_only _ s .lyu (by decide))

end ListEnds

/-! ## The cadence (R142) -/

section Cadence

variable (k : ParkSettings) (s : State)

theorem works_cadenceNotice (n : CadenceNotice) : Works [.chu, .stw] s (cadenceNotice n s) := by
  unfold cadenceNotice
  split
  · exact .refl _ s
  · exact works_setChu s _

theorem works_handCadence : Works [.pdu, .chu, .stw] s (handCadence k s) := by
  unfold handCadence
  split
  · exact .refl _ s
  · exact (works_withPdu s _).seq (works_cadenceNotice _ _)

/-- The cadence called for is the one handed, whether or not it was before (R142). -/
theorem handCadence_pdu : (handCadence k s).pdu = { s.pdu with handed := s.pdu.called } := by
  unfold handCadence
  split
  · next same => rw [same]
  · rw [cadenceNotice_pdu]

theorem handCadence_flt : (handCadence k s).flt = s.flt := (works_handCadence k s).only .flt (by decide)

theorem handCadence_lyu : (handCadence k s).lyu = s.lyu := (works_handCadence k s).only .lyu (by decide)

end Cadence

/-! ## The sensor fault (R141) -/

section SensorFault

variable (k : ParkSettings) (detail : Detail) {s : State}

theorem enterSensorFault_stays (fault : s.pdu.sensorFault = true) : enterSensorFault k detail s = s := by
  unfold enterSensorFault
  rw [if_pos fault]

theorem enterSensorFault_enters (clear : s.pdu.sensorFault = false) :
    (enterSensorFault k detail s).pdu = { s.pdu with sensorFault := true, zone := 0, readout := .fault, handed := .halt } ∧
    (enterSensorFault k detail s).flt = (report ⟨.sensorFault, .park, detail, none⟩ s).flt := by
  unfold enterSensorFault
  rw [if_neg (by simp [clear]), markDirty_pdu, chimeEvent_pdu, reportPlain_pdu, handCadence_pdu, markDirty_flt, chimeEvent_flt]
  exact ⟨rfl, report_flt_congr _ (handCadence_flt k _) (handCadence_lyu k _)⟩

variable (s)

/-- New or kept, the fault stands, beside the beat last taken, its count and its timer. -/
theorem enterSensorFault_keeps :
    (enterSensorFault k detail s).pdu.sensorFault = true ∧ (enterSensorFault k detail s).pdu.validCount = s.pdu.validCount ∧
    (enterSensorFault k detail s).pdu.distance = s.pdu.distance ∧
    (enterSensorFault k detail s).pdu.distanceTimer = s.pdu.distanceTimer := by
  cases fault : s.pdu.sensorFault with
  | true =>
    rw [enterSensorFault_stays k detail fault]
    exact ⟨fault, rfl, rfl, rfl⟩
  | false =>
    rw [(enterSensorFault_enters k detail fault).1]
    exact ⟨rfl, rfl, rfl, rfl⟩

theorem works_enterSensorFault : Works [.pdu, .stw, .flt, .fsq, .chu] s (enterSensorFault k detail s) := by
  unfold enterSensorFault
  split
  · exact .refl _ s
  · have handed := (works_withPdu s { s.pdu with sensorFault := true, zone := 0, readout := .fault }).seq (works_handCadence k _)
      (blocks := [.pdu, .chu, .stw])
    have told := handed.seq (works_report _ ⟨.sensorFault, .park, detail, none⟩) (blocks := [.pdu, .stw, .flt, .fsq, .chu])
    exact (told.seq (works_chimeEvent _ _) (blocks := [.pdu, .stw, .flt, .fsq, .chu])).seq (works_markDirty _ _)

end SensorFault

/-! ## The distance beat (R139, R140) -/

/-- PDU with a distance record of so many valid sensors evaluated, its cadence handed (R140, R142). -/
def Pdu.evaluated (p : Pdu) (k : ParkSettings) (d : Distance) : Pdu :=
  { p with
    validCount := d.validCount, sensorFault := false, nearest := d.nearest
    zone := zoneOf k d.nearest, readout := readoutOf d.nearest, handed := .zone (zoneOf k d.nearest) }

section Evaluation

variable {k : ParkSettings} {d : Distance} {s : State}

theorem evaluatePark_enough (enough : k.minValid ≤ d.validCount) :
    (evaluatePark k d s).pdu = s.pdu.evaluated k d ∧ (evaluatePark k d s).flt = s.flt := by
  simp only [evaluatePark]
  rw [if_neg (by omega), handCadence_pdu, handCadence_flt]
  exact ⟨rfl, rfl⟩

theorem evaluatePark_few (few : d.validCount < k.minValid) :
    evaluatePark k d s =
      enterSensorFault k (.tooFewValid d.validCount k.minValid) { s with pdu := { s.pdu with validCount := d.validCount } } := by
  simp only [evaluatePark]
  rw [if_pos few]

variable (k d s)

theorem works_evaluatePark : Works [.pdu, .stw, .flt, .fsq, .chu] s (evaluatePark k d s) := by
  simp only [evaluatePark]
  split
  · exact (works_withPdu s _).seq (works_enterSensorFault k _ _)
  · exact (works_withPdu s _).seq ((works_withPdu _ _).seq (works_handCadence k _) (blocks := [.pdu, .chu, .stw]))

/-- Whatever the record says, PDU counts its valid sensors and keeps the beat and its timer (R139, R140). -/
theorem evaluatePark_counts :
    (evaluatePark k d s).pdu.validCount = d.validCount ∧ (evaluatePark k d s).pdu.distance = s.pdu.distance ∧
    (evaluatePark k d s).pdu.distanceTimer = s.pdu.distanceTimer := by
  by_cases few : d.validCount < k.minValid
  · rw [evaluatePark_few few]
    obtain ⟨-, count, distance, timer⟩ := enterSensorFault_keeps k (.tooFewValid d.validCount k.minValid)
      { s with pdu := { s.pdu with validCount := d.validCount } }
    exact ⟨count, distance, timer⟩
  · rw [(evaluatePark_enough (Nat.not_lt.mp few)).1]
    exact ⟨rfl, rfl, rfl⟩

end Evaluation

/-- The state with a distance beat taken and its timer started, not yet evaluated (R139). -/
def distanceTaken (bytes : List Byte) (s : State) : State :=
  markDirty .s3 { s with pdu := { s.pdu with distance := some (parseDistance bytes), distanceTimer := Timer.start (now s) 300 } }

theorem works_distanceTaken (bytes : List Byte) (s : State) : Works [.pdu, .stw] s (distanceTaken bytes s) :=
  (works_withPdu s _).seq (works_markDirty _ _)

theorem distanceTaken_marks (bytes : List Byte) (s : State) : (distanceTaken bytes s).stw.dirty.has .s3 = true := by
  simp [distanceTaken]

/-- An active PDU that is not held evaluates the beat it takes (R139, R140). -/
theorem distanceBeat_evaluates {s : State} {k : ParkSettings} (free : s.pdu.held = false) (active : s.pdu.active = true)
    (park : s.lyu.committed.park = some k) (bytes : List Byte) :
    distanceBeat bytes s = evaluatePark k (parseDistance bytes) (distanceTaken bytes s) := by
  unfold distanceBeat
  rw [if_neg (by simp [free, active])]
  simp only [park]
  rfl

/-! ## The expiries (R131, R141) -/

/-- The state with the steering STALE and its timer stopped (R131). -/
def steeringAged (s : State) : State := markDirty .s3 { s with gdu := { s.gdu with staleTimer := .stopped, steeringState := .stale } }

theorem works_steeringAged (s : State) : Works [.gdu, .stw] s (steeringAged s) := by
  have aged : Works [.gdu] s { s with gdu := { s.gdu with staleTimer := .stopped, steeringState := .stale } } :=
    .of_only (fun b hb => by cases b <;> first | rfl | exact absurd (by simp) hb) rfl rfl
  exact aged.seq (works_markDirty _ _)

/-- STEER_STALE is due exactly in an episode not yet reported, while GDU works with a live bank (R131). -/
theorem steeringAged_due (s : State) :
    (steeringAged s).gdu.staleDue = true ↔ s.gdu.working = true ∧ s.gdu.liveBank ≠ none ∧ s.gdu.staleReported = false := by
  simp [steeringAged, Gdu.staleDue, Option.isSome_iff_ne_none, and_assoc]

theorem exec_staleTimerExpiry {s : State} {expiry : Millis} (timer : s.gdu.staleTimer = .running expiry)
    (due : reached s.lyu.partTime expiry = true) : exec .staleTimerExpiry s = .next (staleCheck (steeringAged s)) := by
  simp only [exec, execStaleTimerExpiry, timer, Timer.due, now, due, if_true]
  rfl

/-- The state with the distance timer stopped (R141). -/
def distanceSilent (s : State) : State := { s with pdu := { s.pdu with distanceTimer := .stopped } }

theorem works_distanceSilent (s : State) : Works [.pdu] s (distanceSilent s) := works_withPdu s _

section DistanceTimer

variable {s : State} {expiry : Millis} (timer : s.pdu.distanceTimer = .running expiry) (due : reached s.lyu.partTime expiry = true)

include timer due

theorem exec_distanceTimerExpiry_fault {k : ParkSettings} (park : s.lyu.committed.park = some k) :
    exec .distanceTimerExpiry s =
      .next (enterSensorFault k (.noDistanceBeat (s.pdu.distance.map Distance.seq)) (distanceSilent s)) := by
  simp only [exec, execDistanceTimerExpiry, timer, Timer.due, now, due, if_true, park]
  rfl

theorem exec_distanceTimerExpiry_unset (park : s.lyu.committed.park = none) :
    exec .distanceTimerExpiry s = .next (distanceSilent s) := by
  simp only [exec, execDistanceTimerExpiry, timer, Timer.due, now, due, if_true, park]
  rfl

end DistanceTimer

end Sys2Proof.Machine
end

section
/-! SETTLES O54 to O56. Silent sensors, the beats of the sensors, and the guide lists fetched (R130, R131, R136, R137, R139 to R142). -/

namespace Sys2Proof.Machine

/-- Settles O54: the stale report by whether it is due (`steeringAged_due`), the sensor fault by whether it stands already. -/
theorem silentSensorsAreReported : Obligations.SilentSensorsAreReported := by
  refine ⟨fun s expiry timer due => ?stale, fun s expiry k timer due park => ?fault,
    fun s expiry timer due park => exec_distanceTimerExpiry_unset timer due park⟩
  case stale =>
    have works : Works [.gdu, .stw, .flt, .fsq, .chu] s (staleCheck (steeringAged s)) :=
      (works_steeringAged s).seq (works_staleCheck _)
    refine ⟨_, exec_staleTimerExpiry timer due, (works_staleCheck _).marks _ (by simp [steeringAged]), works.only.mono (by simp),
      fun reports => ?_, fun rests => ?_⟩
    · obtain ⟨gdu, flt⟩ := staleCheck_due ((steeringAged_due s).mpr reports)
      exact ⟨gdu, flt.trans (report_flt_congr _ rfl rfl)⟩
    · have still : (steeringAged s).gdu.staleDue = false := by
        rw [Bool.eq_false_iff, ne_eq, steeringAged_due]
        rintro ⟨working, live, unreported⟩
        rcases rests with idle | bankless | reported
        · rw [idle] at working; cases working
        · exact live bankless
        · rw [reported] at unreported; cases unreported
      rw [staleCheck_rests still]
      exact ⟨rfl, rfl⟩
  case fault =>
    obtain ⟨fault, -, -, stopped⟩ := enterSensorFault_keeps k (.noDistanceBeat (s.pdu.distance.map Distance.seq)) (distanceSilent s)
    refine ⟨_, exec_distanceTimerExpiry_fault timer due park, ((works_distanceSilent s).seq (works_enterSensorFault k _ _)).only,
      stopped, fault, fun clear => ?_, fun stands => ?_⟩
    · obtain ⟨pdu, flt⟩ := enterSensorFault_enters (s := distanceSilent s) k (.noDistanceBeat (s.pdu.distance.map Distance.seq)) clear
      rw [pdu]
      exact ⟨rfl, rfl, rfl, flt.trans (report_flt_congr _ rfl rfl)⟩
    · rw [enterSensorFault_stays (s := distanceSilent s) k _ stands]
      exact ⟨rfl, rfl⟩

/-- Settles O55: a steering beat by the bucket of its clamped angle (`bucketOf_spans`), a distance beat by its count of valid sensors. -/
theorem sensorBeatsAreTaken : Obligations.SensorBeatsAreTaken := by
  constructor
  · rintro bytes s t rfl
    refine ⟨fun held => if_pos held, fun free => ⟨clampAngle (angleOf bytes), rfl, ?_⟩⟩
    obtain ⟨low, high⟩ := clampAngle_travel (angleOf bytes)
    obtain ⟨range, lower, upper⟩ := bucketOf_spans low high
    obtain ⟨fetch, claim, steers⟩ := steeringBeat_steers free bytes
    have works : Works [.gdu, .wdc, .stw] s (steeringBeat bytes s) := by
      rw [steers]
      exact (works_setGdu s _).seq (works_markDirty _ _)
    have gdu : (steeringBeat bytes s).gdu = { s.gdu.steer bytes (now s) with fetch := fetch, claim := claim } := by
      rw [steers, markDirty_gdu, setGdu_gdu]
    have marked : (steeringBeat bytes s).stw.dirty.has .s3 = true := by simp [steers]
    rw [gdu]
    exact ⟨rfl, rfl, rfl, rfl, range, lower, upper, rfl, rfl, rfl, marked, works.only⟩
  · rintro bytes s t rfl
    refine ⟨fun discards => if_pos discards, ?_⟩
    rintro k d free active park rfl
    rw [distanceBeat_evaluates free active park]
    have works : Works [.pdu, .stw, .flt, .fsq, .chu] s (evaluatePark k (parseDistance bytes) (distanceTaken bytes s)) :=
      (works_distanceTaken bytes s).seq (works_evaluatePark k _ _)
    obtain ⟨count, distance, timer⟩ := evaluatePark_counts k (parseDistance bytes) (distanceTaken bytes s)
    have marked := (works_evaluatePark k (parseDistance bytes) _).marks _ (distanceTaken_marks bytes s)
    refine ⟨distance, timer, count, marked, works.only, fun enough => ?_, fun few clear => ?_⟩
    · obtain ⟨pdu, flt⟩ := evaluatePark_enough (s := distanceTaken bytes s) enough
      rw [pdu]
      refine ⟨rfl, rfl, flt, rfl, fun clear => ?_, fun near nearest => ?_⟩
      · simp [Pdu.evaluated, clear, zoneOf, readoutOf]
      · simp [Pdu.evaluated, nearest, zoneOf, readoutOf]
    · obtain ⟨pdu, flt⟩ := enterSensorFault_enters k (.tooFewValid (parseDistance bytes).validCount k.minValid)
        (s := { distanceTaken bytes s with
          pdu := { (distanceTaken bytes s).pdu with validCount := (parseDistance bytes).validCount } }) clear
      rw [evaluatePark_few few, pdu]
      exact ⟨rfl, rfl, rfl, rfl, flt.trans (report_flt_congr _ rfl rfl)⟩

/-- Settles O56: the judgement against the ranges (`judgeGuideList_valid_iff`), a given-up fetch, and the last grant of one that counts. -/
theorem guideListIsJudged : Obligations.GuideListIsJudged := by
  refine ⟨?judgement, fun s beats f busy fetch => ⟨fun up => ?givenUp, fun counts claim whole => ?last⟩⟩
  case judgement =>
    rintro list header rest used l rfl
    cases list <;> exact judgeGuideList_valid_iff _ header rest l
  case givenUp =>
    obtain ⟨_, _, gdu⟩ := guideGoesOn_gdu { s.gdu with claim := .idle, fetch := none } s
    refine ⟨_, exec_guideList_givenUp busy fetch up, guideGoesOn_ends _ s, ?_, ?_, guideGoesOn_flt _ s, guideGoesOn_only _ s⟩
    all_goals rw [gdu]
  case last =>
    refine ⟨_, exec_guideList_last busy fetch counts claim whole, ?_⟩
    generalize judgeGuideList f.list (f.beats ++ beats) = v
    obtain ⟨_, _, gdu⟩ := listJudged_gdu f v s
    obtain ⟨live, staged, steering⟩ := Gdu.store_keeps { s.gdu with claim := .idle, fetch := none } f.list v
    refine ⟨listJudged_ends f v s, listJudged_marks f v s, ?_, ?_, ?_, listJudged_only f v s, ?_, ?_⟩
    · rw [gdu]; exact live
    · rw [gdu]; exact staged
    · rw [gdu]; exact steering
    · rintro l rfl
      refine ⟨listJudged_flt_valid f s l, fun static => ?_, fun k bucket => ?_⟩
      · rw [gdu, static]; exact ⟨rfl, rfl⟩
      · rw [gdu, bucket]; exact ⟨rfl, rfl⟩
    · rintro check place rfl
      refine ⟨listJudged_flt_invalid f s check place, fun static => ?_, fun k bucket => ?_⟩
      · rw [gdu, static]; exact ⟨rfl, rfl⟩
      · rw [gdu, bucket]; exact ⟨rfl, rfl⟩

end Sys2Proof.Machine
end

section
/-! SUPPORT. CHU's queue on its own (R147 to R154): what makes it safe, said of CHU alone, and that the insertion rule, the voice take and the
clip voice at a block boundary keep it. -/

namespace Sys2Proof.Machine

/-! ## The order of the queue (R147) -/

theorem Chime.before_iff (p q : Chime) :
    p.before q = true ↔ q.priority < p.priority ∨ (p.priority = q.priority ∧ p.arrival < q.arrival) := by simp [Chime.before]

theorem Chime.before_trans {p q r : Chime} (h : p.before q = true) (k : q.before r = true) : p.before r = true := by
  rw [Chime.before_iff] at *
  omega

/-- Of two chimes with different arrivals one stands before the other. -/
theorem Chime.before_of_not {p q : Chime} (differ : p.arrival ≠ q.arrival) (h : ¬ p.before q = true) : q.before p = true := by
  rw [Chime.before_iff] at *
  omega

theorem placeChime_perm (n : Chime) (l : List Chime) : (placeChime n l).Perm (n :: l) := by
  induction l with
  | nil => exact .refl _
  | cons q rest ih =>
    unfold placeChime
    split
    · exact .refl _
    · exact (ih.cons q).trans (.swap n q rest)

@[simp] theorem mem_placeChime {n q : Chime} {l : List Chime} : q ∈ placeChime n l ↔ q = n ∨ q ∈ l := by
  rw [(placeChime_perm n l).mem_iff, List.mem_cons]

@[simp] theorem length_placeChime (n : Chime) (l : List Chime) : (placeChime n l).length = l.length + 1 :=
  (placeChime_perm n l).length_eq

/-- A chime with an arrival of its own is placed in order (R147). -/
theorem pairwise_placeChime {n : Chime} {l : List Chime} (sorted : l.Pairwise fun p q => p.before q = true)
    (fresh : ∀ q ∈ l, q.arrival ≠ n.arrival) : (placeChime n l).Pairwise fun p q => p.before q = true := by
  induction l with
  | nil => exact List.pairwise_singleton _ _
  | cons q rest ih =>
    obtain ⟨first, sorted'⟩ := List.pairwise_cons.mp sorted
    unfold placeChime
    split
    · next ahead =>
      refine List.pairwise_cons.mpr ⟨fun r hr => ?_, sorted⟩
      rcases List.mem_cons.mp hr with rfl | hr
      · exact ahead
      · exact Chime.before_trans ahead (first r hr)
    · next behind =>
      have after := Chime.before_of_not (fresh q List.mem_cons_self).symm behind
      refine List.pairwise_cons.mpr ⟨fun r hr => ?_, ih sorted' fun r hr => fresh r (List.mem_cons_of_mem q hr)⟩
      rcases mem_placeChime.mp hr with rfl | hr
      · exact after
      · exact first r hr

/-! ## A safe queue -/

/-- What the clip voice adds to the stamps in use (R147). -/
def Voice.stamps (v : Voice) : List Nat := if v.state = .idle then [] else [v.chime.arrival]

theorem Chu.stamps_eq (c : Chu) : c.stamps = c.queue.map Chime.arrival ++ c.voice.stamps := rfl

/-- `ChimesSafe`, said of CHU. -/
structure Chu.Ordered (c : Chu) : Prop where
  room : c.queue.length ≤ 8
  clips : (c.queue.map Chime.clip).Nodup
  apart : ∀ q ∈ c.queue, c.voice.holds q.clip = false
  sorted : c.queue.Pairwise fun p q => p.before q = true
  distinct : c.stamps.Nodup
  below : ∀ a ∈ c.stamps, a < c.arrivals
  bound : c.arrivals ≤ 65536

theorem chimesSafe_iff (s : State) : ChimesSafe s ↔ s.chu.Ordered :=
  ⟨fun ⟨room, clips, apart, sorted, distinct, below, bound⟩ => ⟨room, clips, apart, sorted, distinct, below, bound⟩,
    fun ⟨room, clips, apart, sorted, distinct, below, bound⟩ => ⟨room, clips, apart, sorted, distinct, below, bound⟩⟩

theorem Voice.holds_iff (v : Voice) (clip : Nat) : v.holds clip = true ↔ v.state ≠ .idle ∧ v.chime.clip = clip := by simp [Voice.holds]

theorem Voice.holds_eq_false (v : Voice) (clip : Nat) : v.holds clip = false ↔ (v.state ≠ .idle → v.chime.clip ≠ clip) := by
  rw [← Bool.not_eq_true, Voice.holds_iff]
  exact not_and

/-- Two voices that count alike for the queue: both IDLE, or both with a chime of one clip and one arrival. -/
def Voice.Alike (v w : Voice) : Prop :=
  (w.state = .idle ↔ v.state = .idle) ∧ (v.state ≠ .idle → w.chime.clip = v.chime.clip ∧ w.chime.arrival = v.chime.arrival)

theorem Voice.Alike.refl (v : Voice) : v.Alike v := ⟨Iff.rfl, fun _ => ⟨rfl, rfl⟩⟩

theorem Voice.Alike.trans {u v w : Voice} (h : u.Alike v) (k : v.Alike w) : u.Alike w := by
  refine ⟨k.1.trans h.1, fun busy => ?_⟩
  obtain ⟨clip, arrival⟩ := h.2 busy
  obtain ⟨clip', arrival'⟩ := k.2 (mt h.1.mp busy)
  exact ⟨clip'.trans clip, arrival'.trans arrival⟩

/-- A voice whose state stands with the clip and the arrival of its chime. -/
theorem Voice.Alike.of_fields {v w : Voice} (state : w.state = v.state) (clip : w.chime.clip = v.chime.clip)
    (arrival : w.chime.arrival = v.chime.arrival) : v.Alike w := ⟨by rw [state], fun _ => ⟨clip, arrival⟩⟩

/-- A voice that may have fallen IDLE adds no stamp and holds no other clip. -/
theorem Voice.Alike.shrinks {v w : Voice} (h : v.Alike w ∨ w.state = .idle) :
    w.stamps.Sublist v.stamps ∧ ∀ clip : Nat, v.holds clip = false → w.holds clip = false := by
  by_cases idle : w.state = .idle
  · refine ⟨?_, fun clip _ => ?_⟩
    · rw [Voice.stamps, if_pos idle]
      exact List.nil_sublist _
    · rw [Voice.holds_eq_false]
      exact fun busy => absurd idle busy
  · obtain ⟨state, same⟩ := h.resolve_right idle
    have busy := mt state.mpr idle
    obtain ⟨clip, arrival⟩ := same busy
    refine ⟨?_, fun k => ?_⟩
    · rw [Voice.stamps, Voice.stamps, if_neg idle, if_neg busy, arrival]
    · rw [Voice.holds_eq_false, Voice.holds_eq_false, clip]
      exact fun apart _ => apart busy

namespace Chu.Ordered

variable {c d : Chu}

/-- Entries leave the queue in order, and the voice stands or falls IDLE. -/
theorem shrink (h : c.Ordered) (queue : d.queue.Sublist c.queue) (voice : c.voice.Alike d.voice ∨ d.voice.state = .idle)
    (arrivals : d.arrivals = c.arrivals) : d.Ordered := by
  obtain ⟨stamps, held⟩ := Voice.Alike.shrinks voice
  have fewer : d.stamps.Sublist c.stamps := (queue.map Chime.arrival).append stamps
  exact {
    room := queue.length_le.trans h.room
    clips := h.clips.sublist (queue.map Chime.clip)
    apart := fun q hq => held _ (h.apart q (queue.subset hq))
    sorted := h.sorted.sublist queue
    distinct := h.distinct.sublist fewer
    below := fun a ha => by rw [arrivals]; exact h.below a (fewer.subset ha)
    bound := by rw [arrivals]; exact h.bound }

/-- The queue and what the voice counts for it stand. -/
theorem keep (h : c.Ordered) (queue : d.queue = c.queue) (voice : c.voice.Alike d.voice) (arrivals : d.arrivals = c.arrivals) : d.Ordered :=
  h.shrink (by rw [queue]) (.inl voice) arrivals

theorem withVoice (h : c.Ordered) {v : Voice} (voice : c.voice.Alike v) : { c with voice := v }.Ordered := h.keep rfl voice rfl

theorem withTone (h : c.Ordered) (tone : Tone) : { c with tone := tone }.Ordered := h.keep rfl (.refl _) rfl

theorem withFetch (h : c.Ordered) (fetch : Option ClipFetch) (claim : Claim) : { c with fetch := fetch, claim := claim }.Ordered :=
  h.keep rfl (.refl _) rfl

theorem stamps_length (h : c.Ordered) : c.stamps.length ≤ 9 := by
  have := h.room
  rw [Chu.stamps_eq, List.length_append, List.length_map, Voice.stamps]
  split <;> simp <;> omega

/-- A chime of a new clip with an arrival of its own is placed (R147). -/
theorem placed (h : c.Ordered) {n : Chime} (room : c.queue.length < 8) (clip : ∀ q ∈ c.queue, q.clip ≠ n.clip)
    (apart : c.voice.holds n.clip = false) (fresh : n.arrival ∉ c.stamps) (below : n.arrival < c.arrivals) :
    { c with queue := placeChime n c.queue }.Ordered := by
  have perm := placeChime_perm n c.queue
  have stamps : (({ c with queue := placeChime n c.queue } : Chu).stamps).Perm (n.arrival :: c.stamps) :=
    (perm.map Chime.arrival).append_right c.voice.stamps
  exact {
    room := by simpa using room
    clips := by
      rw [(perm.map Chime.clip).nodup_iff, List.map_cons, List.nodup_cons]
      exact ⟨fun same => by obtain ⟨q, hq, eq⟩ := List.mem_map.mp same; exact clip q hq eq, h.clips⟩
    apart := fun q hq => by
      rcases mem_placeChime.mp hq with rfl | hq
      · exact apart
      · exact h.apart q hq
    sorted := pairwise_placeChime h.sorted fun q hq same =>
      fresh (List.mem_append_left _ (same ▸ List.mem_map_of_mem hq))
    distinct := stamps.nodup_iff.mpr (List.nodup_cons.mpr ⟨fresh, h.distinct⟩)
    below := fun a ha => by
      rcases List.mem_cons.mp (stamps.mem_iff.mp ha) with rfl | ha
      · exact below
      · exact h.below a ha
    bound := h.bound }

/-- A merge into a queued clip (R147): the entry keeps its clip and its arrival and is placed anew. -/
theorem merged (h : c.Ordered) {q m : Chime} (hq : q ∈ c.queue) (clip : m.clip = q.clip) (arrival : m.arrival = q.arrival) :
    { c with queue := placeChime m (c.queue.filter fun p => !(p.clip == q.clip)) }.Ordered := by
  have others : { c with queue := c.queue.filter fun p => !(p.clip == q.clip) }.Ordered :=
    h.shrink List.filter_sublist (.inl (.refl _)) rfl
  have fewer : (c.queue.filter fun p => !(p.clip == q.clip)).length < c.queue.length :=
    List.length_filter_lt_length_iff_exists.mpr ⟨q, hq, by simp⟩
  have stamped : q.arrival ∈ c.stamps := List.mem_append_left _ (List.mem_map_of_mem hq)
  have alone : q.arrival ∉ ({ c with queue := c.queue.filter fun p => !(p.clip == q.clip) } : Chu).stamps := by
    have distinct := h.distinct
    rw [Chu.stamps_eq, List.nodup_append'] at distinct
    obtain ⟨queue, -, disjoint⟩ := distinct
    rw [Chu.stamps_eq, List.mem_append]
    rintro (other | voice)
    · obtain ⟨p, hp, same⟩ := List.mem_map.mp other
      obtain ⟨hp, differs⟩ := List.mem_filter.mp hp
      have : p = q := List.inj_on_of_nodup_map queue hp hq same
      simp [this] at differs
    · exact disjoint (List.mem_map_of_mem hq) voice
  refine others.placed (fewer.trans_le h.room) (fun p hp => ?_) ?_ (by rw [arrival]; exact alone) (by rw [arrival]; exact h.below _ stamped)
  · have differs := (List.mem_filter.mp hp).2
    rw [clip]
    simpa using differs
  · rw [clip]
    exact h.apart q hq

end Chu.Ordered

/-! ## Fresh arrivals (R147, log 25) -/

/-- A stamp's rank is below the number of stamps in use. -/
theorem rankOf_lt {stamps : List Nat} {a : Nat} (h : a ∈ stamps) : rankOf stamps a < stamps.length :=
  List.length_filter_lt_length_iff_exists.mpr ⟨a, h, by simp⟩

/-- Ranks keep the order of the stamps. -/
theorem rankOf_lt_rankOf {stamps : List Nat} {a b : Nat} (h : a ∈ stamps) (less : a < b) : rankOf stamps a < rankOf stamps b := by
  have nested : rankOf stamps a = rankOf (stamps.filter (· < b)) a := by
    simp only [rankOf, List.filter_filter]
    congr 1
    refine List.filter_congr fun k _ => ?_
    rw [← Bool.decide_and]
    exact decide_eq_decide.mpr ⟨fun first => ⟨first, first.trans less⟩, fun both => both.1⟩
  rw [nested]
  exact rankOf_lt (List.mem_filter.mpr ⟨h, by simpa using less⟩)

theorem rankOf_inj {stamps : List Nat} {a b : Nat} (ha : a ∈ stamps) (hb : b ∈ stamps) (same : rankOf stamps a = rankOf stamps b) :
    a = b := by
  rcases Nat.lt_trichotomy a b with less | eq | more
  · exact absurd same (rankOf_lt_rankOf ha less).ne
  · exact eq
  · exact absurd same (rankOf_lt_rankOf hb more).ne'

theorem Chu.renumber_stamps (c : Chu) : c.renumber.stamps = c.stamps.map (rankOf c.stamps) := by
  simp only [Chu.stamps_eq, Chu.renumber, List.map_append, List.map_map, Voice.stamps]
  split <;> rfl

/-- Renumbering keeps the order and every entry but its arrival (R147). -/
theorem Chu.Ordered.renumber {c : Chu} (h : c.Ordered) : c.renumber.Ordered := by
  have queued : ∀ q ∈ c.queue, q.arrival ∈ c.stamps := fun q hq => List.mem_append_left _ (List.mem_map_of_mem hq)
  exact {
    room := by simpa [Chu.renumber] using h.room
    clips := by simpa [Chu.renumber, List.map_map, Function.comp_def] using h.clips
    apart := fun q hq => by
      obtain ⟨p, hp, rfl⟩ := List.mem_map.mp hq
      exact h.apart p hp
    sorted := by
      refine List.pairwise_map.mpr (h.sorted.imp_of_mem fun {p q} hp hq before => ?_)
      rw [Chime.before_iff] at before ⊢
      exact before.imp_right fun ⟨level, earlier⟩ => ⟨level, rankOf_lt_rankOf (queued p hp) earlier⟩
    distinct := by
      rw [Chu.renumber_stamps]
      exact h.distinct.map_on fun a ha b hb => rankOf_inj ha hb
    below := fun a ha => by
      rw [Chu.renumber_stamps] at ha
      obtain ⟨b, hb, rfl⟩ := List.mem_map.mp ha
      exact rankOf_lt hb
    bound := h.stamps_length.trans (by decide) }

/-- What a fresh arrival makes of CHU: the stamps are renumbered first where the count is at its end (R147). -/
theorem Chu.freshArrival_cases (c : Chu) :
    (c.arrivals ≤ 65535 ∧ c.freshArrival = (c.arrivals, { c with arrivals := c.arrivals + 1 })) ∨
    (65535 < c.arrivals ∧ c.freshArrival = (c.stamps.length, { c.renumber with arrivals := c.stamps.length + 1 })) := by
  unfold Chu.freshArrival
  dsimp only
  split
  · next ended => exact .inr ⟨ended, rfl⟩
  · next going => exact .inl ⟨Nat.le_of_not_lt going, rfl⟩

/-- With the count moved on, the count before is an arrival that no stamp has (R147). -/
theorem Chu.Ordered.counted {c : Chu} (h : c.Ordered) (going : c.arrivals ≤ 65535) :
    { c with arrivals := c.arrivals + 1 }.Ordered ∧ c.arrivals ∉ c.stamps :=
  ⟨{ h with below := fun a ha => (h.below a ha).trans (Nat.lt_succ_self _), bound := Nat.succ_le_succ going },
    fun used => absurd (h.below _ used) (Nat.lt_irrefl _)⟩

/-- What a fresh arrival leaves: a safe queue of the same clips at the same places, in which no stamp is the fresh one (R147). -/
structure Chu.Freshened (c d : Chu) (stamp : Nat) : Prop where
  ordered : d.Ordered
  fresh : stamp ∉ d.stamps
  below : stamp < d.arrivals
  clips : d.queue.map Chime.clip = c.queue.map Chime.clip
  holds : ∀ clip : Nat, d.voice.holds clip = c.voice.holds clip

theorem Chu.Ordered.freshened {c : Chu} (h : c.Ordered) : c.Freshened c.freshArrival.2 c.freshArrival.1 := by
  rcases c.freshArrival_cases with ⟨going, eq⟩ | ⟨-, eq⟩
  · obtain ⟨ordered, fresh⟩ := h.counted going
    rw [eq]
    exact ⟨ordered, fresh, Nat.lt_succ_self _, rfl, fun _ => rfl⟩
  · obtain ⟨ordered, fresh⟩ := h.renumber.counted (h.stamps_length.trans (by decide))
    rw [eq]
    exact ⟨ordered, fresh, Nat.lt_succ_self _, by simp [Chu.renumber, List.map_map, Function.comp_def], fun _ => rfl⟩

/-- A queue without a clip has none in a list of the same clips. -/
theorem clip_absent {l l' : List Chime} {clip : Nat} (same : l'.map Chime.clip = l.map Chime.clip) (absent : ∀ q ∈ l, q.clip ≠ clip) :
    ∀ q ∈ l', q.clip ≠ clip := fun q hq eq => by
  have : clip ∈ l.map Chime.clip := same ▸ List.mem_map.mpr ⟨q, hq, eq⟩
  obtain ⟨p, hp, eq'⟩ := List.mem_map.mp this
  exact absent p hp eq'

/-! ## A block of the clip (R153) -/

/-- The voice with the next block playing, or with the silence of a late one. -/
def Voice.withBlock (v : Voice) (position : Nat) (block : Option ClipBlock) : Voice :=
  { v with position := position, current := block, next := none, underrun := block.isNone }

/-- The voice that repeats its clip: the next route has joined, and one play is done. -/
def Voice.repeated (v : Voice) : Voice := { v.joinRoute with chime := { v.joinRoute.chime with plays := v.joinRoute.chime.plays - 1 } }

/-- The block at a position plays when it is the buffered next one; else it is late, and reported unless the run of late blocks has been. -/
theorem Chu.playAt_cases (c : Chu) (position : Nat) :
    (∃ b : ClipBlock, c.voice.next = some b ∧ b.position = position ∧
      c.playAt position = ({ c with voice := c.voice.withBlock position (some b) }, none)) ∨
    ((∀ b : ClipBlock, c.voice.next = some b → b.position ≠ position) ∧
      c.playAt position = ({ c.giveUpFetch with voice := c.voice.withBlock position none },
        if c.voice.underrun then none else some (.lateClip c.voice.chime.clip position))) := by
  simp only [Chu.playAt]
  split
  · next b next =>
    by_cases same : b.position = position
    · rw [if_pos (by simpa using same), next]
      exact .inl ⟨b, rfl, same, rfl⟩
    · rw [if_neg (by simpa using same)]
      refine .inr ⟨fun b' eq => ?_, rfl⟩
      rw [next] at eq
      cases eq
      exact same
  · next empty =>
    rw [if_neg (by decide)]
    exact .inr ⟨fun b' eq => (by rw [empty] at eq; cases eq), rfl⟩

/-! ## The insertion rule (R147, R154) -/

/-- A chime that keeps its arrival has one of its own, as a requeued chime does (R154). -/
def Chu.OwnArrival (c : Chu) (n : Chime) (keep : Bool) : Prop := keep = true → n.arrival ∉ c.stamps ∧ n.arrival < c.arrivals

/-- A chime that takes a fresh arrival keeps none. -/
theorem Chu.OwnArrival.fresh (c : Chu) (n : Chime) : c.OwnArrival n false := fun own => by cases own

namespace Chu.Ordered

variable {c : Chu} {n : Chime} {keep : Bool}

theorem place (h : c.Ordered) (kept : c.OwnArrival n keep) (room : c.queue.length < 8) (clip : ∀ q ∈ c.queue, q.clip ≠ n.clip)
    (apart : c.voice.holds n.clip = false) : (c.place n keep).Ordered := by
  unfold Chu.place
  split
  · next own =>
    obtain ⟨fresh, below⟩ := kept own
    exact h.placed room clip apart fresh below
  · obtain ⟨ordered, fresh, below, clips, holds⟩ := h.freshened
    have length : c.freshArrival.2.queue.length = c.queue.length := by simpa using congrArg List.length clips
    exact ordered.placed (length ▸ room) (clip_absent clips clip) ((holds _).trans apart) fresh below

/-- The queue without its last entry. -/
theorem evicted (h : c.Ordered) (dropped : Count) : { c with queue := c.queue.dropLast, dropped := dropped }.Ordered :=
  h.shrink (List.dropLast_sublist _) (.inl (.refl _)) rfl

theorem insert (h : c.Ordered) (kept : c.OwnArrival n keep) : (c.insert n keep).2.Ordered := by
  unfold Chu.insert
  split
  · exact h.withVoice (.of_fields rfl rfl rfl)
  · next other =>
    have apart : c.voice.holds n.clip = false := Bool.eq_false_iff.mpr other
    split
    · next q found =>
      have hq := List.mem_of_find?_eq_some found
      have clip : q.clip = n.clip := by simpa using List.find?_some found
      rw [← clip]
      exact h.merged hq rfl rfl
    · next absent =>
      have new : ∀ q ∈ c.queue, q.clip ≠ n.clip := by simpa using absent
      split
      · next room => exact h.place kept room new apart
      · next full =>
        split
        · split
          · refine (h.evicted (c.dropped + 1)).place (fun own => ?_) ?_ (fun q hq => new q (List.dropLast_subset _ hq)) apart
            · obtain ⟨fresh, below⟩ := kept own
              have fewer : (c.queue.dropLast.map Chime.arrival ++ c.voice.stamps).Sublist c.stamps :=
                ((List.dropLast_sublist _).map _).append (.refl _)
              exact ⟨fun used => fresh (fewer.subset used), below⟩
            · have := h.room
              rw [List.length_dropLast]
              omega
          · exact h
        · exact h

theorem insertCounted (h : c.Ordered) (kept : c.OwnArrival n keep) : (c.insertCounted n keep).Ordered := by
  have inserted := h.insert kept
  unfold Chu.insertCounted
  split
  · next same => rw [same] at inserted; exact inserted
  · next same => rw [same] at inserted; exact inserted.keep rfl (.refl _) rfl

/-! ## The clip voice (R151 to R154) -/

theorem voiceTake (h : c.Ordered) : c.voiceTake.Ordered := by
  rcases c.voiceTake_cases with same | ⟨head, rest, idle, -, -, queue, taken⟩
  · rw [same]
    exact h
  · have silent : c.voice.stamps = [] := if_pos idle
    obtain ⟨room, clips, -, sorted, distinct, below, bound⟩ := h
    simp only [Chu.stamps_eq, silent, queue, List.map_cons, List.append_nil, List.nodup_cons, List.pairwise_cons]
      at room clips sorted distinct below
    rw [taken]
    refine ⟨by simp at room; simp; omega, clips.2, fun q hq => ?_, sorted.2, ?_, fun a ha => below a ?_, bound⟩
    · rw [Voice.holds_eq_false]
      exact fun _ same => clips.1 (List.mem_map.mpr ⟨q, hq, same.symm⟩)
    · exact (List.perm_append_singleton _ _).nodup_iff.mpr (List.nodup_cons.mpr distinct)
    · exact (List.perm_append_singleton _ _).mem_iff.mp ha

theorem kick (h : c.Ordered) (store : Option Region) : (c.kick store).Ordered := by
  obtain ⟨queue, voice, -, -, arrivals, -⟩ := c.kick_keeps store
  exact h.keep queue (by rw [voice]; exact .refl _) arrivals

theorem giveUpFetch (h : c.Ordered) : c.giveUpFetch.Ordered := by
  obtain ⟨queue, voice, -, -, arrivals, -⟩ := c.giveUpFetch_keeps
  exact h.keep queue (by rw [voice]; exact .refl _) arrivals

theorem silenceVoice (h : c.Ordered) : c.silenceVoice.Ordered := by
  obtain ⟨voice, queue, -, -, arrivals, -⟩ := c.silenceVoice_spec
  exact h.shrink (by rw [queue]) (.inr (by rw [voice]; rfl)) arrivals

/-- The requeued chime of a preempted voice keeps its arrival, which no other stamp has (R154). -/
theorem preempt (h : c.Ordered) (busy : c.voice.state ≠ .idle) : c.preempt.Ordered := by
  obtain ⟨voice, queue, -, -, arrivals, -⟩ := c.silenceVoice_spec
  have distinct := h.distinct
  have below := h.below
  rw [Chu.stamps_eq, Voice.stamps, if_neg busy] at distinct below
  unfold Chu.preempt
  refine voiceTake ?_
  split
  · refine h.silenceVoice.insertCounted fun _ => ⟨fun used => ?_, ?_⟩
    · rw [Chu.stamps_eq, queue, voice, show (Voice.blank c.voice.underrun).stamps = [] from rfl, List.append_nil] at used
      exact (List.nodup_append'.mp distinct).2.2 used (List.mem_singleton.mpr rfl)
    · rw [arrivals]
      exact below _ (List.mem_append_right _ (List.mem_singleton.mpr rfl))
  · exact h.silenceVoice.keep rfl (.refl _) rfl

/-- The voice plays on or falls late with the chime it has (R153). -/
theorem playAt (h : c.Ordered) (position : Nat) : (c.playAt position).1.Ordered := by
  obtain ⟨queue, -, -, -, arrivals, -⟩ := c.giveUpFetch_keeps
  rcases c.playAt_cases position with ⟨b, -, -, onTime⟩ | ⟨-, late⟩
  · rw [onTime]
    exact h.withVoice (.of_fields rfl rfl rfl)
  · rw [late]
    exact h.keep queue (.of_fields rfl rfl rfl) arrivals

theorem advance (h : c.Ordered) : c.advance.1.Ordered := by
  have joined : { c with voice := c.voice.joinRoute }.Ordered := h.withVoice (.of_fields rfl rfl rfl)
  simp only [Chu.advance]
  split
  · exact joined.silenceVoice.voiceTake
  · split
    · split
      · exact joined.silenceVoice.voiceTake
      · have again : { c with voice := c.voice.repeated }.Ordered := h.withVoice (.of_fields rfl rfl rfl)
        exact again.playAt 0
    · exact joined.playAt _

theorem settleVoice (h : c.Ordered) : c.settleVoice.1.Ordered := by
  unfold Chu.settleVoice
  split
  · exact h.silenceVoice.keep rfl (.refl _) rfl
  · split
    · next preempts =>
      refine h.preempt fun idle => ?_
      unfold Chu.preempts at preempts
      split at preempts <;> simp [idle] at preempts
    · split
      · exact h
      · next starting =>
        repeat' split
        · exact h.silenceVoice.voiceTake
        · exact h.keep rfl ⟨by simp [starting], fun _ => ⟨rfl, rfl⟩⟩ rfl
        · exact h
      · exact h.advance

/-! ## Stops, and the tone voice (R150, R155) -/

theorem stopAll (h : c.Ordered) : c.stopAll.Ordered := by
  refine h.shrink (List.nil_sublist _) (.inl ?_) rfl
  simp only [Chu.stopAll]
  split <;> exact .of_fields rfl rfl rfl

theorem stopClip (h : c.Ordered) (clip : Nat) : (c.stopClip clip).Ordered := by
  refine h.shrink List.filter_sublist (.inl ?_) rfl
  simp only [Chu.stopClip]
  split <;> exact .of_fields rfl rfl rfl

theorem settled (h : c.Ordered) (store : Option Region) : (c.voiceTake.kick store).Ordered := h.voiceTake.kick store

end Chu.Ordered

end Sys2Proof.Machine
end

section
/-! SUPPORT. The film audio rings on their own (R157 to R159): what makes them safe, said of the two channel records, and that giving a fetch
up, a producer, a stop, a fetch and the settling of a block keep it. -/

namespace Sys2Proof.Machine

/-! ## One channel -/

theorem AudioChannel.mayHold_iff (c : AudioChannel) (i : Count) :
    c.mayHold i ↔ (i - c.consumer).toNat < (c.producer - c.consumer).toNat ∧ (i - c.consumer).toNat < 2 := by
  simp [AudioChannel.mayHold, AudioChannel.inRing]

theorem AudioChannel.buffered_eq_none (c : AudioChannel) (i : Count) : c.buffered i = none ↔ ∀ b ∈ c.ahead, b.index ≠ i := by
  simp [AudioChannel.buffered]

/-- What `AudioChannel.safe` says beside the capacity: each block ahead, and a fetch that still counts, is one of the next two in the ring, and
no index is there twice (R158). -/
structure AudioChannel.Sound (c : AudioChannel) : Prop where
  ahead : ∀ b ∈ c.ahead, c.mayHold b.index
  distinct : (c.ahead.map AudioBlock.index).Nodup
  fetch : ∀ f, c.fetch = some f → f.givenUp = false → c.mayHold f.index ∧ ∀ b ∈ c.ahead, b.index ≠ f.index

namespace AudioChannel

variable {c d : AudioChannel}

/-- Only two indices may be held, so at most two blocks are ahead (R158). -/
theorem Sound.ahead_length (h : c.Sound) : c.ahead.length ≤ 2 := by
  have two : c.ahead.map AudioBlock.index ⊆ [c.consumer, c.consumer + 1] := fun i hi => by
    obtain ⟨b, hb, rfl⟩ := List.mem_map.mp hi
    obtain ⟨-, near⟩ := (c.mayHold_iff _).mp (h.ahead b hb)
    have : b.index = c.consumer ∨ b.index = c.consumer + 1 := by bv_omega
    simpa using this
  simpa using (h.distinct.subperm two).length_le

theorem safe_iff (c : AudioChannel) (capacity : Nat) : c.safe capacity ↔ (c.producer - c.consumer).toNat ≤ capacity ∧ c.Sound := by
  constructor
  · rintro ⟨fits, ahead, distinct, -, fetch⟩
    exact ⟨fits, ahead, distinct, fun f hf counts => (fetch f hf counts).imp_right (c.buffered_eq_none _).mp⟩
  · rintro ⟨fits, sound⟩
    exact ⟨fits, sound.ahead, sound.distinct, sound.ahead_length,
      fun f hf counts => (sound.fetch f hf counts).imp_right (c.buffered_eq_none _).mpr⟩

/-- Blocks leave the ahead buffer, the fetch stands or counts no more, and the indices that remain may still be held. -/
theorem Sound.shrink (h : c.Sound) (ahead : d.ahead.Sublist c.ahead)
    (fetch : ∀ f, d.fetch = some f → f.givenUp = false → c.fetch = some f)
    (holds : ∀ i, c.mayHold i → (∃ b ∈ d.ahead, b.index = i) ∨ (∃ f, d.fetch = some f ∧ f.givenUp = false ∧ f.index = i) → d.mayHold i) :
    d.Sound where
  ahead b hb := holds _ (h.ahead b (ahead.subset hb)) (.inl ⟨b, hb, rfl⟩)
  distinct := h.distinct.sublist (ahead.map _)
  fetch f hf counts := by
    obtain ⟨hold, others⟩ := h.fetch f (fetch f hf counts) counts
    exact ⟨holds _ hold (.inr ⟨f, hf, counts, rfl⟩), fun b hb => others b (ahead.subset hb)⟩

/-- The ring and the blocks ahead stand, and the fetch stands or counts no more. -/
theorem Sound.keep (h : c.Sound) (producer : d.producer = c.producer) (consumer : d.consumer = c.consumer) (ahead : d.ahead = c.ahead)
    (fetch : ∀ f, d.fetch = some f → f.givenUp = false → c.fetch = some f) : d.Sound :=
  h.shrink (by rw [ahead]) fetch fun i hold _ => by
    rw [mayHold_iff] at hold ⊢
    rwa [producer, consumer]

/-- An empty ring with nothing ahead and no fetch that counts. -/
theorem Sound.of_empty (ahead : d.ahead = []) (fetch : ∀ f, d.fetch = some f → f.givenUp = true) : d.Sound where
  ahead b hb := by rw [ahead] at hb; cases hb
  distinct := by rw [ahead]; exact .nil
  fetch f hf counts := by rw [fetch f hf] at counts; cases counts

/-- An index that may be held and is not the consumer may be held when the consumer has advanced (R159). -/
theorem mayHold_advance {i : Count} (producer : d.producer = c.producer) (consumer : d.consumer = c.consumer + 1) (hold : c.mayHold i)
    (other : i ≠ c.consumer) : d.mayHold i := by
  rw [mayHold_iff] at hold ⊢
  rw [producer, consumer]
  bv_omega

/-- The next index to fetch may be held and is not ahead yet (R158). -/
theorem wanted_spec {i : Count} (h : c.wanted = some i) : c.mayHold i ∧ ∀ b ∈ c.ahead, b.index ≠ i := by
  have passes := List.find?_some h
  have place := List.mem_of_find?_eq_some h
  simp only [Bool.and_eq_true, Option.isNone_iff_eq_none, buffered_eq_none] at passes
  obtain ⟨ring, new⟩ := passes
  have near : (i - c.consumer).toNat < 2 := ?_
  · exact ⟨⟨ring, near⟩, new⟩
  rcases List.mem_cons.mp place with rfl | next
  · bv_omega
  · rw [List.mem_singleton.mp next]
    bv_omega

/-- A fetch of an index that may be held and is not ahead begins (R158). -/
theorem Sound.fetching (h : c.Sound) {f : AudioFetch} (hold : c.mayHold f.index) (new : ∀ b ∈ c.ahead, b.index ≠ f.index) :
    { c with fetch := some f }.Sound :=
  ⟨h.ahead, h.distinct, fun g hg _ => by cases hg; exact ⟨hold, new⟩⟩

/-- The block of a fetch that counts joins the blocks ahead (R158). -/
theorem Sound.fetched (h : c.Sound) {f : AudioFetch} (fetch : c.fetch = some f) (counts : f.givenUp = false) (data : List Byte)
    (poison : Bool) : { c with fetch := none, ahead := c.ahead ++ [AudioBlock.mk f.index data poison] }.Sound := by
  obtain ⟨hold, new⟩ := h.fetch f fetch counts
  refine ⟨fun b hb => ?_, ?_, fun g hg => by cases hg⟩
  · rcases List.mem_append.mp hb with old | last
    · exact h.ahead b old
    · rw [List.mem_singleton.mp last]
      exact hold
  · rw [List.map_append, List.nodup_append']
    refine ⟨h.distinct, List.nodup_singleton _, fun i hi last => ?_⟩
    obtain ⟨b, hb, rfl⟩ := List.mem_map.mp hi
    exact new b hb (List.mem_singleton.mp last)

end AudioChannel

/-- A channel's record replaced twice. -/
theorem PerChannel.set_set {α : Type} (t : PerChannel α) (x : Channel) (v w : α) : (t.set x v).set x w = t.set x w := by cases x <;> rfl

/-! ## Both channels -/

/-- Both channel records are sound, and only one has a fetch in flight (R158, log 47). -/
structure RingsSound (r : PerChannel AudioChannel) : Prop where
  sound : ∀ x : Channel, (r.get x).Sound
  alone : r.a.fetch = none ∨ r.b.fetch = none

/-- Each ring keeps within its capacity (R157). -/
def RingsFit (r : PerChannel AudioChannel) (l : Layout) : Prop :=
  ∀ x : Channel, ((r.get x).producer - (r.get x).consumer).toNat ≤ audioCapacity x l

theorem audioSafe_iff (s : State) : AudioSafe s ↔ RingsSound s.aop.channels ∧ RingsFit s.aop.channels s.lyu.committed := by
  rw [AudioSafe, AudioChannel.safe_iff, AudioChannel.safe_iff]
  constructor
  · rintro ⟨⟨fitsA, soundA⟩, ⟨fitsB, soundB⟩, alone⟩
    exact ⟨⟨fun x => by cases x <;> assumption, alone⟩, fun x => by cases x <;> assumption⟩
  · rintro ⟨⟨sound, alone⟩, fits⟩
    exact ⟨⟨fits .a, sound .a⟩, ⟨fits .b, sound .b⟩, alone⟩

variable {r : PerChannel AudioChannel} {x : Channel} {c : AudioChannel} {l : Layout}

/-- One channel's record is replaced by a sound one that begins no fetch. -/
theorem RingsSound.set (h : RingsSound r) (sound : c.Sound) (fetch : (r.get x).fetch = none → c.fetch = none) : RingsSound (r.set x c) := by
  refine ⟨fun y => ?_, ?_⟩
  · rw [PerChannel.get_set]
    split
    · exact sound
    · exact h.sound y
  · cases x with
    | a => exact h.alone.imp_left fetch
    | b => exact h.alone.imp_right fetch

theorem RingsFit.set (h : RingsFit r l) (fits : (c.producer - c.consumer).toNat ≤ audioCapacity x l) : RingsFit (r.set x c) l := fun y => by
  rw [PerChannel.get_set]
  split
  · next same => rw [same]; exact fits
  · exact h y

/-- A channel's record is replaced by one with the same ring. -/
theorem RingsFit.set_same (h : RingsFit r l) (producer : c.producer = (r.get x).producer) (consumer : c.consumer = (r.get x).consumer) :
    RingsFit (r.set x c) l := h.set (by rw [producer, consumer]; exact h x)

/-- A move of the rings that keeps them sound, and then within any capacities that they kept. -/
structure RingsMove (r r' : PerChannel AudioChannel) : Prop where
  sound : RingsSound r → RingsSound r'
  fits : ∀ l : Layout, RingsSound r → RingsFit r l → RingsFit r' l

theorem RingsMove.refl (r : PerChannel AudioChannel) : RingsMove r r := ⟨id, fun _ _ => id⟩

theorem RingsMove.trans {r r' r'' : PerChannel AudioChannel} (h : RingsMove r r') (k : RingsMove r' r'') : RingsMove r r'' :=
  ⟨fun sound => k.sound (h.sound sound), fun l sound fits => k.fits l (h.sound sound) (h.fits l sound fits)⟩

/-- One channel's ring stands, with a sound record that begins no fetch. -/
theorem RingsMove.set (producer : c.producer = (r.get x).producer) (consumer : c.consumer = (r.get x).consumer)
    (sound : (r.get x).Sound → c.Sound) (fetch : (r.get x).fetch = none → c.fetch = none) : RingsMove r (r.set x c) :=
  ⟨fun h => h.set (sound (h.sound x)) fetch, fun _ _ h => h.set_same producer consumer⟩

/-- What giving up does to the channel's record: the fetch is gone, or counts no more (R20, R158). -/
theorem Aop.giveUp_channels (o : Aop) (x : Channel) : ∃ fetch : Option AudioFetch,
    (o.giveUp x).channels = o.channels.set x { o.channels.get x with fetch := fetch } ∧
    (∀ f, fetch = some f → f.givenUp = true) ∧ ((o.channels.get x).fetch = none → fetch = none) := by
  unfold Aop.giveUp
  dsimp only
  split
  · next resting => exact ⟨none, by rw [← resting, PerChannel.set_get], fun _ h => (by cases h), fun _ => rfl⟩
  · next f _ fetching _ =>
    refine ⟨some { f with givenUp := true }, rfl, fun g h => ?_, fun none => ?_⟩
    · cases h
      rfl
    · rw [none] at fetching
      cases fetching
  · exact ⟨none, rfl, fun _ h => (by cases h), fun _ => rfl⟩

theorem Aop.giveUp_moves (o : Aop) (x : Channel) : RingsMove o.channels (o.giveUp x).channels := by
  obtain ⟨fetch, channels, up, resting⟩ := o.giveUp_channels x
  rw [channels]
  exact .set rfl rfl (fun sound => sound.keep rfl rfl rfl fun f hf counts => by rw [up f hf] at counts; cases counts) resting

/-- A stopped channel is sound whatever it was (R82, R159). -/
theorem Aop.stopChannel_moves (o : Aop) (x : Channel) : RingsMove o.channels (o.stopChannel x).channels := by
  refine (o.giveUp_moves x).trans ?_
  obtain ⟨fetch, channels, up, resting⟩ := o.giveUp_channels x
  have given : ((o.giveUp x).channels.get x).fetch = fetch := by rw [channels, PerChannel.get_set_same]
  exact ⟨fun h => h.set (.of_empty rfl fun f hf => up f (given ▸ hf)) id, fun l _ h => h.set (by simp)⟩

/-- What an accepted producer leaves in the ring, and what it makes of the fetch: it stands for an index in the ring, and else is given up
(R157). -/
theorem Aop.takeProducer_channels (o : Aop) (x : Channel) (producer : Count) : ∃ fetch : Option AudioFetch,
    (o.takeProducer x producer).channels = o.channels.set x { (o.channels.get x).withProducer producer with fetch := fetch } ∧
    (∀ f, fetch = some f → f.givenUp = false →
      (o.channels.get x).fetch = some f ∧ ((o.channels.get x).withProducer producer).inRing f.index = true) ∧
    ((o.channels.get x).fetch = none → fetch = none) := by
  unfold Aop.takeProducer
  dsimp only
  split
  · next f fetching =>
    split
    · next ring =>
      refine ⟨some f, by rw [← fetching]; rfl, fun g hg _ => ?_, fun none => ?_⟩
      · cases hg
        exact ⟨fetching, ring⟩
      · rw [none] at fetching
        cases fetching
    · obtain ⟨fetch, channels, up, resting⟩ :=
        Aop.giveUp_channels { o with channels := o.channels.set x ((o.channels.get x).withProducer producer) } x
      rw [PerChannel.get_set_same] at channels resting
      refine ⟨fetch, channels.trans (PerChannel.set_set _ _ _ _), fun g hg counts => ?_, resting⟩
      rw [up g hg] at counts
      cases counts
  · next resting =>
    refine ⟨none, by rw [← resting]; rfl, fun g hg => ?_, fun _ => rfl⟩
    cases hg

/-- An accepted producer drops the blocks that are no longer in the ring, and gives up the fetch of such a block (R157). -/
theorem Aop.takeProducer_sound {o : Aop} (h : RingsSound o.channels) (x : Channel) (producer : Count) :
    RingsSound (o.takeProducer x producer).channels := by
  obtain ⟨fetch, channels, stands, resting⟩ := o.takeProducer_channels x producer
  rw [channels]
  refine h.set ((h.sound x).shrink List.filter_sublist (fun f hf counts => (stands f hf counts).1) fun i hold who => ⟨?_, hold.2⟩) resting
  rcases who with ⟨b, hb, rfl⟩ | ⟨f, hf, counts, rfl⟩
  · exact (List.mem_filter.mp hb).2
  · exact (stands f hf counts).2

/-- A producer within the capacity keeps the rings within their capacities (R157). -/
theorem Aop.takeProducer_fits {o : Aop} {l : Layout} {x : Channel} {producer : Count} (h : RingsFit o.channels l)
    (room : (producer - (o.channels.get x).consumer).toNat ≤ audioCapacity x l) : RingsFit (o.takeProducer x producer).channels l := by
  obtain ⟨fetch, channels, -, -⟩ := o.takeProducer_channels x producer
  rw [channels]
  exact h.set room

/-! ## Fetches (R158) -/

theorem Aop.inFlight_some {o : Aop} {x : Channel} {f : AudioFetch} (h : o.inFlight = some (x, f)) : (o.channels.get x).fetch = some f := by
  unfold Aop.inFlight at h
  split at h
  · next fetching => cases h; exact fetching
  · next _ fetching => cases h; exact fetching
  · cases h

theorem Aop.inFlight_none {o : Aop} (h : o.inFlight = none) (x : Channel) : (o.channels.get x).fetch = none := by
  unfold Aop.inFlight at h
  split at h
  · cases h
  · cases h
  · next a b => cases x <;> assumption

/-- The channel AOP chooses to serve wants the index it is chosen for (R158). -/
theorem aopChoice_wanted {s : State} {x : Channel} {i : Count} (h : aopChoice s = some (x, i)) : (s.aop.channels.get x).wanted = some i := by
  have wants : ∀ {y : Channel} {j : Count}, aopWanted y s = some j → (s.aop.channels.get y).wanted = some j := fun {y j} wanted => by
    unfold aopWanted at wanted
    split at wanted
    · exact wanted
    · cases wanted
  unfold aopChoice at h
  split at h
  · next first second =>
    split at h
    · cases h; exact wants second
    · cases h; exact wants first
  · next first _ => cases h; exact wants first
  · next second => cases h; exact wants second
  · cases h

/-- AOP's next claim begins a fetch only while none is in flight, of an index that may be held (R158, log 47). -/
theorem aopKick_moves (s : State) : RingsMove s.aop.channels (aopKick s).aop.channels := by
  unfold aopKick
  split
  · exact .refl _
  · next resting =>
    split
    · exact .refl _
    · next x i chosen =>
      obtain ⟨hold, new⟩ := AudioChannel.wanted_spec (aopChoice_wanted chosen)
      refine ⟨fun h => ?_, fun l _ h => h.set_same rfl rfl⟩
      refine ⟨fun y => ?_, ?_⟩
      · simp only [Aop.setFetch, PerChannel.get_set]
        split
        · exact (h.sound x).fetching hold new
        · exact h.sound y
      · cases x with
        | a => exact .inr (Aop.inFlight_none resting .b)
        | b => exact .inl (Aop.inFlight_none resting .a)
  · exact .refl _

/-- The end of a grant: the fetch goes on for the same block with what it has read, or is discarded (R158). -/
theorem RingsMove.setFetch (o : Aop) (x : Channel) {fetch : Option AudioFetch}
    (same : ∀ f, fetch = some f → f.givenUp = false → ∃ g, (o.channels.get x).fetch = some g ∧ g.givenUp = false ∧ g.index = f.index)
    (resting : (o.channels.get x).fetch = none → fetch = none) : RingsMove o.channels (o.setFetch x fetch).channels :=
  .set rfl rfl (fun sound => ⟨sound.ahead, sound.distinct, fun f hf counts => by
    obtain ⟨g, fetching, counts', index⟩ := same f hf counts
    exact index ▸ sound.fetch g fetching counts'⟩) resting

/-! ## The settling of a block (R159) -/

/-- The record of a channel that plays the block at consumer (R159). -/
def AudioChannel.played (c : AudioChannel) (b : AudioBlock) : AudioChannel :=
  { c with
    playing := if b.poison then none else some b.data
    ahead := c.ahead.filter fun e => !(e.index == c.consumer)
    consumer := c.consumer + 1
    underrun := false }

/-- The record of a channel without the block at consumer: a late block is passed, and an empty ring holds consumer (R159). -/
def AudioChannel.missed (c : AudioChannel) (fetch : Option AudioFetch) : AudioChannel :=
  { c with
    playing := none
    consumer := if c.inRing c.consumer then c.consumer + 1 else c.consumer
    fetch := fetch
    underrun := true }

theorem Aop.settlePlaying_played {o : Aop} {x : Channel} {b : AudioBlock}
    (hand : (o.channels.get x).buffered (o.channels.get x).consumer = some b) :
    o.settlePlaying x = ({ o with channels := o.channels.set x ((o.channels.get x).played b) }, none) := by
  unfold Aop.settlePlaying
  dsimp only
  rw [hand]
  rfl

/-- Without the block at consumer the channel is silent, a late block's fetch is given up, and the underrun is reported unless the run of
underruns has been (R159). -/
theorem Aop.settlePlaying_missed {o : Aop} {x : Channel} (hand : (o.channels.get x).buffered (o.channels.get x).consumer = none) :
    ∃ fetch : Option AudioFetch, (o.settlePlaying x).1.channels = o.channels.set x ((o.channels.get x).missed fetch) ∧
      (∀ f, fetch = some f → f.givenUp = false → (o.channels.get x).fetch = some f ∧
        ((o.channels.get x).inRing (o.channels.get x).consumer = true → f.index ≠ (o.channels.get x).consumer)) ∧
      ((o.channels.get x).fetch = none → fetch = none) ∧
      (o.settlePlaying x).2 = (if (o.channels.get x).underrun then none
        else some (.underrun ((o.channels.get x).inRing (o.channels.get x).consumer) x (o.channels.get x).consumer)) := by
  unfold Aop.settlePlaying
  dsimp only
  rw [hand]
  dsimp only
  split
  · next f fetching =>
    split
    · obtain ⟨fetch, channels, up, resting⟩ := o.giveUp_channels x
      refine ⟨fetch, ?_, fun g hg counts => ?_, resting, rfl⟩
      · rw [channels, PerChannel.get_set_same, PerChannel.set_set]
        rfl
      · rw [up g hg] at counts
        cases counts
    · next other =>
      refine ⟨some f, by rw [← fetching]; rfl, fun g hg _ => ?_, fun none => ?_, rfl⟩
      · cases hg
        exact ⟨fetching, fun late same => other ⟨late, same⟩⟩
      · rw [none] at fetching
        cases fetching
  · next resting =>
    refine ⟨none, by rw [← resting]; rfl, fun g hg => ?_, fun _ => rfl, rfl⟩
    cases hg

theorem AudioChannel.Sound.played {c : AudioChannel} (h : c.Sound) {b : AudioBlock} (hand : c.buffered c.consumer = some b) :
    (c.played b).Sound := by
  have index : b.index = c.consumer := by simpa using List.find?_some hand
  refine h.shrink List.filter_sublist (fun _ hf _ => hf) fun i hold who => AudioChannel.mayHold_advance (c := c) rfl rfl hold ?_
  rcases who with ⟨e, he, rfl⟩ | ⟨f, hf, counts, rfl⟩
  · simpa using (List.mem_filter.mp he).2
  · obtain ⟨-, others⟩ := h.fetch f hf counts
    exact fun same => others b (List.mem_of_find?_eq_some hand) (index.trans same.symm)

theorem AudioChannel.Sound.missed {c : AudioChannel} (h : c.Sound) (hand : c.buffered c.consumer = none) {fetch : Option AudioFetch}
    (stands : ∀ f, fetch = some f → f.givenUp = false → c.fetch = some f ∧ (c.inRing c.consumer = true → f.index ≠ c.consumer)) :
    (c.missed fetch).Sound := by
  by_cases late : c.inRing c.consumer = true
  · have passes : (c.missed fetch).consumer = c.consumer + 1 := if_pos late
    refine h.shrink (List.Sublist.refl _) (fun f hf counts => (stands f hf counts).1) fun i hold who =>
      AudioChannel.mayHold_advance (c := c) rfl passes hold ?_
    rcases who with ⟨e, he, rfl⟩ | ⟨f, hf, counts, rfl⟩
    · exact (c.buffered_eq_none _).mp hand e he
    · exact (stands f hf counts).2 late
  · exact h.keep rfl (if_neg late) rfl fun f hf counts => (stands f hf counts).1

/-- A played or a late block brings consumer nearer to producer, and an empty ring holds it (R159). -/
theorem AudioChannel.advance_fits (c : AudioChannel) (ring : c.inRing c.consumer = true) :
    (c.producer - (c.consumer + 1)).toNat ≤ (c.producer - c.consumer).toNat := by
  simp only [AudioChannel.inRing, decide_eq_true_eq] at ring
  bv_omega

theorem Aop.settlePlaying_moves (o : Aop) (x : Channel) : RingsMove o.channels (o.settlePlaying x).1.channels := by
  cases hand : (o.channels.get x).buffered (o.channels.get x).consumer with
  | some b =>
    rw [Aop.settlePlaying_played hand]
    refine ⟨fun h => h.set ((h.sound x).played hand) id, fun l h fits => fits.set (le_trans ?_ (fits x))⟩
    have index : b.index = (o.channels.get x).consumer := by simpa using List.find?_some hand
    obtain ⟨ring, -⟩ := (h.sound x).ahead b (List.mem_of_find?_eq_some hand)
    exact AudioChannel.advance_fits _ (index ▸ ring)
  | none =>
    obtain ⟨fetch, channels, stands, resting, -⟩ := Aop.settlePlaying_missed hand
    rw [channels]
    refine ⟨fun h => h.set ((h.sound x).missed hand stands) resting, fun l _ fits => fits.set ?_⟩
    simp only [AudioChannel.missed]
    split
    · next late => exact (AudioChannel.advance_fits _ late).trans (fits x)
    · exact fits x

theorem Aop.settle_moves (o : Aop) (x : Channel) (state : ChannelState) : RingsMove o.channels (o.settle x state).1.channels := by
  unfold Aop.settle
  split
  · exact o.settlePlaying_moves x
  all_goals exact .set rfl rfl (fun sound => sound.keep rfl rfl rfl fun _ hf _ => hf) id

end Sys2Proof.Machine
end

section
/-! SUPPORT. The frame of the sound. What R147 to R159 say of CHU's queue and of the film audio rings is one view of the state: CHU, the two
channel records of AOP, and the committed layout. Every operation that neither reports a fault nor works on sound leaves it, and each such
operation has one lemma here. -/

namespace Sys2Proof.Machine

/-! ## The view -/

/-- What R147 to R159 speak of: CHU, AOP's channel records, and the layout that gives the rings their capacities. -/
structure SoundView where
  chu : Chu
  rings : PerChannel AudioChannel
  committed : Layout

/-- CHU, the channel records and the committed layout of a state. -/
def soundView (s : State) : SoundView := ⟨s.chu, s.aop.channels, s.lyu.committed⟩

/-- The film audio rings of a view are safe: `AudioSafe`, said of the view. -/
def SoundView.Ringed (v : SoundView) : Prop := RingsSound v.rings ∧ RingsFit v.rings v.committed

theorem soundView_of_fields {s t : State} (chu : t.chu = s.chu) (aop : t.aop = s.aop) (lyu : t.lyu = s.lyu) : soundView t = soundView s := by
  rw [soundView, chu, aop, lyu, soundView]

/-- Work in other blocks than CHU, AOP and LYU leaves the view. -/
theorem ChangesOnly.soundView {blocks : List Block} {s t : State} (h : ChangesOnly blocks s t) (chu : Block.chu ∉ blocks := by decide)
    (aop : Block.aop ∉ blocks := by decide) (lyu : Block.lyu ∉ blocks := by decide) : soundView t = soundView s :=
  soundView_of_fields (h .chu chu) (h .aop aop) (h .lyu lyu)

/-! The two directions in which `simp` meets a record update that leaves the view. -/

@[simp] theorem soundView_mk (fmc : Fmc) (hlp : Hlp) (wdc : Wdc) (lyu : Lyu) (stw : Stw) (rqe : Rqe) (den : Engines)
    (fsq : PerChannel FilmChannel) (mnu : Mnu) (rvc : Rvc) (ccp : Ccp) (gdu : Gdu) (pdu : Pdu) (chu : Chu) (aop : Aop) (flt : Flt)
    (pins : Pins) (freeCount : Nat) (pending : List Instr) :
    soundView ⟨fmc, hlp, wdc, lyu, stw, rqe, den, fsq, mnu, rvc, ccp, gdu, pdu, chu, aop, flt, pins, freeCount, pending⟩ =
      ⟨chu, aop.channels, lyu.committed⟩ := by rw [soundView]

@[simp] theorem soundView_fields (s : State) : (⟨s.chu, s.aop.channels, s.lyu.committed⟩ : SoundView) = soundView s := by rw [soundView]

section Frame

variable (s : State)

@[simp] theorem soundView_chu : (soundView s).chu = s.chu := rfl
@[simp] theorem soundView_rings : (soundView s).rings = s.aop.channels := rfl
@[simp] theorem soundView_committed : (soundView s).committed = s.lyu.committed := rfl

/-! ## Shared operations -/

@[simp] theorem soundView_freeFmc : soundView (freeFmc s) = soundView s := soundView_of_fields rfl rfl rfl
@[simp] theorem soundView_markDirty (k : StatusSection) : soundView (markDirty k s) = soundView s := soundView_of_fields rfl rfl rfl
@[simp] theorem soundView_setCauses (set : BitVec 6) : soundView (setCauses set s) = soundView s :=
  soundView_of_fields (by simp) (by simp) (by simp)
@[simp] theorem soundView_raiseCause (c : Cause) : soundView (raiseCause c s) = soundView s := soundView_setCauses s _
@[simp] theorem soundView_giveResult (code : ResultCode) : soundView (giveResult code s) = soundView s :=
  (giveResult_changesOnly code s).soundView
@[simp] theorem soundView_setMnu (m : Mnu) : soundView (setMnu m s) = soundView s := soundView_of_fields rfl rfl rfl
@[simp] theorem soundView_setMenuPanel (p : Panel) (m : MenuPanel) : soundView (setMenuPanel p m s) = soundView s :=
  soundView_of_fields rfl rfl rfl
@[simp] theorem soundView_setCcp (c : Ccp) : soundView (setCcp c s) = soundView s := soundView_of_fields rfl rfl rfl
@[simp] theorem soundView_setRqe (r : Rqe) : soundView (setRqe r s) = soundView s := soundView_of_fields rfl rfl rfl
@[simp] theorem soundView_setEngine (p : Panel) (d : Den) : soundView (setEngine p d s) = soundView s := soundView_of_fields rfl rfl rfl
@[simp] theorem soundView_setRvc (r : Rvc) : soundView (setRvc r s) = soundView s := (works_setRvc s r).only.soundView
@[simp] theorem soundView_setGdu (g : Gdu) : soundView (setGdu g s) = soundView s := (works_setGdu s g).only.soundView
@[simp] theorem soundView_setChannel (x : Channel) (r : FilmChannel) : soundView (setChannel x r s) = soundView s :=
  (setChannel_changesOnly x r s).soundView
@[simp] theorem soundView_setLyu (l : Lyu) : soundView (setLyu l s) = { soundView s with committed := l.committed } := rfl
@[simp] theorem soundView_setChu (c : Chu) : soundView (setChu c s) = { soundView s with chu := c } := by
  unfold setChu; split <;> rfl
@[simp] theorem soundView_setAop (o : Aop) : soundView (setAop o s) = { soundView s with rings := o.channels } := by
  unfold setAop; split <;> rfl
@[simp] theorem soundView_sendResponse (r : Response) : soundView (sendResponse r s) = soundView s := soundView_of_fields rfl rfl rfl

/-! ## Faults, guide lines and park distance -/

@[simp] theorem soundView_requestFaultAck (classes clear : Nat) : soundView (requestFaultAck classes clear s).1 = soundView s := by
  simp only [requestFaultAck]; split <;> simp
@[simp] theorem soundView_requestAttnAck (causes : Nat) : soundView (requestAttnAck causes s).1 = soundView s := by
  unfold requestAttnAck; split <;> simp
@[simp] theorem soundView_requestResume : soundView (requestResume s).1 = soundView s := by
  unfold requestResume; repeat' split
  all_goals simp
@[simp] theorem soundView_steeringBeat (bytes : List Byte) : soundView (steeringBeat bytes s) = soundView s := by
  simp only [steeringBeat]; split <;> simp
@[simp] theorem soundView_requestGuideBank (b : Nat) : soundView (requestGuideBank b s).1 = soundView s := by
  unfold requestGuideBank; repeat' split
  all_goals simp
@[simp] theorem soundView_guideApply : soundView (guideApply s) = soundView s := (works_guideApply s).only.soundView
@[simp] theorem soundView_parkViewNotice (after : View) : soundView (parkViewNotice after s) = soundView s :=
  (works_parkViewNotice s after).only.soundView

/-! ## Display and film -/

@[simp] theorem soundView_setHold (p : RearPanel) (hold : Option Hold) : soundView (p.setHold hold s) = soundView s := by cases p <;> rfl
@[simp] theorem soundView_exchangePin (move : Bool) : soundView (exchangePin move s) = soundView s := by
  simp only [exchangePin]; split <;> simp
@[simp] theorem soundView_pinExchange (move : Bool) : soundView (pinExchange move s) = soundView s := soundView_exchangePin s move
@[simp] theorem soundView_centreRow : soundView (centreRow s).1 = soundView s := by unfold centreRow; split <;> simp
@[simp] theorem soundView_changeChannel (x : Channel) (f : FilmChannel → FilmChannel) : soundView (changeChannel x f s) = soundView s :=
  soundView_setChannel s _ _
@[simp] theorem soundView_requestFilmPause (x : Channel) : soundView (requestFilmPause x s).1 = soundView s := soundView_changeChannel s _ _
@[simp] theorem soundView_requestFilmSeek (h m sec : Nat) (x : Channel) : soundView (requestFilmSeek h m sec x s).1 = soundView s := by
  unfold requestFilmSeek; split <;> simp

/-! ## Camera capture and the reverse view -/

@[simp] theorem soundView_goodFrameNotice (frameNo : Count) : soundView (goodFrameNotice frameNo s) = soundView s := soundView_setRvc s _
@[simp] theorem soundView_closeIfWritten : soundView (closeIfWritten s) = soundView s := by
  unfold closeIfWritten; repeat' split
  all_goals simp
@[simp] theorem soundView_startFrame (frameNo : Count) : soundView (startFrame frameNo s) = soundView s := by
  unfold startFrame; split <;> simp
@[simp] theorem soundView_lineWritten : soundView (lineWritten s) = soundView s := by
  simp only [lineWritten]; repeat' split
  all_goals simp
@[simp] theorem soundView_startCapture : soundView (startCapture s) = soundView s := (works_startCapture s).only.soundView
@[simp] theorem soundView_stopCapture : soundView (stopCapture s) = soundView s := (works_stopCapture s).only.soundView
@[simp] theorem soundView_beginActing : soundView (beginActing s) = soundView s := soundView_setRvc s _

/-! ## Menus -/

@[simp] theorem soundView_restartIdle (p : Panel) : soundView (restartIdle p s) = soundView s := soundView_of_fields rfl rfl rfl
@[simp] theorem soundView_changeStack (p : Panel) (stack : List Nat) (top : TopCache) :
    soundView (changeStack p stack top s) = soundView s := soundView_of_fields rfl rfl rfl
@[simp] theorem soundView_menuKick : soundView (menuKick s) = soundView s := (works_menuKick s).only.soundView
@[simp] theorem soundView_dropMenuFetch (purpose : MenuPurpose) : soundView (dropMenuFetch purpose s) = soundView s :=
  (works_dropMenuFetch s purpose).only.soundView
@[simp] theorem soundView_touchPanel (p : Panel) : soundView (touchPanel p s) = soundView s := (works_touchPanel s p).only.soundView
@[simp] theorem soundView_takeInHand (r : MenuRequest) : soundView (takeInHand r s) = soundView s := (works_takeInHand s r).only.soundView
@[simp] theorem soundView_requestMenuPush (panel page : Nat) : soundView (requestMenuPush panel page s).1 = soundView s := by
  simp only [requestMenuPush]; repeat' split
  all_goals simp
@[simp] theorem soundView_requestMenuReplace (panel page : Nat) : soundView (requestMenuReplace panel page s).1 = soundView s := by
  simp only [requestMenuReplace]; repeat' split
  all_goals simp
@[simp] theorem soundView_requestMenuPop (panel : Nat) : soundView (requestMenuPop panel s).1 = soundView s := by
  simp only [requestMenuPop]; repeat' split
  all_goals simp
@[simp] theorem soundView_requestMenuClear (panel : Nat) : soundView (requestMenuClear panel s).1 = soundView s := by
  simp only [requestMenuClear]; repeat' split
  all_goals simp
@[simp] theorem soundView_requestMenuTouch (panel : Nat) : soundView (requestMenuTouch panel s).1 = soundView s := by
  unfold requestMenuTouch; split <;> simp
@[simp] theorem soundView_finishMenuFetch (purpose : MenuPurpose) (verdict : Option Descriptor) :
    soundView (finishMenuFetch purpose verdict s) = soundView s := (works_finishMenuFetch purpose verdict s).only.soundView

@[simp] theorem soundView_menuApply : soundView (menuApply s) = soundView s := (works_menuApply s).only.soundView

/-! ## The request ring and layouts -/

@[simp] theorem soundView_enterPhase (phase : EntryPhase) : soundView (enterPhase phase s) = soundView s := soundView_of_fields rfl rfl rfl
@[simp] theorem soundView_resultWritten : soundView (resultWritten s) = soundView s := by simp only [resultWritten]; split <;> simp
@[simp] theorem Lyu.kick_committed (l : Lyu) : l.kick.committed = l.committed := by unfold Lyu.kick; split <;> rfl
@[simp] theorem soundView_requestLayoutCommit : soundView (requestLayoutCommit s).1 = soundView s := by
  unfold requestLayoutCommit; split <;> simp

end Frame

end Sys2Proof.Machine
end

section
/-! SUPPORT. What the part's work does to the sound: under a report, a chime event, a request, a block boundary, a layout apply and a warm
reset the chime queue stays in order and the film audio rings stay safe (R147 to R159, R163). -/

namespace Sys2Proof.Machine

/-! ## Moves of the view -/

/-- A move of the view that keeps the chime queue in order and the film audio rings safe. -/
structure SoundView.Moves (v w : SoundView) : Prop where
  chimes : v.chu.Ordered → w.chu.Ordered
  audio : v.Ringed → w.Ringed

namespace SoundView

variable {u v w : SoundView}

@[simp] theorem Moves.refl (v : SoundView) : v.Moves v := ⟨id, id⟩

theorem Moves.trans (h : u.Moves v) (k : v.Moves w) : u.Moves w := ⟨fun c => k.chimes (h.chimes c), fun a => k.audio (h.audio a)⟩

theorem Moves.withChu (h : v.Moves w) {c : Chu} (ordered : w.chu.Ordered → c.Ordered) : v.Moves { w with chu := c } :=
  ⟨fun safe => ordered (h.chimes safe), h.audio⟩

theorem Moves.withRings (h : v.Moves w) {r : PerChannel AudioChannel} (moves : RingsMove w.rings r) : v.Moves { w with rings := r } :=
  ⟨h.chimes, fun safe => by
    obtain ⟨sound, fits⟩ := h.audio safe
    exact ⟨moves.sound sound, moves.fits _ sound fits⟩⟩

end SoundView

/-! ## A block boundary, step by step (R146, R153, R159 to R161) -/

/-- CHU when its voices have settled for the block that begins. -/
def settledChu (s : State) : Chu :=
  { s.chu.settleVoice.1 with tone := s.chu.settleVoice.1.tone.settle s.lyu.committed.toneHalfPeriod }

/-- AOP with the ducks of the block that begins (R160). -/
def ducked (s : State) : Aop :=
  { s.aop with duckHa := (settledChu s).voice.duckDemand.ha, duckHb := (settledChu s).voice.duckDemand.hb }

/-- AOP when channel A has settled, and the detail of the report that is due (R159). -/
def settledA (s : State) : Aop × Option Detail := (ducked s).settle .a s.fsq.a.state

/-- AOP when both channels have settled, and the detail of channel B's report (R159). -/
def settledB (s : State) : Aop × Option Detail := (settledA s).1.settle .b s.fsq.b.state

/-- AOP with the block mixed (R161). -/
def mixedAop (s : State) : Aop :=
  { (settledB s).1 with
    tdm := (List.range 256).map (mixFrame s.lyu.committed (settledB s).1 (settledChu s) s.chu.settleVoice.1.tone) }

/-- The part when voices and channels have settled and the next fetch is claimed, before the reports (log 13). -/
def blockSettled (s : State) : State := aopKick (setAop (mixedAop s) (settleChu (settledChu s) s))

theorem settleBlock_eq (s : State) : settleBlock s =
    reportIfDue .audioUnderrun .audio (settledB s).2 (reportIfDue .audioUnderrun .audio (settledA s).2
      (reportIfDue .chimeUnderrun .chime s.chu.settleVoice.2 (blockSettled s))) := rfl

section Operations

variable {v : SoundView} {s : State}

/-! ## Chimes (R149, R150, R155) -/

theorem sounds_setChu (h : v.Moves (soundView s)) {c : Chu} (ordered : s.chu.Ordered → c.Ordered) : v.Moves (soundView (setChu c s)) := by
  rw [soundView_setChu]
  exact h.withChu ordered

/-- The voice take and the next claim follow a change of CHU (R147, R151). -/
theorem sounds_settleChu (h : v.Moves (soundView s)) {c : Chu} (ordered : s.chu.Ordered → c.Ordered) :
    v.Moves (soundView (settleChu c s)) := sounds_setChu h fun safe => (ordered safe).settled _

@[simp] theorem sounds_chimeEvent (h : v.Moves (soundView s)) (e : ChimeEvent) : v.Moves (soundView (chimeEvent e s)) := by
  unfold chimeEvent
  split
  · exact h
  · split
    · exact h
    · exact sounds_settleChu h fun safe => safe.insertCounted (.fresh _ _)

@[simp] theorem sounds_cadenceNotice (h : v.Moves (soundView s)) (n : CadenceNotice) : v.Moves (soundView (cadenceNotice n s)) := by
  unfold cadenceNotice
  split
  · exact h
  · exact sounds_setChu h fun safe => safe.withTone _

@[simp] theorem sounds_chuViewNotice (h : v.Moves (soundView s)) (before after : View) :
    v.Moves (soundView (chuViewNotice before after s)) := by
  unfold chuViewNotice
  split
  · exact sounds_setChu h fun safe => safe.withTone _
  · exact h

@[simp] theorem sounds_requestChimePlay (h : v.Moves (soundView s)) (clip priority plays route requeue : Nat) :
    v.Moves (soundView (requestChimePlay clip priority plays route requeue s).1) := by
  have inserted := fun safe : s.chu.Ordered =>
    safe.insert (.fresh _ ⟨clip, priority, plays, routeOfByte route, requeue.testBit 0, .requested, 0⟩)
  unfold requestChimePlay
  split
  · exact h
  · split
    all_goals
      next outcome =>
      refine sounds_settleChu h fun safe => ?_
      have ordered := inserted safe
      rw [outcome] at ordered
      exact ordered

@[simp] theorem sounds_requestChimeStop (h : v.Moves (soundView s)) (clip : Option Nat) :
    v.Moves (soundView (requestChimeStop clip s).1) := by
  unfold requestChimeStop
  repeat' split
  · rw [soundView_markDirty]
    exact sounds_setChu h fun safe => safe.stopAll
  · exact h
  · rw [soundView_markDirty]
    exact sounds_setChu h fun safe => safe.stopClip _

@[simp] theorem sounds_chimeApply (h : v.Moves (soundView s)) : v.Moves (soundView (chimeApply s)) :=
  sounds_setChu h fun safe => safe.stopAll.withTone _

/-! ## Film audio (R82, R157 to R159) -/

theorem sounds_setAop (h : v.Moves (soundView s)) {o : Aop} (moves : RingsMove s.aop.channels o.channels) :
    v.Moves (soundView (setAop o s)) := by
  rw [soundView_setAop]
  exact h.withRings moves

@[simp] theorem sounds_aopKick (h : v.Moves (soundView s)) : v.Moves (soundView (aopKick s)) := by
  have only := aopKick_changesOnly s
  have kicked : soundView (aopKick s) = { soundView s with rings := (aopKick s).aop.channels } := by
    rw [soundView, show (aopKick s).chu = s.chu from only .chu (by decide), show (aopKick s).lyu = s.lyu from only .lyu (by decide)]
    rfl
  rw [kicked]
  exact h.withRings (aopKick_moves s)

@[simp] theorem sounds_audioStop (h : v.Moves (soundView s)) (x : Channel) : v.Moves (soundView (audioStop x s)) := by
  refine sounds_aopKick ?_
  rw [soundView_markDirty]
  exact sounds_setAop h (s.aop.stopChannel_moves x)

/-! ## Reports (R168) -/

theorem sounds_takeAction (h : v.Moves (soundView s)) (a : FaultAction) : v.Moves (soundView (takeAction a s)) := by
  cases a with
  | quiet => exact h
  | signal => simpa [takeAction] using h
  | safe =>
    simp only [takeAction]
    split
    · exact h
    · exact sounds_chimeEvent (by simpa [degradedNotice] using h) _

@[simp] theorem sounds_report (h : v.Moves (soundView s)) (r : Report) : v.Moves (soundView (report r s)) := by
  simp only [report]
  split
  · exact h
  · split
    · simpa using h
    · exact sounds_takeAction (by simpa using h) _

@[simp] theorem sounds_reportPlain (h : v.Moves (soundView s)) (kind : FaultKind) (source : FaultSource) (detail : Detail) :
    v.Moves (soundView (reportPlain kind source detail s)) := sounds_report h _

@[simp] theorem sounds_reportHost (h : v.Moves (soundView s)) (kind : FaultKind) (source : FaultSource) (detail : Detail) (p : HostRequest) :
    v.Moves (soundView (reportHost kind source detail p s)) := sounds_report h _

theorem sounds_reportMemory {each : FaultKind → Nat → Nat → State → State}
    (reports : ∀ k l n u, v.Moves (soundView u) → v.Moves (soundView (each k l n u))) (h : v.Moves (soundView s))
    (corrected poisoned : List Nat) : v.Moves (soundView (reportMemory corrected poisoned each s)) := by
  simp only [reportMemory]
  split <;> split <;> simp [reports, h]

@[simp] theorem sounds_reportMemoryFor (h : v.Moves (soundView s)) (port : Port) (m : Moved) :
    v.Moves (soundView (reportMemoryFor port m s)) := sounds_reportMemory (fun _ _ _ _ k => sounds_report k _) h _ _

@[simp] theorem sounds_reportMemoryHost (h : v.Moves (soundView s)) (p : HostRequest) (target : Nat) (m : Moved) :
    v.Moves (soundView (reportMemoryHost p target m s)) := sounds_reportMemory (fun _ _ _ _ k => sounds_report k _) h _ _

@[simp] theorem sounds_reportIfDue (h : v.Moves (soundView s)) (kind : FaultKind) (source : FaultSource) (detail : Option Detail) :
    v.Moves (soundView (reportIfDue kind source detail s)) := by
  unfold reportIfDue
  split <;> simp [h]

/-! ## The audio producer and the block boundary (R157, R159) -/

@[simp] theorem sounds_audioProducerBeat (h : v.Moves (soundView s)) (x : Channel) (bytes : List Byte) :
    v.Moves (soundView (audioProducerBeat x bytes s)) := by
  simp only [audioProducerBeat]
  split
  · exact h
  · split
    · next room =>
      refine sounds_aopKick ?_
      rw [soundView_setAop]
      refine ⟨h.chimes, fun safe => ?_⟩
      obtain ⟨sound, fits⟩ := h.audio safe
      exact ⟨Aop.takeProducer_sound sound x _, Aop.takeProducer_fits fits room⟩
    · exact sounds_reportPlain h _ _ _

/-- CHU settles, then AOP's channels one after the other (R153, R159). -/
@[simp] theorem sounds_blockBoundary (h : v.Moves (soundView s)) : v.Moves (soundView (blockBoundary s)) := by
  unfold blockBoundary
  split
  · simpa using h
  · rw [settleBlock_eq]
    refine sounds_reportIfDue (sounds_reportIfDue (sounds_reportIfDue (sounds_aopKick (sounds_setAop ?_ ?_)) _ _ _) _ _ _) _ _ _
    · exact sounds_settleChu h fun safe => safe.settleVoice.withTone _
    · rw [settleChu_aop]
      exact (Aop.settle_moves (ducked s) .a s.fsq.a.state).trans (Aop.settle_moves (settledA s).1 .b s.fsq.b.state)

/-! ## Guide lines and park distance -/

@[simp] theorem sounds_staleCheck (h : v.Moves (soundView s)) : v.Moves (soundView (staleCheck s)) := by
  unfold staleCheck
  split <;> simp [h]

@[simp] theorem sounds_guideViewNotice (h : v.Moves (soundView s)) (before after : View) :
    v.Moves (soundView (guideViewNotice before after s)) := by
  unfold guideViewNotice
  repeat' split
  all_goals simp [h]

@[simp] theorem sounds_guideSwitch (h : v.Moves (soundView s)) : v.Moves (soundView (guideSwitch s)) := by
  simp only [guideSwitch]
  split <;> simp [h]

@[simp] theorem sounds_reportList (h : v.Moves (soundView s)) (f : GuideFetch) (verdict : GuideVerdict) :
    v.Moves (soundView (reportList f verdict s)) := by
  unfold reportList
  split <;> simp [h]

@[simp] theorem sounds_handCadence (h : v.Moves (soundView s)) (k : ParkSettings) : v.Moves (soundView (handCadence k s)) := by
  unfold handCadence
  split <;> simp [h]

@[simp] theorem sounds_enterSensorFault (h : v.Moves (soundView s)) (k : ParkSettings) (detail : Detail) :
    v.Moves (soundView (enterSensorFault k detail s)) := by
  unfold enterSensorFault
  split
  · exact h
  · rw [soundView_markDirty]
    exact sounds_chimeEvent (sounds_reportPlain (sounds_handCadence (by simpa using h) _) _ _ _) _

@[simp] theorem sounds_distanceBeat (h : v.Moves (soundView s)) (bytes : List Byte) : v.Moves (soundView (distanceBeat bytes s)) := by
  simp only [distanceBeat, evaluatePark]
  repeat' split
  all_goals simp [h]

/-! ## Display and film -/

@[simp] theorem sounds_handPresented (h : v.Moves (soundView s)) (x : Channel) (p : Presented) :
    v.Moves (soundView (handPresented x p s)) := by
  unfold handPresented
  split <;> simp [h]

@[simp] theorem sounds_rearRefresh (h : v.Moves (soundView s)) (p : RearPanel) : v.Moves (soundView (rearRefresh p s)) := by
  simp only [rearRefresh, filmRefresh]
  split <;> simp [h]

@[simp] theorem sounds_centreRefresh (h : v.Moves (soundView s)) : v.Moves (soundView (centreRefresh s)) := by
  simp only [centreRefresh]
  split <;> simp [h]

@[simp] theorem sounds_uiBaseBeat (h : v.Moves (soundView s)) (bytes : List Byte) : v.Moves (soundView (uiBaseBeat bytes s)) := by
  simp only [uiBaseBeat]
  repeat' split
  all_goals simp [h]

theorem sounds_requestFilmPlay (h : v.Moves (soundView s)) (x : Channel) : v.Moves (soundView (requestFilmPlay x s).1) := by
  unfold requestFilmPlay
  repeat' split
  all_goals simp [h]

theorem sounds_requestFilmStop (h : v.Moves (soundView s)) (x : Channel) : v.Moves (soundView (requestFilmStop x s).1) := by
  simp [requestFilmStop, h]

theorem sounds_filmRequest (h : v.Moves (soundView s)) (channel : Nat) {act : Channel → State → State × ResultCode}
    (acts : ∀ x, v.Moves (soundView (act x s).1)) : v.Moves (soundView (filmRequest channel act s).1) := by
  unfold filmRequest
  repeat' split
  all_goals first | exact h | exact acts _

/-! ## Camera capture and menus -/

@[simp] theorem sounds_enterLost (h : v.Moves (soundView s)) (deadline : Bool) : v.Moves (soundView (enterLost deadline s)) := by
  simp [enterLost, h]

@[simp] theorem sounds_damageFrame (h : v.Moves (soundView s)) (detail : Detail) (reception : Reception) :
    v.Moves (soundView (damageFrame detail reception s)) := by
  simp only [damageFrame, damagedFrameNotice]
  repeat' split
  all_goals simp [h]

@[simp] theorem sounds_takeFrameStart (h : v.Moves (soundView s)) (frameNo : Count) : v.Moves (soundView (takeFrameStart frameNo s)) := by
  simp only [takeFrameStart]
  split <;> simp [h]

@[simp] theorem sounds_takeLine (h : v.Moves (soundView s)) (lineNo : Count) (data : List Byte) (check : BitVec 32) :
    v.Moves (soundView (takeLine lineNo data check s)) := by
  simp only [takeLine]
  repeat' split
  all_goals simp [h]

@[simp] theorem sounds_takeFrameEnd (h : v.Moves (soundView s)) : v.Moves (soundView (takeFrameEnd s)) := by
  simp only [takeFrameEnd]
  repeat' split
  all_goals simp [h]

@[simp] theorem sounds_judgeDescriptor (h : v.Moves (soundView s)) (beats : List ReadBeat) (panel : Panel) (page : Nat) :
    v.Moves (soundView (judgeDescriptor beats panel page s).2) := by
  unfold judgeDescriptor
  split <;> simp [h]

/-! ## A layout apply (R29) -/

/-- The rings stop one after the other, so they are safe under whatever layout is committed (R159). -/
theorem ringed_audioApply {s : State} (h : RingsSound s.aop.channels) : (soundView (audioApply s)).Ringed := by
  have stopped : ∀ (x : Channel) (u : State), RingsMove u.aop.channels (audioStop x u).aop.channels := fun x u => by
    refine RingsMove.trans ?_ (aopKick_moves _)
    rw [markDirty_aop, setAop_aop]
    exact u.aop.stopChannel_moves x
  refine ⟨((stopped .a s).trans (stopped .b _)).sound h, fun x => ?_⟩
  obtain ⟨producer, consumer⟩ := audioApply_rings s x
  rw [soundView_rings, producer, consumer]
  simp

/-- CHU stops all (R29), and the rings stop before their capacities are those of the new layout (R159). -/
@[simp] theorem sounds_applyLayout (h : v.Moves (soundView s)) (l : Layout) : v.Moves (soundView (applyLayout l s)) := by
  have chu : (soundView (applyLayout l s)).chu = { s.chu.stopAll with tone := s.chu.tone.halt } := by
    have audio : ∀ u : State, (audioApply u).chu = u.chu := fun u => (works_audioApply u).only .chu (by decide)
    have applied : ∀ u : State, (guideApply (menuApply u)).chu = u.chu := fun u => congrArg SoundView.chu (by simp : soundView _ = soundView u)
    simp [applyLayout, audio, applied]
  have rings : ∀ u : State, (chimeApply (guideApply (menuApply u))).aop.channels = u.aop.channels := fun u => by
    have chimes : ∀ u : State, (chimeApply u).aop = u.aop := fun u => (works_chimeApply u).only .aop (by decide)
    rw [chimes]
    exact congrArg SoundView.rings (by simp : soundView _ = soundView u)
  refine ⟨fun safe => ?_, fun safe => ?_⟩
  · rw [chu]
    exact (h.chimes safe).stopAll.withTone _
  · obtain ⟨sound, -⟩ := h.audio safe
    simp only [applyLayout, soundView_markDirty]
    exact ringed_audioApply (by rw [rings]; exact sound)

/-! ## The reverse view -/

@[simp] theorem sounds_handView (h : v.Moves (soundView s)) (before : View) : v.Moves (soundView (handView before s)) := by
  simp [handView, h]

@[simp] theorem sounds_normalEntryNotice (h : v.Moves (soundView s)) : v.Moves (soundView (normalEntryNotice s)) := by
  unfold normalEntryNotice
  split <;> simp [h]

@[simp] theorem sounds_enterNormal (h : v.Moves (soundView s)) : v.Moves (soundView (enterNormal s)) := by simp [enterNormal, h]

@[simp] theorem sounds_engageChime (h : v.Moves (soundView s)) (cause : EngageCause) : v.Moves (soundView (engageChime cause s)) := by
  unfold engageChime
  split <;> simp [h]

theorem sounds_evaluateDemand (h : v.Moves (soundView s)) (cause : EngageCause) : v.Moves (soundView (evaluateDemand cause s)) := by
  unfold evaluateDemand
  split
  · simp [viewEngage, h]
  · simp only [viewHold]
    split <;> simp [h]
  · simp [viewReengage, h]
  all_goals exact h

theorem sounds_requestViewCamera (h : v.Moves (soundView s)) (argument : Nat) : v.Moves (soundView (requestViewCamera argument s).1) := by
  unfold requestViewCamera
  split
  · simp only [viewCameraOff]
    split <;> simp [h]
  · exact sounds_evaluateDemand (by simpa using h) .host
  · exact h

theorem sounds_qualifyRev (h : v.Moves (soundView s)) : v.Moves (soundView (qualifyRev s)) := by
  unfold qualifyRev
  repeat' split
  · exact h
  · exact sounds_evaluateDemand (by simpa using h) .rev
  · exact h

theorem sounds_endHold (h : v.Moves (soundView s)) : v.Moves (soundView (endHold s)) := by
  unfold endHold
  repeat' split
  all_goals simp [h]

/-! ## Layouts (R27 to R29) -/

@[simp] theorem sounds_rejectCommit (h : v.Moves (soundView s)) (f : CheckFailure) (code : ResultCode) :
    v.Moves (soundView (rejectCommit f code s)) := by
  have reported : soundView (rejectCommit f code s) = soundView (reportPlain .layoutInvalid .layout (.layoutCheck f.check f.row) s) :=
    soundView_giveResult _ code
  rw [reported]
  exact sounds_reportPlain h _ _ _

@[simp] theorem sounds_acceptCommit (h : v.Moves (soundView s)) (l : Layout) : v.Moves (soundView (acceptCommit l s)) := by
  simp only [acceptCommit]
  split <;> simp [h]

/-! ## What the host's WRITE hands on (R9, R12) -/

theorem sounds_takeTrailer (h : v.Moves (soundView s)) (x : Channel) (bytes : List Byte) : v.Moves (soundView (takeTrailer x bytes s)) := by
  simp only [takeTrailer]
  split <;> simp [h]

theorem sounds_producerBeat (h : v.Moves (soundView s)) (bytes : List Byte) : v.Moves (soundView (producerBeat bytes s)) := by
  simp only [producerBeat]
  repeat' split
  all_goals simp [h]

theorem sounds_takeWatched (h : v.Moves (soundView s)) (w : Nat × List Byte) : v.Moves (soundView (takeWatched s w)) := by
  simp only [takeWatched]
  repeat' split
  all_goals simp [h, sounds_producerBeat]

theorem sounds_foldl_takeWatched (h : v.Moves (soundView s)) (ws : List (Nat × List Byte)) :
    v.Moves (soundView (ws.foldl takeWatched s)) := by
  induction ws generalizing s with
  | nil => exact h
  | cons w ws ih => exact ih (sounds_takeWatched h w)

theorem sounds_handOn (h : v.Moves (soundView s)) (window : Option Channel) (p : HostRequest) : v.Moves (soundView (handOn window p s)) := by
  simp only [handOn, handTrailer]
  repeat' split
  · exact h
  · exact sounds_takeTrailer h _ _
  · exact h
  · exact sounds_foldl_takeWatched h _

/-! ## The warm reset (R163) -/

theorem Chu.ordered_reset {c : Chu} (queue : c.queue = []) (voice : c.voice.state = .idle) (arrivals : c.arrivals = 0) : c.Ordered := by
  have stamps : c.stamps = [] := by rw [Chu.stamps_eq, queue, Voice.stamps, if_pos voice]; rfl
  constructor <;> simp [queue, stamps, arrivals]

theorem ringed_reset {w : SoundView} (rings : w.rings = ⟨AudioChannel.reset, AudioChannel.reset⟩) : w.Ringed := by
  have safe : ∀ x : Channel, w.rings.get x = AudioChannel.reset := fun x => by rw [rings]; cases x <;> rfl
  refine ⟨⟨fun x => ?_, .inl (by rw [rings]; rfl)⟩, fun x => ?_⟩
  · rw [safe]
    exact ((AudioChannel.safe_iff _ 0).mp (AudioChannel.safe_reset 0)).2
  · rw [safe]
    exact Nat.zero_le _

@[simp] theorem sounds_applyReset (v : SoundView) (s : State) : v.Moves (soundView (applyReset s)) := by
  rw [(applyReset_only s).soundView]
  exact ⟨fun _ => Chu.ordered_reset rfl rfl rfl, fun _ => ringed_reset rfl⟩

@[simp] theorem sounds_releaseReset (h : v.Moves (soundView s)) : v.Moves (soundView (releaseReset s)) := by
  rw [(releaseReset_only s).soundView]
  exact ⟨fun safe => (h.chimes safe).keep rfl (.refl _) rfl, h.audio⟩

@[simp] theorem sounds_resetNow (v : SoundView) (s : State) : v.Moves (soundView (resetNow s)) := by
  unfold resetNow
  split <;> simp

theorem sounds_checkDrain (h : v.Moves (soundView s)) : v.Moves (soundView (checkDrain s)) := by
  unfold checkDrain
  split
  · simp
  · exact h

theorem sounds_startDrain (h : v.Moves (soundView s)) : v.Moves (soundView (startDrain s)) :=
  ⟨fun safe => (h.chimes safe).keep rfl (.refl _) rfl, h.audio⟩

theorem sounds_takeAssertion (h : v.Moves (soundView s)) : v.Moves (soundView (takeAssertion s)) := by
  unfold takeAssertion
  split
  · simp
  · exact sounds_checkDrain (sounds_startDrain h)

end Operations

end Sys2Proof.Machine
end

section
/-! What every command can do to the sound, and the statements of the chime queue and of the film audio rings. -/

namespace Sys2Proof.Machine

/-! ## Commands -/

/-- Every next state of an outcome is a move of the sound. -/
def MovesSound (v : SoundView) (o : Host.Outcome State Fault Refusal) : Prop := ∀ t : State, o = .next t → v.Moves (soundView t)

@[simp] theorem movesSound_next (v : SoundView) (t : State) : MovesSound v (.next t) ↔ v.Moves (soundView t) :=
  ⟨fun h => h t rfl, fun h _ next => by cases next; exact h⟩

@[simp] theorem movesSound_fault (v : SoundView) (f : Fault) : MovesSound v (.fault f) := fun _ h => by cases h

@[simp] theorem movesSound_refused (v : SoundView) (r : Refusal) : MovesSound v (.refused r) := fun _ h => by cases h

section Commands

variable {v : SoundView} {s : State}

/-! ### Grants -/

theorem sounds_beginGrant (h : v.Moves (soundView s)) (port : Port) (kind : GrantKind) (m : Moved) :
    v.Moves (soundView (beginGrant port kind m s)) := sounds_reportMemoryFor (by simpa using h) port m

theorem movesSound_grantRead {port : Port} {kind : GrantKind} {r : Req} {granted : State → State}
    (h : v.Moves (soundView (granted s))) : MovesSound v (grantRead port kind r granted s) := by
  unfold grantRead
  split
  · exact (movesSound_next _ _).mpr (sounds_beginGrant h _ _ _)
  · simp

theorem movesSound_withClaim (h : v.Moves (soundView s)) {c : Claim} {f : Req → Host.Outcome State Fault Refusal}
    (grants : ∀ r, MovesSound v (f r)) : MovesSound v (withClaim c s f) := by
  unfold withClaim
  split
  · exact grants _
  · exact (movesSound_next _ _).mpr h
  · exact (movesSound_next _ _).mpr h

theorem movesSound_grantHost (h : v.Moves (soundView s)) (p : HostRequest) : MovesSound v (grantHost p s) := by
  unfold grantHost
  repeat' split
  · simp [answerTake, h]
  · exact (movesSound_next _ _).mpr (sounds_handOn (sounds_reportMemoryHost (by simpa using h) _ _ _) _ _)
  · simp

theorem movesSound_grantStatus (h : v.Moves (soundView s)) : MovesSound v (grantStatus s) := by
  unfold grantStatus
  split
  · exact (movesSound_next _ _).mpr (sounds_beginGrant (by simpa using h) _ _ _)
  · exact (movesSound_next _ _).mpr (sounds_beginGrant (by simpa using h) _ _ _)
  all_goals exact (movesSound_next _ _).mpr h

theorem movesSound_grantCapture (h : v.Moves (soundView s)) (r : Req) : MovesSound v (grantCapture r s) := by
  simp only [grantCapture]
  repeat' split
  · exact (movesSound_next _ _).mpr (sounds_beginGrant (by simpa using h) _ _ _)
  · simp
  · exact (movesSound_next _ _).mpr (sounds_beginGrant (by simpa using h) _ _ _)
  · simp

theorem movesSound_grantTo (h : v.Moves (soundView s)) (port : Port) : MovesSound v (grantTo port s) := by
  unfold grantTo
  cases port with
  | host =>
    dsimp only
    split
    · exact movesSound_grantHost h _
    · exact (movesSound_next _ _).mpr h
  | stw => exact movesSound_grantStatus h
  | ccp => exact movesSound_withClaim h (movesSound_grantCapture h)
  | chu =>
    refine movesSound_withClaim h fun _ => movesSound_grantRead ?_
    exact h.withChu fun safe => safe.keep rfl (.refl _) rfl
  | rqe | lyu | mnu | gdu | denRl | denRr | denC | aop =>
    exact movesSound_withClaim h fun _ => movesSound_grantRead (by simpa using h)

theorem movesSound_execArbiterGrant (s : State) : MovesSound (soundView s) (execArbiterGrant s) := by
  unfold execArbiterGrant
  split
  · exact movesSound_grantTo (by simp) _
  all_goals simp

/-! ### The request ring -/

theorem sounds_dispatchKind (h : v.Moves (soundView s)) {kind : Nat} {e : List Byte} {r : State × Option ResultCode}
    (dispatched : dispatchKind kind e s = some r) : v.Moves (soundView r.1) := by
  unfold dispatchKind at dispatched
  dsimp only at dispatched
  split at dispatched
  case h_2 => cases dispatched; exact sounds_filmRequest h _ fun x => sounds_requestFilmPlay h x
  case h_3 => cases dispatched; exact sounds_filmRequest h _ fun x => by simpa using h
  case h_4 => cases dispatched; exact sounds_filmRequest h _ fun x => sounds_requestFilmStop h x
  case h_5 => cases dispatched; exact sounds_filmRequest h _ fun x => by simpa using h
  case h_11 => cases dispatched; exact sounds_requestViewCamera h _
  case h_18 => cases dispatched
  all_goals
    cases dispatched
    simp [answered, h]

theorem sounds_judgeEntry (h : v.Moves (soundView s)) (index : Count) (e : List Byte) : v.Moves (soundView (judgeEntry index e s)) := by
  simp only [judgeEntry]
  repeat' split
  · simp [h]
  · simp [h]
  · next dispatched =>
    have acts := sounds_dispatchKind (v := v) (by simpa using h) dispatched
    unfold finishDispatch
    split
    · simpa using acts
    · exact acts
  · exact h

theorem sounds_entryFetched (h : v.Moves (soundView s)) (beats : List ReadBeat) : v.Moves (soundView (entryFetched beats s)) := by
  simp only [entryFetched]
  repeat' split
  · simp [h]
  · exact sounds_judgeEntry (by simpa using h) _ _
  · simp [h]

/-! ### The resets -/

theorem movesSound_execPowerOnReset (s : State) : MovesSound v (execPowerOnReset s) := by
  rw [execPowerOnReset, movesSound_next]
  exact ⟨fun _ => Chu.ordered_reset rfl rfl rfl, fun _ => ringed_reset rfl⟩

theorem movesSound_execInitEnd (s : State) : MovesSound (soundView s) (execInitEnd s) := by
  simp only [execInitEnd]
  repeat' split
  · simp
  · simp [enterRunning]
  · exact (movesSound_next _ _).mpr (sounds_takeAssertion (by simp [enterRunning]))

theorem movesSound_execWrstAssert (s : State) : MovesSound (soundView s) (execWrstAssert s) := by
  simp only [execWrstAssert]
  repeat' split
  · simp
  · exact (movesSound_next _ _).mpr (sounds_takeAssertion (by simp))
  all_goals simp

/-! ### The sound's own commands -/

theorem movesSound_execClipDirectoryFetchComplete (s : State) : MovesSound (soundView s) (execClipDirectoryFetchComplete s) := by
  have ended : ∀ c : Chu, (s.chu.Ordered → c.Ordered) → (soundView s).Moves (soundView (settleChu c (freeFmc s))) := fun c ordered =>
    sounds_settleChu (by simp) ordered
  simp only [execClipDirectoryFetchComplete]
  repeat' split
  · exact (movesSound_next _ _).mpr (ended _ fun safe => safe.withFetch _ _)
  · exact (movesSound_next _ _).mpr (ended _ fun safe => safe.withFetch _ _)
  · exact (movesSound_next _ _).mpr (sounds_reportPlain (ended _ fun safe => (safe.withFetch _ _).silenceVoice) _ _ _)
  · exact (movesSound_next _ _).mpr (ended _ fun safe => safe.keep rfl (.of_fields rfl rfl rfl) rfl)
  · simp

theorem movesSound_execClipBlockFetchComplete (s : State) : MovesSound (soundView s) (execClipBlockFetchComplete s) := by
  have ended : ∀ c : Chu, (s.chu.Ordered → c.Ordered) → (soundView s).Moves (soundView (settleChu c (freeFmc s))) := fun c ordered =>
    sounds_settleChu (by simp) ordered
  simp only [execClipBlockFetchComplete]
  repeat' split
  · exact (movesSound_next _ _).mpr (ended _ fun safe => safe.withFetch _ _)
  · exact (movesSound_next _ _).mpr (ended _ fun safe => safe.withFetch _ _)
  · exact (movesSound_next _ _).mpr (ended _ fun safe => safe.withFetch _ _)
  · exact (movesSound_next _ _).mpr (ended _ fun safe => safe.withFetch _ _)
  · refine (movesSound_next _ _).mpr (ended _ fun safe => safe.keep rfl ?_ rfl)
    unfold Voice.takeBlock
    split <;> exact .of_fields rfl rfl rfl
  · simp

theorem movesSound_execTonePeriodWrap (s : State) : MovesSound (soundView s) (execTonePeriodWrap s) := by
  unfold execTonePeriodWrap
  split
  · exact (movesSound_next _ _).mpr (sounds_setChu (.refl _) fun safe => safe.withTone _)
  · simp

theorem movesSound_execPartTimeTick (s : State) : MovesSound (soundView s) (execPartTimeTick s) := by
  unfold execPartTimeTick
  split
  · simp
  · exact (movesSound_next _ _).mpr (sounds_setChu (by simp) fun safe => safe.withTone _)

theorem movesSound_execAudioBlockFetchComplete (s : State) : MovesSound (soundView s) (execAudioBlockFetchComplete s) := by
  have next : ∀ o : Aop, RingsMove s.aop.channels o.channels → MovesSound (soundView s) (.next (aopKick (setAop o (freeFmc s)))) :=
    fun o moves => (movesSound_next _ _).mpr (sounds_aopKick (sounds_setAop (by simp) moves))
  simp only [execAudioBlockFetchComplete]
  split
  · split
    · exact next _ (.refl _)
    · next x f flight =>
      have fetching := Aop.inFlight_some flight
      split
      · exact next _ (RingsMove.setFetch _ x (fun f hf => by cases hf) fun _ => rfl)
      · next counts =>
        have live : f.givenUp = false := by simpa using fun up => counts (.inl up)
        split
        · refine next _ (RingsMove.setFetch _ x (fun g hg _ => ⟨f, fetching, live, ?_⟩) fun none => ?_)
          · cases hg
            rfl
          · rw [fetching] at none
            cases none
        · exact next _ (.set rfl rfl (fun sound => sound.fetched fetching live _ _) fun _ => rfl)
  · simp

end Commands

/-- What every command can do to the sound. -/
theorem exec_movesSound (c : Instr) (s : State) : MovesSound (soundView s) (exec c s) := by
  have drains : ∀ u : State, (soundView s).Moves (soundView u) → MovesSound (soundView s) (.next (checkDrain u)) := fun u moves =>
    (movesSound_next _ _).mpr (sounds_checkDrain moves)
  cases c
  case powerOnReset => exact movesSound_execPowerOnReset s
  case initEnd => exact movesSound_execInitEnd s
  case arbiterGrant => exact movesSound_execArbiterGrant s
  case wrstAssert => exact movesSound_execWrstAssert s
  case clipDirectoryFetchComplete => exact movesSound_execClipDirectoryFetchComplete s
  case clipBlockFetchComplete => exact movesSound_execClipBlockFetchComplete s
  case tonePeriodWrap => exact movesSound_execTonePeriodWrap s
  case audioBlockFetchComplete => exact movesSound_execAudioBlockFetchComplete s
  case partTimeTick => exact movesSound_execPartTimeTick s
  case revPendingExpiry => exact drains _ (sounds_qualifyRev (.refl _))
  case holdTimerExpiry => exact drains _ (sounds_endHold (.refl _))
  case frameStart | line | frameEnd | blockBoundary => exact drains _ (by simp)
  case entryFetchComplete | resultWriteComplete | cameraLineWriteComplete =>
    simp only [exec, execEntryFetchComplete, execResultWriteComplete, execCameraLineWriteComplete]
    split
    · exact drains _ (by simp [sounds_entryFetched])
    · simp
  case drainLimitExpiry | memoryCellDisturbance | hostRequestPacket | hostGrantComplete | statusSectionWriteComplete | wrstDeassert |
      refreshStart | lineDue | layoutFetchGrantComplete | validationEnd | lineFetchGrantComplete | descriptorFetchComplete |
      idleTimerExpiry | revEdge | firstFrameDeadlineExpiry | lostTimerExpiry | unknownCameraPacket | staleTimerExpiry |
      guideListGrantComplete | distanceTimerExpiry =>
    simp only [exec, execDrainLimitExpiry, execMemoryCellDisturbance, execHostRequestPacket, execHostGrantComplete,
      execStatusSectionWriteComplete, execWrstDeassert, execRefreshStart, execLineDue, execLayoutFetchGrantComplete, execValidationEnd,
      execLineFetchGrantComplete, execDescriptorFetchComplete, execIdleTimerExpiry, execRevEdge, execFirstFrameDeadlineExpiry,
      execLostTimerExpiry, execUnknownCameraPacket, execStaleTimerExpiry, execGuideListGrantComplete, execDistanceTimerExpiry]
    repeat' split
    all_goals simp

/-! ## The statements -/

/-- Settles O15: CHU is part of the view of the sound, and every command is a move of the view that keeps its queue in order. -/
theorem chimeQueueIsOrdered : Obligations.ChimeQueueIsOrdered :=
  step_keeps (fun _ _ => id) fun c s t safe h => (chimesSafe_iff t).mpr ((exec_movesSound c s t h).chimes ((chimesSafe_iff s).mp safe))

/-- Settles O16: the rings are part of the view of the sound, and every command is a move of the view that keeps them safe. -/
theorem audioRingsHold : Obligations.AudioRingsHold :=
  step_keeps (fun _ _ => id) fun c s t safe h => (audioSafe_iff t).mpr ((exec_movesSound c s t h).audio ((audioSafe_iff s).mp safe))

end Sys2Proof.Machine
end

section
/-! SUPPORT. What CHU's own operations do, case by case: the voice take, a voice that lets go of its clip, the insertion rule, and the claim
of what the voice needs (R147, R151 to R154). -/

namespace Sys2Proof.Machine

variable {c : Chu} {n head : Chime} {rest : List Chime} {keep : Bool}

/-! ## The voice take (R151, R163) -/

/-- The voice that takes the head of the queue (R151). -/
def Voice.taking (v : Voice) (head : Chime) : Voice := { Voice.blank v.underrun with state := .starting, chime := head }

theorem Chu.voiceTake_takes (idle : c.voice.state = .idle) (drain : c.drain = .none) (held : c.held = false)
    (queue : c.queue = head :: rest) : c.voiceTake = { c with queue := rest, voice := c.voice.taking head } := by
  unfold Chu.voiceTake
  rw [idle, drain, held, queue]
  rfl

theorem Chu.voiceTake_rests (rests : c.takesNone ∨ c.queue = []) : c.voiceTake = c := by
  rcases c.voiceTake_cases with same | ⟨head, rest, idle, drain, held, queue, -⟩
  · exact same
  · simp [Chu.takesNone, idle, drain, held, queue] at rests

@[simp] theorem Chu.voiceTake_dropped (c : Chu) : c.voiceTake.dropped = c.dropped := by
  rcases c.voiceTake_cases with same | ⟨_, _, _, _, _, _, taken⟩
  · rw [same]
  · rw [taken]

/-- The tone voice takes no part in what the clip voice does. -/
theorem Chu.voiceTake_withTone (c : Chu) (tone : Tone) : Chu.voiceTake { c with tone := tone } = { c.voiceTake with tone := tone } := by
  unfold Chu.voiceTake
  dsimp only
  split <;> rfl

/-- A voice that lets go of its clip (R153) leaves the queue and takes nothing, or takes the head at once (R151). -/
theorem Chu.silenced_rests (rests : c.queue = [] ∨ c.drain ≠ .none ∨ c.held = true) : c.silenceVoice.voiceTake = c.silenceVoice := by
  obtain ⟨-, queue, -, -, -, drain, held⟩ := c.silenceVoice_spec
  refine Chu.voiceTake_rests ?_
  rw [Chu.takesNone, queue, drain, held]
  tauto

theorem Chu.silenced_takes (drain : c.drain = .none) (held : c.held = false) (queue : c.queue = head :: rest) :
    c.silenceVoice.voiceTake = { c.silenceVoice with queue := rest, voice := c.voice.taking head } := by
  obtain ⟨voice, queue', -, -, -, drain', held'⟩ := c.silenceVoice_spec
  rw [Chu.voiceTake_takes (by rw [voice]; rfl) (drain'.trans drain) (held'.trans held) (queue'.trans queue), voice]
  rfl

/-! ## The insertion rule (R147) -/

theorem Chu.insert_joins (holds : c.voice.holds n.clip = true) : c.insert n keep = (true, { c with voice := c.voice.merge n }) :=
  if_pos holds

theorem find?_clip_none {l : List Chime} {clip : Nat} (new : ∀ q ∈ l, q.clip ≠ clip) : l.find? (fun q => q.clip == clip) = none := by
  simpa using new

theorem Chu.insert_merges {q : Chime} (apart : c.voice.holds n.clip = false) (hq : q ∈ c.queue) (clip : q.clip = n.clip)
    (clips : (c.queue.map Chime.clip).Nodup) :
    c.insert n keep = (true, { c with queue := placeChime (q.merge n) (c.queue.filter fun e => !(e.clip == n.clip)) }) := by
  have found : c.queue.find? (fun q => q.clip == n.clip) = some q := by
    cases found : c.queue.find? (fun q => q.clip == n.clip) with
    | none => exact absurd clip (by simpa using List.find?_eq_none.mp found q hq)
    | some p =>
      have same : p.clip = n.clip := by simpa using List.find?_some found
      rw [List.inj_on_of_nodup_map clips (List.mem_of_find?_eq_some found) hq (same.trans clip.symm)]
  unfold Chu.insert
  rw [if_neg (by simp [apart]), found]

theorem Chu.insert_places (apart : c.voice.holds n.clip = false) (new : ∀ q ∈ c.queue, q.clip ≠ n.clip) (room : c.queue.length < 8) :
    c.insert n keep = (true, c.place n keep) := by
  unfold Chu.insert
  rw [if_neg (by simp [apart]), find?_clip_none new]
  exact if_pos room

theorem Chu.insert_full {last : Chime} (apart : c.voice.holds n.clip = false) (new : ∀ q ∈ c.queue, q.clip ≠ n.clip)
    (full : 8 ≤ c.queue.length) (queue : c.queue = rest ++ [last]) :
    c.insert n keep =
      if last.priority < n.priority then (true, { c with queue := rest, dropped := c.dropped + 1 }.place n keep) else (false, c) := by
  have ends : c.queue.getLast? = some last := by rw [queue, List.getLast?_concat]
  have kept : c.queue.dropLast = rest := by rw [queue, List.dropLast_concat]
  unfold Chu.insert
  rw [if_neg (by simp [apart]), find?_clip_none new]
  dsimp only
  rw [if_neg (by omega), ends, kept]

/-- A chime that does not stand before the head is placed behind it. -/
theorem placeChime_behind (h : ¬ n.before head = true) : placeChime n (head :: rest) = head :: placeChime n rest := if_neg h

/-- A chime placed with the arrival it keeps (R154). -/
theorem Chu.place_kept (c : Chu) (n : Chime) : c.place n true = { c with queue := placeChime n c.queue } := rfl

/-- A chime placed with a fresh arrival, the count not at its end (R147). -/
theorem Chu.place_counted (going : c.arrivals ≤ 65535) :
    c.place n false = { c with queue := placeChime { n with arrival := c.arrivals } c.queue, arrivals := c.arrivals + 1 } := by
  rcases c.freshArrival_cases with ⟨-, eq⟩ | ⟨ended, -⟩
  · simp [Chu.place, eq]
  · omega

/-- A chime placed with a fresh arrival, the stamps renumbered first (R147). -/
theorem Chu.place_renumbered (ended : 65535 < c.arrivals) :
    c.place n false = { c.renumber with
      queue := placeChime { n with arrival := c.stamps.length } c.renumber.queue, arrivals := c.stamps.length + 1 } := by
  rcases c.freshArrival_cases with ⟨going, -⟩ | ⟨-, eq⟩
  · omega
  · simp [Chu.place, eq]

/-! ## The claim of what the voice needs (R151, R152) -/

/-- With the port free CHU starts the fetch that the voice needs. -/
theorem Chu.kick_starts {target : ClipTarget} (store : Option Region) (claim : c.claim = .idle) (fetch : c.fetch = none)
    (need : c.voice.need = some target) :
    c.kick store = { c with
      fetch := some ⟨target, false, 0, []⟩, claim := .waiting (clipRequest store c.voice ⟨target, false, 0, []⟩) } := by
  unfold Chu.kick
  rw [claim, fetch, need]

theorem Chu.kick_rests (store : Option Region) (claim : c.claim = .idle) (fetch : c.fetch = none) (need : c.voice.need = none) :
    c.kick store = c := by
  unfold Chu.kick
  rw [claim, fetch, need]

/-- With the port free CHU claims the next request of the fetch in flight. -/
theorem Chu.kick_goesOn {f : ClipFetch} (store : Option Region) (claim : c.claim = .idle) (fetch : c.fetch = some f) :
    c.kick store = { c with claim := .waiting (clipRequest store c.voice f) } := by
  unfold Chu.kick
  rw [claim, fetch]

theorem Voice.taking_need (v : Voice) (head : Chime) : (v.taking head).need = some .directory := rfl

/-- What CHU fetches once its port is free is what the voice needs. -/
theorem Chu.kick_fetch (store : Option Region) (claim : c.claim = .idle) (fetch : c.fetch = none) :
    (c.kick store).fetch = c.voice.need.map fun target => ⟨target, false, 0, []⟩ := by
  cases need : c.voice.need with
  | none => rw [Chu.kick_rests store claim fetch need, fetch]; rfl
  | some target => rw [Chu.kick_starts store claim fetch need]; rfl

end Sys2Proof.Machine
end

section
/-! SUPPORT. The clip voice at a block boundary, case by case (R152 to R154, R163); and what BLOCK_BOUNDARY makes of CHU and of the fault
unit. -/

namespace Sys2Proof.Machine

variable {c : Chu} {head : Chime} {rest : List Chime}

/-! ## Preemption (R154) -/

theorem Chu.preempts_iff (c : Chu) : c.preempts = true ↔
    ∃ (head : Chime) (rest : List Chime), c.queue = head :: rest ∧ c.voice.state ≠ .idle ∧ c.voice.pendingStop = false ∧
      c.voice.chime.priority < head.priority := by
  unfold Chu.preempts
  split
  · next empty => simp [empty]
  · next head rest queue => simp [queue, and_assoc]

/-- The chime of a voice that is preempted, with the route that was to join it (R154). -/
def Voice.outgoing (v : Voice) : Chime := { v.chime with route := v.chime.route.join v.nextRoute }

/-- The head goes to the voice, once the outgoing chime is requeued behind it or dropped (R154). -/
theorem Chu.preempt_takes {behind : List Chime} {dropped : Count} (drain : c.drain = .none) (held : c.held = false)
    (after : (if c.voice.outgoing.requeue then c.silenceVoice.insertCounted c.voice.outgoing true
      else { c.silenceVoice with dropped := c.silenceVoice.dropped + 1 }) =
        { c.silenceVoice with queue := head :: behind, dropped := dropped }) :
    c.preempt = { c.silenceVoice with queue := behind, dropped := dropped, voice := c.voice.taking head } := by
  obtain ⟨voice, -, -, -, -, drain', held'⟩ := c.silenceVoice_spec
  have takes : Chu.voiceTake { c.silenceVoice with queue := head :: behind, dropped := dropped } =
      { c.silenceVoice with queue := behind, dropped := dropped, voice := c.silenceVoice.voice.taking head } :=
    Chu.voiceTake_takes (congrArg Voice.state voice) (drain'.trans drain) (held'.trans held) rfl
  rw [voice] at takes
  exact (congrArg Chu.voiceTake after).trans takes

/-- The outgoing chime among the other chimes: no queued chime has its clip, and the head stands before it. -/
structure Chu.Preempted (c : Chu) (head : Chime) (rest : List Chime) : Prop where
  drain : c.drain = .none
  held : c.held = false
  queue : c.queue = head :: rest
  higher : c.voice.chime.priority < head.priority
  apart : ∀ q ∈ c.queue, q.clip ≠ c.voice.outgoing.clip

namespace Chu.Preempted

theorem quiet (h : c.Preempted head rest) : c.silenceVoice.queue = head :: rest ∧ c.silenceVoice.dropped = c.dropped ∧
    c.silenceVoice.voice.holds c.voice.outgoing.clip = false ∧ ∀ q ∈ c.silenceVoice.queue, q.clip ≠ c.voice.outgoing.clip := by
  obtain ⟨voice, queue, -, dropped, -⟩ := c.silenceVoice_spec
  exact ⟨queue.trans h.queue, dropped, by rw [voice]; rfl, fun q hq => h.apart q (queue ▸ hq)⟩

theorem behind (h : c.Preempted head rest) (l : List Chime) :
    placeChime c.voice.outgoing (head :: l) = head :: placeChime c.voice.outgoing l := by
  refine placeChime_behind fun before => ?_
  have higher := h.higher
  rw [Chime.before_iff, show c.voice.outgoing.priority = c.voice.chime.priority from rfl] at before
  omega

/-- Without the requeue flag the outgoing chime is dropped. -/
theorem drops (h : c.Preempted head rest) (requeue : c.voice.outgoing.requeue = false) :
    c.preempt = { c.silenceVoice with queue := rest, dropped := c.dropped + 1, voice := c.voice.taking head } := by
  obtain ⟨queue, dropped, -⟩ := h.quiet
  refine Chu.preempt_takes h.drain h.held ?_
  rw [if_neg (by simp [requeue]), ← queue, dropped]

theorem requeues (h : c.Preempted head rest) (requeue : c.voice.outgoing.requeue = true) (room : c.queue.length < 8) :
    c.preempt = { c.silenceVoice with
      queue := placeChime c.voice.outgoing rest, dropped := c.dropped, voice := c.voice.taking head } := by
  obtain ⟨queue, dropped, holds, new⟩ := h.quiet
  refine Chu.preempt_takes h.drain h.held ?_
  rw [if_pos requeue, Chu.insertCounted, Chu.insert_places holds new (by rw [queue, ← h.queue]; exact room), Chu.place_kept, queue,
    h.behind, ← dropped]

/-- With a full queue the last entry goes if it has a lower priority, and else the outgoing chime. -/
theorem evicts (h : c.Preempted head rest) {kept : List Chime} {last : Chime} (requeue : c.voice.outgoing.requeue = true)
    (full : 8 ≤ c.queue.length) (ends : rest = kept ++ [last]) :
    c.preempt = { c.silenceVoice with
      queue := if last.priority < c.voice.outgoing.priority then placeChime c.voice.outgoing kept else rest
      dropped := c.dropped + 1, voice := c.voice.taking head } := by
  obtain ⟨queue, dropped, holds, new⟩ := h.quiet
  refine Chu.preempt_takes h.drain h.held ?_
  rw [if_pos requeue, Chu.insertCounted, Chu.insert_full (rest := head :: kept) holds new (by rw [queue, ← h.queue]; exact full)
    (by rw [queue, ends]; rfl)]
  split
  · next lower =>
    split at lower
    · next low => cases lower; rw [Chu.place_kept, if_pos low, h.behind, dropped]
    · cases lower
  · next higher =>
    split at higher
    · cases higher
    · next high => cases higher; rw [if_neg high, ← queue, dropped]

/-- Whatever becomes of the outgoing chime, the head goes to the voice. -/
theorem voice (h : c.Preempted head rest) : c.preempt.voice = c.voice.taking head := by
  cases requeue : c.voice.outgoing.requeue with
  | false => rw [h.drops requeue]
  | true =>
    by_cases room : c.queue.length < 8
    · rw [h.requeues requeue room]
    · rcases List.eq_nil_or_concat rest with empty | ⟨kept, last, ends⟩
      · rw [h.queue, empty] at room
        simp at room
      · rw [h.evicts requeue (Nat.le_of_not_lt room) (by rw [ends, List.concat_eq_append])]

end Chu.Preempted

/-! ## Without preemption (R152, R153) -/

theorem Chu.settleVoice_preempts (calm : c.drain ≠ .draining) (preempts : c.preempts = true) : c.settleVoice = (c.preempt, none) := by
  unfold Chu.settleVoice
  rw [if_neg calm, if_pos preempts]

/-- Letting go of a clip drops the next route with the chime (R153). -/
theorem Chu.silenceVoice_joined (c : Chu) : Chu.silenceVoice { c with voice := c.voice.joinRoute } = c.silenceVoice := by
  obtain ⟨queue, voice, fetch, tone, dropped, arrivals, drain, held, claim⟩ := c
  cases claim <;> rfl

/-- A pending stop, or the end of the last play, ends the clip of a PLAYING voice (R153). -/
theorem Chu.advance_ends (ends : c.voice.pendingStop = true ∨
      ∃ e : ClipEntry, c.voice.entry = some e ∧ e.length ≤ c.voice.position + 1 ∧ c.voice.chime.plays = 1) :
    c.advance = (c.silenceVoice.voiceTake, none) := by
  rw [← c.silenceVoice_joined]
  by_cases stops : c.voice.pendingStop = true
  · exact if_pos stops
  · obtain ⟨e, entry, last, once⟩ := ends.resolve_left stops
    have done : (c.voice.joinRoute.entry.map ClipEntry.length).getD 0 ≤ c.voice.joinRoute.position + 1 := by
      rw [show c.voice.joinRoute.entry = some e from entry]
      exact last
    unfold Chu.advance
    dsimp only
    rw [if_neg (show ¬ c.voice.joinRoute.pendingStop = true from stops), if_pos done, if_pos (show c.voice.joinRoute.chime.plays = 1 from once)]

/-- The position that a PLAYING voice goes on to: the next block, or block 0 for a repeat (R153). -/
def Voice.goesTo (v : Voice) (e : ClipEntry) : Nat := if v.position + 1 < e.length then v.position + 1 else 0

/-- The voice that goes on: the next route has joined, and at the end of the clip one play is done. -/
def Voice.goingOn (v : Voice) (e : ClipEntry) : Voice := if v.position + 1 < e.length then v.joinRoute else v.repeated

theorem Chu.advance_plays {e : ClipEntry} (goes : c.voice.pendingStop = false) (entry : c.voice.entry = some e)
    (on : c.voice.position + 1 < e.length ∨ c.voice.chime.plays ≠ 1) :
    c.advance = Chu.playAt { c with voice := c.voice.goingOn e } (c.voice.goesTo e) := by
  have length : (c.voice.joinRoute.entry.map ClipEntry.length).getD 0 = e.length := by
    rw [show c.voice.joinRoute.entry = some e from entry]
    rfl
  unfold Chu.advance Voice.goesTo Voice.goingOn
  dsimp only
  rw [if_neg (show ¬ c.voice.joinRoute.pendingStop = true by simp [Voice.joinRoute, goes]), length]
  by_cases next : c.voice.position + 1 < e.length
  · rw [if_neg (show ¬ e.length ≤ c.voice.joinRoute.position + 1 from Nat.not_le.mpr next), if_pos next, if_pos next]
    rfl
  · rw [if_pos (show e.length ≤ c.voice.joinRoute.position + 1 from Nat.le_of_not_lt next),
      if_neg (show ¬ c.voice.joinRoute.chime.plays = 1 from on.resolve_left next), if_neg next, if_neg next]
    rfl

theorem Voice.goingOn_eq (v : Voice) (e : ClipEntry) : v.goingOn e = { v with
    chime := { v.chime with
      route := v.chime.route.join v.nextRoute
      plays := if v.position + 1 < e.length then v.chime.plays else v.chime.plays - 1 }
    nextRoute := ⟨false, false⟩ } := by
  unfold Voice.goingOn
  split <;> rfl

theorem Chu.playAt_dropped (c : Chu) (position : Nat) : (c.playAt position).1.dropped = c.dropped := by
  rcases c.playAt_cases position with ⟨b, -, -, eq⟩ | ⟨-, eq⟩
  · rw [eq]
  · obtain ⟨-, -, -, dropped, -⟩ := c.giveUpFetch_keeps
    rw [eq]
    exact dropped

/-- What a voice that lets go of its clip leaves: an IDLE voice, or the head of the queue on it (R151, R153). -/
theorem Chu.silenced_spec (c : Chu) :
    (c.silenceVoice.voiceTake).dropped = c.dropped ∧
    (c.queue = [] ∨ c.drain ≠ .none ∨ c.held = true →
      (c.silenceVoice.voiceTake).voice.state = .idle ∧ (c.silenceVoice.voiceTake).queue = c.queue) ∧
    (∀ (head : Chime) (rest : List Chime), c.queue = head :: rest → c.drain = .none → c.held = false →
      (c.silenceVoice.voiceTake).voice.state = .starting ∧ (c.silenceVoice.voiceTake).voice.chime = head ∧
      (c.silenceVoice.voiceTake).voice.entry = none ∧ (c.silenceVoice.voiceTake).queue = rest) := by
  obtain ⟨voice, queue, -, dropped, -⟩ := c.silenceVoice_spec
  refine ⟨?_, fun rests => ?_, fun head rest queue drain held => ?_⟩
  · rw [Chu.voiceTake_dropped, dropped]
  · rw [Chu.silenced_rests rests, voice, queue]
    exact ⟨rfl, rfl⟩
  · rw [Chu.silenced_takes drain held queue]
    exact ⟨rfl, rfl, rfl, rfl⟩

theorem Chu.advance_dropped (c : Chu) : c.advance.1.dropped = c.dropped := by
  unfold Chu.advance
  dsimp only
  split
  · exact (Chu.silenced_spec _).1
  · split
    · split
      · exact (Chu.silenced_spec _).1
      · exact Chu.playAt_dropped _ _
    · exact Chu.playAt_dropped _ _

section GoesOn

variable (calm : c.drain ≠ .draining)
  (stays : ∀ (head : Chime) (rest : List Chime), c.queue = head :: rest →
    head.priority ≤ c.voice.chime.priority ∨ c.voice.pendingStop = true)

include calm stays

theorem Chu.settleVoice_stays : c.settleVoice =
    match c.voice.state with
    | .idle => (c, none)
    | .starting =>
      if c.voice.pendingStop then (c.silenceVoice.voiceTake, none)
      else if c.voice.current.isSome then
        ({ c with voice := { c.voice.joinRoute with state := .playing, position := 0, underrun := false } }, none)
      else (c, none)
    | .playing => c.advance := by
  have none : ¬ c.preempts = true := fun preempts => by
    obtain ⟨head, rest, queue, -, goes, higher⟩ := c.preempts_iff.mp preempts
    rcases stays head rest queue with lower | stops
    · omega
    · rw [goes] at stops
      cases stops
  exact (if_neg calm).trans (if_neg none)

theorem Chu.settleVoice_dropped : c.settleVoice.1.dropped = c.dropped := by
  rw [Chu.settleVoice_stays calm stays]
  split
  · rfl
  · split
    · exact (Chu.silenced_spec _).1
    · split <;> rfl
  · exact c.advance_dropped

theorem Chu.settleVoice_idle (idle : c.voice.state = .idle) : c.settleVoice = (c, none) := by
  rw [Chu.settleVoice_stays calm stays, idle]

theorem Chu.settleVoice_waits (starting : c.voice.state = .starting) (goes : c.voice.pendingStop = false) (current : c.voice.current = none) :
    c.settleVoice = (c, none) := by
  rw [Chu.settleVoice_stays calm stays, starting]
  simp [goes, current]

theorem Chu.settleVoice_begins {b : ClipBlock} (starting : c.voice.state = .starting) (goes : c.voice.pendingStop = false)
    (current : c.voice.current = some b) :
    c.settleVoice = ({ c with voice := { c.voice.joinRoute with state := .playing, position := 0, underrun := false } }, none) := by
  rw [Chu.settleVoice_stays calm stays, starting]
  simp [goes, current]

/-- A pending stop, or the end of the last play, ends the clip. -/
theorem Chu.settleVoice_ends (ends : (c.voice.state ≠ .idle ∧ c.voice.pendingStop = true) ∨
      (∃ e : ClipEntry, c.voice.state = .playing ∧ c.voice.entry = some e ∧ e.length ≤ c.voice.position + 1 ∧ c.voice.chime.plays = 1)) :
    c.settleVoice = (c.silenceVoice.voiceTake, none) := by
  rw [Chu.settleVoice_stays calm stays]
  rcases ends with ⟨busy, stops⟩ | ⟨e, playing, done⟩
  · cases state : c.voice.state with
    | idle => exact absurd state busy
    | starting => exact if_pos stops
    | playing => exact Chu.advance_ends (.inl stops)
  · rw [playing]
    exact Chu.advance_ends (.inr ⟨e, done⟩)

theorem Chu.settleVoice_plays {e : ClipEntry} (playing : c.voice.state = .playing) (goes : c.voice.pendingStop = false)
    (entry : c.voice.entry = some e) (on : c.voice.position + 1 < e.length ∨ c.voice.chime.plays ≠ 1) :
    c.settleVoice = Chu.playAt { c with voice := c.voice.goingOn e } (c.voice.goesTo e) := by
  rw [Chu.settleVoice_stays calm stays, playing]
  exact Chu.advance_plays goes entry on

end GoesOn

/-! ## BLOCK_BOUNDARY and its reports (R146, log 13) -/

theorem blockSettled_changesOnly (s : State) : ChangesOnly [.aop, .stw, .chu] s (blockSettled s) :=
  (((settleChu_changesOnly (settledChu s) s).mono (by simp)).trans ((setAop_changesOnly _ _).mono (by simp))).trans
    ((aopKick_changesOnly _).mono (by simp))

theorem settleBlock_reportsBeside (s : State) : ReportsBeside [.aop] s (settleBlock s) := by
  have due : ∀ (kind : FaultKind) (source : FaultSource) (detail : Option Detail) (u : State),
      ReportsBeside [.aop] u (reportIfDue kind source detail u) := fun kind source detail u =>
    .of_reports (drainStands_reportIfDue kind source detail u).2
  rw [settleBlock_eq]
  exact ((((blockSettled_changesOnly s).mono (by simp)).trans (due _ _ _ _)).trans (due _ _ _ _)).trans (due _ _ _ _)

/-- A boundary at which AOP is not held settles the block, and ends no drain while another block has not reported (R38, R146). -/
theorem exec_blockBoundary_settles {s : State} (free : s.aop.held = false) (waits : NotLast s [s.rqe.drain, s.ccp.drain]) :
    exec .blockBoundary s = .next (settleBlock s) := by
  have only := settleBlock_reportsBeside s
  have rests : checkDrain (settleBlock s) = settleBlock s := by
    refine checkDrain_of_notLast (others := [s.rqe.drain, s.ccp.drain]) ?_ ?_
    · rw [NotLast, show (settleBlock s).lyu = s.lyu from only .lyu (by decide)]
      exact waits
    · rw [show (settleBlock s).rqe = s.rqe from only .rqe (by decide), show (settleBlock s).ccp = s.ccp from only .ccp (by decide)]
      simp
  have settles : blockBoundary s = settleBlock s := if_neg (by simp [free])
  rw [← rests, ← settles]
  rfl

/-- CHU and the fault unit before the reports of the boundary. -/
theorem blockSettled_chu (s : State) : (blockSettled s).chu = (settledChu s).voiceTake.kick (chimeStore s) := by
  rw [blockSettled, show (aopKick _).chu = _ from aopKick_changesOnly _ .chu (by decide), setAop_chu, settleChu_chu]

/-- No report changes CHU: a SAFE action has no chime to hand, or the part is DEGRADED already (R149, R168). -/
def ChimesSpared (s : State) : Prop := s.lyu.committed.chimeMap.faultCritical = none ∨ s.flt.degraded = true

theorem Flt.record_degraded (f : Flt) (r : FaultRecord) (selected : Bool) : (f.record r selected).degraded = f.degraded := by
  unfold Flt.record Flt.count
  dsimp only
  repeat' split
  all_goals rfl

theorem takeAction_spares {u : State} (spared : ChimesSpared u) (a : FaultAction) :
    (takeAction a u).chu = u.chu ∧ ChimesSpared (takeAction a u) := by
  have unmapped : ∀ v : State, v.lyu.committed.chimeMap.faultCritical = none → chimeEvent .faultCritical v = v := fun v none => by
    simp [chimeEvent, ChimeMap.lookup, none]
  cases a with
  | quiet => exact ⟨rfl, spared⟩
  | signal => exact ⟨raiseCause_chu u .fault, by simpa [ChimesSpared, takeAction] using spared⟩
  | safe =>
    unfold takeAction
    dsimp only
    split
    · exact ⟨rfl, spared⟩
    · next calm =>
      have silent := spared.resolve_right calm
      rw [unmapped _ (by simpa using silent)]
      exact ⟨by simp, .inl (by simpa using silent)⟩

theorem report_spares {u : State} (spared : ChimesSpared u) (r : Report) : (report r u).chu = u.chu ∧ ChimesSpared (report r u) := by
  unfold report
  dsimp only
  split
  · exact ⟨rfl, spared⟩
  · have recorded : ∀ (f : FaultRecord) (selected : Bool),
        ChimesSpared (markDirty .s7 { u with flt := u.flt.record f selected }) := fun f selected =>
      spared.imp_right (u.flt.record_degraded f selected).trans
    split
    · exact ⟨rfl, recorded _ _⟩
    · exact takeAction_spares (recorded _ _) _

theorem reportIfDue_spares {u : State} (spared : ChimesSpared u) (kind : FaultKind) (source : FaultSource) (detail : Option Detail) :
    (reportIfDue kind source detail u).chu = u.chu ∧ ChimesSpared (reportIfDue kind source detail u) := by
  cases detail with
  | none => exact ⟨rfl, spared⟩
  | some d => exact report_spares spared _

theorem settleBlock_spares {s : State} (spared : ChimesSpared s) :
    (settleBlock s).chu = (settledChu s).voiceTake.kick (chimeStore s) := by
  have flt : (blockSettled s).flt = s.flt := blockSettled_changesOnly s .flt (by decide)
  have lyu : (blockSettled s).lyu = s.lyu := blockSettled_changesOnly s .lyu (by decide)
  have before : ChimesSpared (blockSettled s) := by rw [ChimesSpared, flt, lyu]; exact spared
  obtain ⟨first, spared'⟩ := reportIfDue_spares before .chimeUnderrun .chime s.chu.settleVoice.2
  obtain ⟨second, spared''⟩ := reportIfDue_spares spared' .audioUnderrun .audio (settledA s).2
  obtain ⟨third, -⟩ := reportIfDue_spares spared'' .audioUnderrun .audio (settledB s).2
  rw [settleBlock_eq, third, second, first, blockSettled_chu]

/-- What the fault unit hears at a boundary: CHU's report, then channel A's, then channel B's (log 13). -/
theorem reportIfDue_flt_congr {s u : State} (kind : FaultKind) (source : FaultSource) (detail : Option Detail) (flt : u.flt = s.flt)
    (lyu : u.lyu = s.lyu) : (reportIfDue kind source detail u).flt = (reportIfDue kind source detail s).flt := by
  cases detail with
  | none => exact flt
  | some d => exact report_flt_congr _ flt lyu

theorem reportIfDue_lyu (kind : FaultKind) (source : FaultSource) (detail : Option Detail) (s : State) :
    (reportIfDue kind source detail s).lyu = s.lyu := (drainStands_reportIfDue kind source detail s).2 .lyu (by decide)

theorem settleBlock_flt (s : State) : (settleBlock s).flt =
    (reportIfDue .audioUnderrun .audio (settledB s).2 (reportIfDue .audioUnderrun .audio (settledA s).2
      (reportIfDue .chimeUnderrun .chime s.chu.settleVoice.2 s))).flt := by
  have flt : (blockSettled s).flt = s.flt := blockSettled_changesOnly s .flt (by decide)
  have lyu : (blockSettled s).lyu = s.lyu := blockSettled_changesOnly s .lyu (by decide)
  rw [settleBlock_eq]
  refine reportIfDue_flt_congr _ _ _ (reportIfDue_flt_congr _ _ _ (reportIfDue_flt_congr _ _ _ flt lyu) ?_) ?_ <;>
    simp only [reportIfDue_lyu, lyu]

/-! ## The statement -/

/-- Settles O60: a drain, a preemption (R154) and the ordinary course (R152, R153) of the clip voice, each by the equation of that case; a
boundary then settles CHU so, and the reports that follow leave it. -/
theorem clipVoiceSettles : Obligations.ClipVoiceSettles := by
  refine ⟨fun c draining => ?drains, ?preempts, ?goesOn, fun v e playing entry next => ?needs, ?boundary⟩
  case drains =>
    obtain ⟨voice, queue, -, dropped, -⟩ := c.silenceVoice_spec
    rw [settleVoice_drains draining]
    exact ⟨rfl, congrArg Voice.state voice, rfl, queue, dropped⟩
  case preempts =>
    rintro c d detail head rest old settles drain held queue busy goes higher rfl apart
    have preempted : c.Preempted head rest := ⟨drain, held, queue, higher, apart⟩
    rw [Chu.settleVoice_preempts (by simp [drain]) (c.preempts_iff.mpr ⟨head, rest, queue, busy, goes, higher⟩)] at settles
    obtain ⟨rfl, rfl⟩ := Prod.mk.inj settles
    rw [preempted.voice]
    refine ⟨rfl, rfl, rfl, rfl, rfl, rfl, rfl, rfl, fun requeue => ?_, fun requeue room => ?_, fun kept last requeue full ends => ?_⟩
    · rw [preempted.drops requeue]
      exact ⟨rfl, rfl⟩
    · rw [preempted.requeues requeue room]
      exact ⟨rfl, length_placeChime _ _, fun q => mem_placeChime⟩
    · have behind : kept.length = 6 := by
        rw [queue, ends] at full
        simpa using full
      rw [preempted.evicts requeue full.ge ends]
      refine ⟨rfl, fun lower => ?_, fun higher => if_neg (Nat.not_lt.mpr higher)⟩
      rw [show (if last.priority < c.voice.outgoing.priority then placeChime c.voice.outgoing kept else rest) =
        placeChime c.voice.outgoing kept from if_pos lower, length_placeChime, behind]
      exact ⟨rfl, fun q => mem_placeChime⟩
  case goesOn =>
    intro c d detail settles calm stays
    have stays' : ∀ {r : Chu × Option Detail}, c.settleVoice = r → d = r.1 ∧ detail = r.2 := fun eq => by
      rw [settles] at eq
      exact Prod.mk.inj eq
    refine ⟨?dropped, fun idle => stays' (Chu.settleVoice_idle calm stays idle), fun ends => ?ends,
      fun starting goes current => stays' (Chu.settleVoice_waits calm stays starting goes current),
      fun b starting goes current => ?begins, fun e position playing goes entry on place => ?plays⟩
    case dropped =>
      obtain ⟨rfl, -⟩ := stays' rfl
      exact Chu.settleVoice_dropped calm stays
    case ends =>
      obtain ⟨rfl, rfl⟩ := stays' (Chu.settleVoice_ends calm stays ends)
      exact ⟨rfl, c.silenced_spec.2⟩
    case begins =>
      obtain ⟨rfl, rfl⟩ := stays' (Chu.settleVoice_begins calm stays starting goes current)
      exact ⟨rfl, rfl, rfl, rfl, current, rfl, rfl, rfl, rfl⟩
    case plays =>
      have plays := Chu.settleVoice_plays calm stays playing goes entry on
      rw [Voice.goingOn_eq, Voice.goesTo, ← place] at plays
      rcases Chu.playAt_cases _ position with ⟨b, next, here, eq⟩ | ⟨late, eq⟩
      · obtain ⟨rfl, rfl⟩ := stays' (plays.trans eq)
        refine ⟨rfl, playing, rfl, entry, rfl, rfl, rfl, fun b' next' _ => ?_, fun late => absurd here (late b next)⟩
        rw [Option.some.inj (next'.symm.trans next)]
        exact ⟨rfl, rfl, rfl⟩
      · obtain ⟨rfl, rfl⟩ := stays' (plays.trans eq)
        obtain ⟨queue, -⟩ := Chu.giveUpFetch_keeps { c with voice := { c.voice with
          chime := { c.voice.chime with
            route := c.voice.chime.route.join c.voice.nextRoute
            plays := if c.voice.position + 1 < e.length then c.voice.chime.plays else c.voice.chime.plays - 1 }
          nextRoute := ⟨false, false⟩ } }
        exact ⟨queue, playing, rfl, entry, rfl, rfl, rfl, fun b next here => absurd here (late b next), fun _ => ⟨rfl, rfl, rfl⟩⟩
  case needs =>
    refine ⟨fun more => ?_, fun last again => ?_, fun last once => ?_⟩
    all_goals simp only [Voice.need, playing, entry, next, Option.isSome_none, Bool.false_eq_true, if_false]
    · exact if_pos more
    · rw [if_neg (by omega), if_neg again]
    · rw [if_neg (by omega), if_pos once]
  case boundary =>
    rintro s d detail free waits settles
    have settled : settledChu s = { d with tone := d.tone.settle s.lyu.committed.toneHalfPeriod } := by rw [settledChu, settles]
    refine ⟨settleBlock s, exec_blockBoundary_settles free waits, settleBlock_reportsBeside s, fun spared => ?_, fun quiet => ?_⟩
    · rw [settleBlock_spares spared, settled, Chu.voiceTake_withTone]
      obtain ⟨queue, voice, -, dropped, -⟩ := Chu.kick_keeps (chimeStore s)
        { d.voiceTake with tone := d.tone.settle s.lyu.committed.toneHalfPeriod }
      exact ⟨voice, queue, dropped, fun fetch claim => Chu.kick_fetch _ claim fetch⟩
    · have silent : ∀ (o : Aop) (x : Channel), (o.settle x (s.fsq.get x).state).2 = none := fun o x => by
        cases state : (s.fsq.get x).state with
        | playing => exact absurd state (quiet x)
        | idle | priming | paused | ended => rfl
      rw [settleBlock_flt, show (settledA s).2 = none from silent _ .a, show (settledB s).2 = none from silent _ .b, settles]
      cases detail <;> rfl

end Sys2Proof.Machine
end

section
/-! SUPPORT. What BLOCK_BOUNDARY makes of AOP (R146, R159 to R161) and of the tone voice (R156). -/

namespace Sys2Proof.Machine

/-! ## The tone voice stands apart from the clip voice (R147, R152 to R154) -/

section Tone

variable (c : Chu) (n : Chime) (keep : Bool)

@[simp] theorem Chu.place_tone : (c.place n keep).tone = c.tone := by
  unfold Chu.place Chu.freshArrival
  split
  · rfl
  · dsimp only
    split <;> rfl

@[simp] theorem Chu.insert_tone : (c.insert n keep).2.tone = c.tone := by
  unfold Chu.insert
  repeat' split
  all_goals simp

@[simp] theorem Chu.insertCounted_tone : (c.insertCounted n keep).tone = c.tone := by
  have inserted := c.insert_tone n keep
  unfold Chu.insertCounted
  split
  · next same => rw [same] at inserted; exact inserted
  · next same => rw [same] at inserted; exact inserted

@[simp] theorem Chu.voiceTake_tone : c.voiceTake.tone = c.tone := by
  rcases c.voiceTake_cases with same | ⟨_, _, _, _, _, _, taken⟩
  · rw [same]
  · rw [taken]

@[simp] theorem Chu.silenceVoice_tone : c.silenceVoice.tone = c.tone := by
  obtain ⟨-, -, tone, -⟩ := c.silenceVoice_spec
  exact tone

theorem Chu.preempt_tone : c.preempt.tone = c.tone := by
  unfold Chu.preempt
  dsimp only
  split <;> simp

@[simp] theorem Chu.playAt_tone (position : Nat) : (c.playAt position).1.tone = c.tone := by
  rcases c.playAt_cases position with ⟨b, -, -, eq⟩ | ⟨-, eq⟩
  · rw [eq]
  · obtain ⟨-, -, tone, -⟩ := c.giveUpFetch_keeps
    rw [eq]
    exact tone

theorem Chu.advance_tone : c.advance.1.tone = c.tone := by
  unfold Chu.advance
  dsimp only
  repeat' split
  all_goals simp

theorem Chu.settleVoice_tone : c.settleVoice.1.tone = c.tone := by
  unfold Chu.settleVoice
  split
  · exact c.silenceVoice_tone
  · split
    · exact c.preempt_tone
    · split
      · rfl
      · split
        · exact (Chu.voiceTake_tone _).trans c.silenceVoice_tone
        · split <;> rfl
      · exact c.advance_tone

end Tone

/-! ## Reports leave the tone voice (R149, R168) -/

variable (s : State)

theorem chimeEvent_tone (e : ChimeEvent) : (chimeEvent e s).chu.tone = s.chu.tone := by
  unfold chimeEvent
  split
  · rfl
  · split
    · rfl
    · obtain ⟨tone, -⟩ := settleChu_keeps (s.chu.insertCounted (eventChime _ e) false) s
      exact tone.trans (Chu.insertCounted_tone _ _ _)

theorem takeAction_tone (a : FaultAction) : (takeAction a s).chu.tone = s.chu.tone := by
  cases a with
  | quiet => rfl
  | signal => exact congrArg Chu.tone (raiseCause_chu s .fault)
  | safe =>
    unfold takeAction
    dsimp only
    split
    · rfl
    · rw [chimeEvent_tone]
      simp

theorem report_tone (r : Report) : (report r s).chu.tone = s.chu.tone := by
  unfold report
  dsimp only
  split
  · rfl
  · split
    · rfl
    · exact takeAction_tone _ _

@[simp] theorem reportIfDue_tone (kind : FaultKind) (source : FaultSource) (detail : Option Detail) :
    (reportIfDue kind source detail s).chu.tone = s.chu.tone := by
  cases detail with
  | none => rfl
  | some d => exact report_tone s _

/-- The tone voice after a boundary: its phase goes on through an audible block and else restarts (R156). -/
theorem settleBlock_tone : (settleBlock s).chu.tone = s.chu.tone.settle s.lyu.committed.toneHalfPeriod := by
  obtain ⟨-, -, tone, -⟩ := Chu.kick_keeps (chimeStore s) (settledChu s).voiceTake
  rw [settleBlock_eq, reportIfDue_tone, reportIfDue_tone, reportIfDue_tone, blockSettled_chu, tone, Chu.voiceTake_tone, settledChu,
    Chu.settleVoice_tone]

theorem Tone.audible_iff (t : Tone) : t.audible = true ↔ toneHeard t := by simp [Tone.audible, toneHeard]

/-! ## The samples (R161) -/

theorem saturate_toInt (n : Int) : (saturate n).toInt = clamped n := by
  unfold saturate clamped
  exact BitVec.toInt_ofInt_eq_self (by decide) (by simp) (by simp)

theorem sshiftRight_toInt (x : Sample) (n : Nat) : (x.sshiftRight n).toInt = x.toInt / 2 ^ n := by
  rw [BitVec.toInt_sshiftRight, Int.shiftRight_eq_div_pow]
  norm_cast

theorem filmSample_eq (playing : Option (List Byte)) (off : Nat) (ducked : Bool) (shift : Nat) :
    filmSample playing off ducked shift = filmPart playing off ducked shift := by
  cases playing with
  | none => rfl
  | some data => simp only [filmSample, filmPart, sshiftRight_toInt]

theorem Voice.sample_eq (v : Voice) (i : Nat) : v.sample i = clipPart v i := by
  unfold Voice.sample clipPart
  simp only [sshiftRight_toInt]
  cases v.state <;> cases v.current <;> rfl

/-- A mixed frame carries the mix of R161. -/
theorem mixFrame_mixed (l : Layout) (o : Aop) (c : Chu) (tone : Tone) (i : Nat) :
    MixedFrame (mixFrame l o c tone i) l o (clipPart c.voice i) (tone.sample l.toneHalfPeriod i) i := by
  unfold MixedFrame mixFrame
  cases l.rrSource <;> simp [saturate_toInt, filmSample_eq, Voice.sample_eq]

/-! ## A channel at the boundary (R159) -/

/-- The same block sounds: the ducks, the block, and of each channel all but its fetch. -/
structure Aop.SoundsAs (o p : Aop) : Prop where
  duckHa : p.duckHa = o.duckHa
  duckHb : p.duckHb = o.duckHb
  tdm : p.tdm = o.tdm
  channel : ∀ x, ∃ fetch : Option AudioFetch, p.channels.get x = { o.channels.get x with fetch := fetch }

theorem Aop.setFetch_channel (o : Aop) (x y : Channel) (f : Option AudioFetch) :
    ∃ fetch : Option AudioFetch, (o.setFetch x f).channels.get y = { o.channels.get y with fetch := fetch } := by
  unfold Aop.setFetch
  dsimp only
  rw [PerChannel.get_set]
  split
  · next same => exact ⟨f, by rw [same]⟩
  · exact ⟨_, rfl⟩

theorem aopKick_soundsAs : s.aop.SoundsAs (aopKick s).aop := by
  unfold aopKick
  split
  · exact ⟨rfl, rfl, rfl, fun x => ⟨_, rfl⟩⟩
  · split
    · exact ⟨rfl, rfl, rfl, fun x => ⟨_, rfl⟩⟩
    · exact ⟨rfl, rfl, rfl, fun x => s.aop.setFetch_channel _ x _⟩
  · exact ⟨rfl, rfl, rfl, fun x => ⟨_, rfl⟩⟩

theorem Aop.giveUp_ducks (o : Aop) (x : Channel) : (o.giveUp x).duckHa = o.duckHa ∧ (o.giveUp x).duckHb = o.duckHb := by
  unfold Aop.giveUp
  dsimp only
  split <;> exact ⟨rfl, rfl⟩

theorem Aop.settle_ducks (o : Aop) (x : Channel) (state : ChannelState) :
    (o.settle x state).1.duckHa = o.duckHa ∧ (o.settle x state).1.duckHb = o.duckHb := by
  unfold Aop.settle
  split
  · unfold Aop.settlePlaying
    dsimp only
    split
    · exact ⟨rfl, rfl⟩
    · split
      · split
        · exact o.giveUp_ducks x
        · exact ⟨rfl, rfl⟩
      · exact ⟨rfl, rfl⟩
  all_goals exact ⟨rfl, rfl⟩

theorem Aop.settle_quiet {o : Aop} {x : Channel} {state : ChannelState} (quiet : state ≠ .playing) :
    o.settle x state = ({ o with channels := o.channels.set x { o.channels.get x with playing := none } }, none) := by
  cases state with
  | playing => exact absurd rfl quiet
  | idle | priming | paused | ended => rfl

/-- A channel settles in its own record. -/
theorem Aop.settle_channels (o : Aop) (x : Channel) (state : ChannelState) :
    ∃ c : AudioChannel, (o.settle x state).1.channels = o.channels.set x c := by
  by_cases playing : state = .playing
  · rw [playing]
    cases hand : (o.channels.get x).buffered (o.channels.get x).consumer with
    | some b => exact ⟨_, congrArg (fun r => r.1.channels) (Aop.settlePlaying_played hand)⟩
    | none =>
      obtain ⟨fetch, channels, -⟩ := Aop.settlePlaying_missed hand
      exact ⟨_, channels⟩
  · rw [Aop.settle_quiet playing]
    exact ⟨_, rfl⟩

/-- The detail of the report that a channel's settling makes due. -/
def settledDetail : Channel → Option Detail
  | .a => (settledA s).2
  | .b => (settledB s).2

/-- Each channel settles from the record it had, whatever the other one does. -/
theorem settledB_channel (x : Channel) : ∃ o : Aop, o.channels.get x = s.aop.channels.get x ∧
    (settledB s).1.channels.get x = (o.settle x (s.fsq.get x).state).1.channels.get x ∧
    settledDetail s x = (o.settle x (s.fsq.get x).state).2 := by
  obtain ⟨ca, first⟩ := (ducked s).settle_channels .a s.fsq.a.state
  obtain ⟨cb, second⟩ := (settledA s).1.settle_channels .b s.fsq.b.state
  cases x with
  | a => exact ⟨ducked s, rfl, by rw [settledB, second, PerChannel.get_set_other _ _ (by decide)]; rfl, rfl⟩
  | b => exact ⟨(settledA s).1, by rw [settledA, first, PerChannel.get_set_other _ _ (by decide)]; rfl, rfl, rfl⟩

variable {s}

section Channels

variable {x : Channel}

theorem settledB_quiet (quiet : (s.fsq.get x).state ≠ .playing) :
    (settledB s).1.channels.get x = { s.aop.channels.get x with playing := none } ∧ settledDetail s x = none := by
  obtain ⟨o, same, channel, detail⟩ := settledB_channel s x
  rw [Aop.settle_quiet quiet, PerChannel.get_set_same, same] at channel
  rw [Aop.settle_quiet quiet] at detail
  exact ⟨channel, detail⟩

theorem settledB_played {b : AudioBlock} (playing : (s.fsq.get x).state = .playing)
    (hand : (s.aop.channels.get x).buffered (s.aop.channels.get x).consumer = some b) :
    (settledB s).1.channels.get x = (s.aop.channels.get x).played b ∧ settledDetail s x = none := by
  obtain ⟨o, same, channel, detail⟩ := settledB_channel s x
  rw [← same] at hand ⊢
  rw [playing, Aop.settle, Aop.settlePlaying_played hand] at channel detail
  rw [PerChannel.get_set_same] at channel
  exact ⟨channel, detail⟩

theorem settledB_missed (playing : (s.fsq.get x).state = .playing)
    (hand : (s.aop.channels.get x).buffered (s.aop.channels.get x).consumer = none) :
    (∃ fetch : Option AudioFetch, (settledB s).1.channels.get x = (s.aop.channels.get x).missed fetch) ∧
      settledDetail s x = (if (s.aop.channels.get x).underrun then none
        else some (.underrun ((s.aop.channels.get x).inRing (s.aop.channels.get x).consumer) x (s.aop.channels.get x).consumer)) := by
  obtain ⟨o, same, channel, detail⟩ := settledB_channel s x
  rw [← same] at hand ⊢
  obtain ⟨fetch, missed, -, -, due⟩ := Aop.settlePlaying_missed hand
  rw [playing] at channel detail
  refine ⟨⟨fetch, channel.trans ?_⟩, detail.trans due⟩
  rw [Aop.settle, missed, PerChannel.get_set_same]

/-- AUDIO_UNDERRUN is due once in a run of underruns (R159). -/
theorem settledDetail_due (due : UnderrunDue s x) : settledDetail s x =
    some (.underrun ((s.aop.channels.get x).inRing (s.aop.channels.get x).consumer) x (s.aop.channels.get x).consumer) := by
  obtain ⟨playing, hand, underrun⟩ := due
  obtain ⟨-, detail⟩ := settledB_missed playing hand
  rw [detail, underrun]
  rfl

theorem settledDetail_none (rests : ¬ UnderrunDue s x) : settledDetail s x = none := by
  by_cases playing : (s.fsq.get x).state = .playing
  · cases hand : (s.aop.channels.get x).buffered (s.aop.channels.get x).consumer with
    | some b => exact (settledB_played playing hand).2
    | none =>
      obtain ⟨-, detail⟩ := settledB_missed playing hand
      have reported : (s.aop.channels.get x).underrun = true := by
        cases underrun : (s.aop.channels.get x).underrun with
        | true => rfl
        | false => exact absurd ⟨playing, hand, underrun⟩ rests
      rw [detail, reported]
      rfl
  · exact (settledB_quiet playing).2

/-- What follows from the detail is the report of R159, when it is due. -/
theorem reportIfDue_underrun {u ux : State} (due : UnderrunDue s x → ux = report (underrunReport s x) u) (rests : ¬ UnderrunDue s x → ux = u) :
    reportIfDue .audioUnderrun .audio (settledDetail s x) u = ux := by
  by_cases h : UnderrunDue s x
  · rw [settledDetail_due h, due h]
    rfl
  · rw [settledDetail_none h, rests h]
    rfl

end Channels

/-! ## AOP after the boundary (R146, R160, R161) -/

theorem settleBlock_aop : (settleBlock s).aop = (blockSettled s).aop := by
  have kept : ∀ (kind : FaultKind) (source : FaultSource) (detail : Option Detail) (u : State),
      (reportIfDue kind source detail u).aop = u.aop := fun kind source detail u =>
    (drainStands_reportIfDue kind source detail u).2 .aop (by decide)
  rw [settleBlock_eq, kept, kept, kept]

theorem settleBlock_soundsAs (s : State) : (mixedAop s).SoundsAs (settleBlock s).aop := by
  have kicked := aopKick_soundsAs (setAop (mixedAop s) (settleChu (settledChu s) s))
  rw [setAop_aop] at kicked
  rw [settleBlock_aop]
  exact kicked

/-- Each headphone is ducked while the clip voice plays a clip whose route includes it (R160). -/
theorem mixedAop_ducks (s : State) : (mixedAop s).duckHa = s.chu.settleVoice.1.voice.duckDemand.ha ∧
    (mixedAop s).duckHb = s.chu.settleVoice.1.voice.duckDemand.hb := by
  obtain ⟨ha, hb⟩ := (ducked s).settle_ducks .a s.fsq.a.state
  obtain ⟨ha', hb'⟩ := (settledA s).1.settle_ducks .b s.fsq.b.state
  exact ⟨ha'.trans ha, hb'.trans hb⟩

theorem Voice.duckDemand_eq (v : Voice) :
    v.duckDemand.ha = (v.state == .playing && v.chime.route.ha) ∧ v.duckDemand.hb = (v.state == .playing && v.chime.route.hb) := by
  unfold Voice.duckDemand
  cases v.state <;> exact ⟨rfl, rfl⟩

/-- The mix of a frame speaks of the ducks and the playing blocks alone. -/
theorem MixedFrame.soundsAs {f : TdmFrame} {l : Layout} {o p : Aop} {clip tone : Int} {i : Nat} (same : o.SoundsAs p)
    (mixed : MixedFrame f l o clip tone i) : MixedFrame f l p clip tone i := by
  have playing : ∀ x, (p.channels.get x).playing = (o.channels.get x).playing := fun x => by
    obtain ⟨fetch, channel⟩ := same.channel x
    rw [channel]
  have playingA : p.channels.a.playing = o.channels.a.playing := playing .a
  have playingB : p.channels.b.playing = o.channels.b.playing := playing .b
  unfold MixedFrame at mixed ⊢
  rw [playingA, playingB, same.duckHa, same.duckHb]
  exact mixed

/-- Frame i of the block is the mix of sample frame i (R161). -/
theorem settleBlock_frame {i : Nat} (hi : i < 256) :
    ∃ f : TdmFrame, (settleBlock s).aop.tdm[i]? = some f ∧ MixedFrame f s.lyu.committed (settleBlock s).aop
      (clipPart s.chu.settleVoice.1.voice i) (s.chu.tone.sample s.lyu.committed.toneHalfPeriod i) i := by
  have same := settleBlock_soundsAs s
  refine ⟨mixFrame s.lyu.committed (settledB s).1 (settledChu s) s.chu.settleVoice.1.tone i, ?_, MixedFrame.soundsAs same ?_⟩
  · rw [same.tdm, mixedAop]
    dsimp only
    rw [List.getElem?_map, List.getElem?_range hi]
    rfl
  · rw [← s.chu.settleVoice_tone]
    exact mixFrame_mixed _ _ _ _ i

/-! ## The statement -/

/-- A held AOP sends a silent block and does nothing else (R163). -/
theorem exec_blockBoundary_held (held : s.aop.held = true) (waits : NotLast s [s.rqe.drain, s.ccp.drain]) :
    exec .blockBoundary s = .next { s with aop := { s.aop with tdm := silentBlock } } := by
  have silent : blockBoundary s = { s with aop := { s.aop with tdm := silentBlock } } := if_pos held
  have rests : checkDrain (blockBoundary s) = blockBoundary s := by
    rw [silent]
    exact checkDrain_of_notLast (others := [s.rqe.drain, s.ccp.drain]) waits (by simp)
  rw [← silent, ← rests]
  rfl

/-- Settles O59: the boundary's parts are settled one by one (the tone voice, each channel from its own record, the mix), and what follows
them, the next claim and the reports, leaves them. -/
theorem blockBoundarySettlesTheBlock : Obligations.BlockBoundarySettlesTheBlock := by
  refine ⟨fun s held waits => ⟨_, exec_blockBoundary_held held waits, rfl, ?held⟩, fun s free waits => ?settles⟩
  case held =>
    intro b hb
    cases b <;> first | rfl | exact absurd (by simp) hb
  case settles =>
    have beside := settleBlock_reportsBeside s
    have fmc : (settleBlock s).fmc = s.fmc := beside .fmc (by decide)
    have same := settleBlock_soundsAs s
    obtain ⟨ha, hb⟩ := mixedAop_ducks s
    obtain ⟨demandHa, demandHb⟩ := s.chu.settleVoice.1.voice.duckDemand_eq
    refine ⟨settleBlock s, exec_blockBoundary_settles free waits, ?_, by rw [MemoryKept, fmc]; exact ⟨rfl, rfl⟩,
      (same.duckHa.trans ha).trans demandHa, (same.duckHb.trans hb).trans demandHb, fun x quiet => ?quiet,
      fun x b playing hand => ?played, fun x playing hand => ?missed, fun tone => ⟨fun heard => ?heard, fun silent => ?silent,
        fun i hi sounds rests => ?frame⟩, fun u ua ub hu dueA restsA dueB restsB => ?reports, beside⟩
    · rw [same.tdm, mixedAop]
      simp
    case quiet =>
      obtain ⟨fetch, channel⟩ := same.channel x
      obtain ⟨settled, -⟩ := settledB_quiet quiet
      rw [channel, show (mixedAop s).channels = (settledB s).1.channels from rfl, settled]
      exact ⟨rfl, rfl, rfl⟩
    case played =>
      obtain ⟨fetch, channel⟩ := same.channel x
      obtain ⟨settled, -⟩ := settledB_played playing hand
      rw [channel, show (mixedAop s).channels = (settledB s).1.channels from rfl, settled]
      exact ⟨rfl, rfl, rfl⟩
    case missed =>
      obtain ⟨fetch, channel⟩ := same.channel x
      obtain ⟨⟨fetch', settled⟩, -⟩ := settledB_missed playing hand
      rw [channel, show (mixedAop s).channels = (settledB s).1.channels from rfl, settled]
      exact ⟨rfl, rfl, rfl⟩
    case heard => rw [settleBlock_tone, Tone.settle, if_pos (s.chu.tone.audible_iff.mpr heard)]
    case silent => rw [settleBlock_tone, Tone.settle, if_neg (mt s.chu.tone.audible_iff.mp silent)]
    case frame =>
      have sample : tone = s.chu.tone.sample s.lyu.committed.toneHalfPeriod i := by
        by_cases heard : toneHeard s.chu.tone
        · rw [sounds heard, Tone.sample, if_pos (s.chu.tone.audible_iff.mpr heard)]
        · rw [rests heard, Tone.sample, if_neg (mt s.chu.tone.audible_iff.mp heard)]
      rw [sample]
      exact settleBlock_frame hi
    case reports =>
      have late : reportIfDue .chimeUnderrun .chime s.chu.settleVoice.2 s = u := by
        rw [hu]
        cases s.chu.settleVoice.2 <;> rfl
      rw [settleBlock_flt, late, show (settledA s).2 = settledDetail s .a from rfl, show (settledB s).2 = settledDetail s .b from rfl,
        reportIfDue_underrun dueA restsA, reportIfDue_underrun dueB restsB]

end Sys2Proof.Machine
end

section
/-! SUPPORT. CHIME_PLAY at its dispatch: the insertion rule as it leaves the queue, the voice take that follows, and the answer (R147, R148,
R151). -/

namespace Sys2Proof.Machine

variable {c d : Chu} {n : Chime} {keep : Bool}

/-! ## A fresh arrival (R147, log 25) -/

/-- The arrival of the next fresh chime: the arrival count, or the number of stamps in use at its end. -/
def Chu.nextArrival (c : Chu) : Nat := if 65535 < c.arrivals then c.stamps.length else c.arrivals

/-- CHU as a fresh chime finds it: renumbered at the end of the arrival count. -/
def Chu.readied (c : Chu) : Chu := if 65535 < c.arrivals then c.renumber else c

theorem Chu.place_fresh (c : Chu) (n : Chime) : c.place n false = { c.readied with
    queue := placeChime { n with arrival := c.nextArrival } c.readied.queue, arrivals := c.nextArrival + 1 } := by
  unfold Chu.nextArrival Chu.readied
  by_cases ended : 65535 < c.arrivals
  · rw [if_pos ended, if_pos ended, Chu.place_renumbered ended]
  · rw [if_neg ended, if_neg ended, Chu.place_counted (Nat.le_of_not_lt ended)]

theorem Chu.readied_going (going : c.arrivals ≤ 65535) : c.readied = c := if_neg (Nat.not_lt.mpr going)

/-- Renumbering changes stamps alone. -/
theorem Chu.readied_keeps (c : Chu) : c.readied.voice.state = c.voice.state ∧ c.readied.drain = c.drain ∧ c.readied.held = c.held ∧
    c.readied.dropped = c.dropped ∧ c.readied.fetch = c.fetch ∧ c.readied.claim = c.claim ∧
    c.readied.queue.map Chime.clip = c.queue.map Chime.clip := by
  unfold Chu.readied
  split
  · exact ⟨rfl, rfl, rfl, rfl, rfl, rfl, by simp [Chu.renumber, Function.comp_def]⟩
  · exact ⟨rfl, rfl, rfl, rfl, rfl, rfl, rfl⟩

theorem Chu.readied_length (c : Chu) : c.readied.queue.length = c.queue.length := by
  obtain ⟨-, -, -, -, -, -, clips⟩ := c.readied_keeps
  simpa using congrArg List.length clips

/-- A fresh chime in the queue beside the entries that were there. -/
theorem Chu.place_spec (c : Chu) (n : Chime) : (c.place n false).queue.length = c.queue.length + 1 ∧
    (c.place n false).dropped = c.dropped ∧ { n with arrival := c.nextArrival } ∈ (c.place n false).queue ∧
    (c.place n false).arrivals = c.nextArrival + 1 ∧
    (∀ q ∈ (c.place n false).queue, q.clip = n.clip ∨ q.clip ∈ c.queue.map Chime.clip) ∧
    (c.arrivals ≤ 65535 → (c.place n false).voice = c.voice ∧ ∀ q ∈ c.queue, q ∈ (c.place n false).queue) := by
  obtain ⟨-, -, -, dropped, -, -, clips⟩ := c.readied_keeps
  rw [Chu.place_fresh]
  refine ⟨by simp [c.readied_length], dropped, by simp, rfl, fun q hq => ?_, fun going => ?_⟩
  · rcases mem_placeChime.mp hq with rfl | old
    · exact .inl rfl
    · exact .inr (clips ▸ List.mem_map_of_mem old)
  · rw [Chu.readied_going going]
    exact ⟨rfl, fun q hq => mem_placeChime.mpr (.inr hq)⟩

/-! ## The insertion rule (R147) -/

theorem Chu.place_takesNone : (c.place n keep).takesNone ↔ c.takesNone := by
  cases keep with
  | true => rfl
  | false =>
    obtain ⟨state, drain, held, -⟩ := c.readied_keeps
    rw [Chu.place_fresh, Chu.takesNone, Chu.takesNone, ← state, ← drain, ← held]

/-- An insertion does not change whether the voice takes a head. -/
theorem Chu.insert_takesNone : (c.insert n keep).2.takesNone ↔ c.takesNone := by
  unfold Chu.insert
  split
  · rfl
  · split
    · rfl
    · split
      · exact Chu.place_takesNone
      · split
        · split
          · exact Chu.place_takesNone
          · rfl
        · rfl

theorem length_filter_clip {l : List Chime} {q : Chime} (clips : (l.map Chime.clip).Nodup) (hq : q ∈ l) :
    (l.filter fun e => !(e.clip == q.clip)).length + 1 = l.length := by
  have once : (l.filter fun e => e.clip == q.clip).length = 1 := by
    rw [← List.countP_eq_length_filter, ← List.count_eq_one_of_mem clips (List.mem_map_of_mem hq), List.count, List.countP_map]
    rfl
  rw [List.length_eq_length_filter_add (l := l) fun e => e.clip == q.clip, once, Nat.add_comm]

/-- A chime for a queued clip changes that entry alone. -/
theorem Chu.Ordered.insert_merges (h : c.Ordered) {q : Chime} (apart : c.voice.holds n.clip = false) (hq : q ∈ c.queue)
    (clip : q.clip = n.clip) :
    ∃ d : Chu, c.insert n keep = (true, d) ∧ d.queue.length = c.queue.length ∧ d.dropped = c.dropped ∧ d.voice = c.voice ∧
      q.merge n ∈ d.queue ∧ ∀ a : Chime, a.clip ≠ n.clip → (a ∈ d.queue ↔ a ∈ c.queue) := by
  refine ⟨_, Chu.insert_merges apart hq clip h.clips, ?_, rfl, rfl, by simp, fun a other => ?_⟩
  · rw [length_placeChime, ← clip]
    exact length_filter_clip h.clips hq
  · have differs : a ≠ q.merge n := fun same => other ((congrArg Chime.clip same).trans clip)
    simp [differs, other]

/-- With a full queue a chime takes the place of the last entry, which has a lower priority. -/
theorem Chu.Ordered.insert_evicts (h : c.Ordered) {kept : List Chime} {last : Chime} (apart : c.voice.holds n.clip = false)
    (new : ∀ q ∈ c.queue, q.clip ≠ n.clip) (full : c.queue.length = 8) (queue : c.queue = kept ++ [last]) (lower : last.priority < n.priority) :
    ∃ d : Chu, c.insert n false = (true, d) ∧ d.queue.length = 8 ∧ d.dropped = c.dropped + 1 ∧ (∀ q ∈ d.queue, q.clip ≠ last.clip) ∧
      (c.arrivals ≤ 65535 → d.voice = c.voice ∧ { n with arrival := c.arrivals } ∈ d.queue ∧ ∀ q ∈ kept, q ∈ d.queue) := by
  obtain ⟨length, dropped, placed, -, clips, going⟩ := Chu.place_spec { c with queue := kept, dropped := c.dropped + 1 } n
  refine ⟨_, (Chu.insert_full apart new full.ge queue).trans (if_pos lower), ?_, dropped, fun q hq same => ?_, fun counts => ?_⟩
  · rw [queue] at full
    exact length.trans (by simpa using full)
  · have distinct := h.clips
    rw [queue] at distinct
    rcases clips q hq with asked | old
    · exact new last (by simp [queue]) (same.symm.trans asked)
    · rw [same] at old
      simp only [List.map_append, List.map_cons, List.map_nil] at distinct
      exact (List.disjoint_of_nodup_append distinct old) (by simp)
  · obtain ⟨voice, stays⟩ := going counts
    refine ⟨voice, ?_, stays⟩
    rw [Chu.nextArrival, if_neg (Nat.not_lt.mpr counts)] at placed
    exact placed

/-- With a full queue and no entry of lower priority a chime is refused (R147). -/
theorem Chu.insert_refuses (apart : c.voice.holds n.clip = false) (higher : ∀ q ∈ c.queue, q.clip ≠ n.clip ∧ n.priority ≤ q.priority)
    (full : c.queue.length = 8) : c.insert n keep = (false, c) := by
  rcases List.eq_nil_or_concat c.queue with empty | ⟨kept, last, queue⟩
  · rw [empty] at full
    cases full
  · rw [List.concat_eq_append] at queue
    obtain ⟨-, stands⟩ := higher last (by simp [queue])
    exact (Chu.insert_full apart (fun q hq => (higher q hq).1) full.ge queue).trans (if_neg (Nat.not_lt.mpr stands))

/-! ## What follows an insertion (R151) -/

/-- A voice that takes none leaves queue, voice and counts as the insertion left them. -/
theorem Chu.settled_rests (rests : c.takesNone) (store : Option Region) :
    (c.voiceTake.kick store).queue = c.queue ∧ (c.voiceTake.kick store).voice = c.voice ∧ (c.voiceTake.kick store).dropped = c.dropped ∧
      (c.voiceTake.kick store).arrivals = c.arrivals := by
  rw [Chu.voiceTake_rests (.inl rests)]
  obtain ⟨queue, voice, -, dropped, arrivals, -⟩ := c.kick_keeps store
  exact ⟨queue, voice, dropped, arrivals⟩

/-- A chime that an IDLE voice finds alone in the queue is taken, and its directory entry is claimed. -/
theorem Chu.settled_takes {only : Chime} (idle : c.voice.state = .idle) (drain : c.drain = .none) (held : c.held = false)
    (queue : c.queue = [only]) (store : Option Region) :
    (c.voiceTake.kick store).queue = [] ∧ (c.voiceTake.kick store).voice = c.voice.taking only ∧
      (c.voiceTake.kick store).dropped = c.dropped ∧
      (c.fetch = none → c.claim = .idle → (c.voiceTake.kick store).fetch = some ⟨.directory, false, 0, []⟩ ∧
        (c.voiceTake.kick store).claim = .waiting ⟨rowBase store + 16 * only.clip, 1⟩) := by
  rw [Chu.voiceTake_takes idle drain held queue]
  obtain ⟨queue', voice, -, dropped, -⟩ := Chu.kick_keeps store { c with queue := [], voice := c.voice.taking only }
  refine ⟨queue', voice, dropped, fun fetch claim => ?_⟩
  rw [Chu.kick_starts (c := { c with queue := [], voice := c.voice.taking only }) store claim fetch (Voice.taking_need _ _)]
  exact ⟨rfl, rfl⟩

/-! ## The dispatch (R148) -/

section Play

variable {s : State} {index : Count} {e : List Byte}

theorem exec_chimePlay {u : State} {code : ResultCode} {blocks : List Block} (h : EntryFetched s index e) (source : s.lyu.source = .host)
    (kind : get16 e 0 = 13)
    (acts : requestChimePlay (get8 e 4) (get8 e 5) (get8 e 6) (get8 e 7) (get8 e 8) (dispatchState e s) = (u, code))
    (work : Works blocks (dispatchState e s) u) (calm : u.lyu.phase = s.lyu.phase) :
    exec .entryFetchComplete s = .next (giveResult code u) ∧ Answered code index s (giveResult code u) := by
  have dispatch : dispatchKind (get16 e 0) e (dispatchState e s) = some (u, some code) := by
    rw [kind]
    exact congrArg (fun r => some (answered r)) acts
  exact exec_dispatch h (by rw [kind]; rfl) (.inl source) dispatch work calm

/-- A chime in range goes through the insertion rule; the voice take and the next claim follow (R147, R151). -/
theorem exec_chimePlay_inserts {ok : Bool} (h : EntryFetched s index e) (source : s.lyu.source = .host) (kind : get16 e 0 = 13)
    (clip : get8 e 4 ≤ 31) (priority : get8 e 5 ≤ 7) (plays : get8 e 6 ≤ 15) (inserts : s.chu.insert (askedChime e 0) false = (ok, d)) :
    ∃ t : State, exec .entryFetchComplete s = .next t ∧ ChangesOnly [.fmc, .rqe, .stw, .chu] s t ∧
      Answered (if ok then .ok else .queueFull) index s t ∧ t.chu = d.voiceTake.kick (chimeStore s) := by
  have acts : requestChimePlay (get8 e 4) (get8 e 5) (get8 e 6) (get8 e 7) (get8 e 8) (dispatchState e s) =
      (settleChu d (dispatchState e s), if ok then .ok else .queueFull) := by
    have inserts' : (dispatchState e s).chu.insert (askedChime e 0) false = (ok, d) := inserts
    unfold requestChimePlay
    rw [if_neg (by omega)]
    unfold askedChime at inserts'
    rw [inserts']
    cases ok <;> rfl
  have work : Works [.chu, .stw] (dispatchState e s) (settleChu d (dispatchState e s)) := works_setChu _ _
  have lyu : (settleChu d (dispatchState e s)).lyu = s.lyu := work.only .lyu (by decide)
  obtain ⟨runs, answers⟩ := exec_chimePlay h source kind acts work (by rw [lyu])
  refine ⟨_, runs, (dispatch_changesOnly work).mono (by simp), answers, ?_⟩
  rw [giveResult_chu, settleChu_chu]
  rfl

/-! ## The statement -/

/-- Settles O36: the insertion rule by its cases, each with what the voice take leaves of it. -/
theorem chimePlayIsInserted : Obligations.ChimePlayIsInserted := by
  intro s index e arrival h source kind safe stamp
  have ordered := (chimesSafe_iff s).mp safe
  have asked : { askedChime e 0 with arrival := s.chu.nextArrival } = askedChime e arrival := by rw [stamp]; rfl
  refine ⟨fun outside => ?bad, fun clip priority plays => ?inserted⟩
  case bad =>
    obtain ⟨runs, answers⟩ := exec_chimePlay h source kind (if_pos outside) (.refl [] _) rfl
    exact ⟨_, runs, answers, refused_changesOnly⟩
  case inserted =>
    rcases inserts : s.chu.insert (askedChime e 0) false with ⟨ok, d⟩
    have sorted : d.Ordered := by
      have := ordered.insert (Chu.OwnArrival.fresh s.chu (askedChime e 0))
      rwa [inserts] at this
    have still : s.chu.takesNone → d.takesNone := fun none => by
      have := (Chu.insert_takesNone (n := askedChime e 0) (keep := false)).mpr none
      rwa [inserts] at this
    obtain ⟨t, runs, only, answers, chu⟩ := exec_chimePlay_inserts h source kind clip priority plays inserts
    refine ⟨t, runs, only, fun busy same => ?joins, fun none other => ?rests, fun idle drain held queue => ?takes⟩
    case joins =>
      obtain ⟨rfl, rfl⟩ := Prod.mk.inj ((Chu.insert_joins ((Voice.holds_iff _ _).mpr ⟨busy, same⟩)).symm.trans inserts)
      obtain ⟨queue, voice, dropped, -⟩ := Chu.settled_rests (still (.inl busy)) (chimeStore s)
      rw [chu]
      exact ⟨answers, queue, dropped, voice⟩
    case rests =>
      have apart : s.chu.voice.holds (askedChime e 0).clip = false := (Voice.holds_eq_false _ _).mpr other
      obtain ⟨queue, voice, dropped, arrivals⟩ := Chu.settled_rests (still none) (chimeStore s)
      rw [chu, queue, voice, dropped, arrivals]
      refine ⟨fun q hq same => ?merges, fun new room => ?places, fun kept last new full ends lower => ?evicts, fun higher full => ?refuses⟩
      case merges =>
        obtain ⟨d', merges, length, dropped', voice', merged, others⟩ := ordered.insert_merges (keep := false) apart hq same
        obtain ⟨rfl, rfl⟩ := Prod.mk.inj (merges.symm.trans inserts)
        exact ⟨answers, length, dropped', voice', sorted.sorted, merged, others⟩
      case places =>
        obtain ⟨rfl, rfl⟩ := Prod.mk.inj ((Chu.insert_places apart new room).symm.trans inserts)
        obtain ⟨length, dropped', placed, arrivals', -, going⟩ := s.chu.place_spec (askedChime e 0)
        rw [asked] at placed
        exact ⟨answers, length, dropped', sorted.sorted, placed, arrivals'.trans (by rw [stamp]; rfl), going⟩
      case evicts =>
        obtain ⟨d', evicts, length, dropped', gone, going⟩ := ordered.insert_evicts apart new full ends lower
        obtain ⟨rfl, rfl⟩ := Prod.mk.inj (evicts.symm.trans inserts)
        refine ⟨answers, length, dropped', sorted.sorted, gone, fun counts => ?_⟩
        obtain ⟨voice', placed, stays⟩ := going counts
        rw [if_neg (Nat.not_lt.mpr counts)] at stamp
        rw [stamp]
        exact ⟨voice', placed, stays⟩
      case refuses =>
        obtain ⟨rfl, rfl⟩ := Prod.mk.inj ((Chu.insert_refuses apart higher full).symm.trans inserts)
        exact ⟨answers, rfl, rfl, rfl⟩
    case takes =>
      have apart : s.chu.voice.holds (askedChime e 0).clip = false := (Voice.holds_eq_false _ _).mpr fun busy => absurd idle busy
      obtain ⟨rfl, rfl⟩ := Prod.mk.inj ((Chu.insert_places apart (by simp [queue]) (by simp [queue])).symm.trans inserts)
      obtain ⟨state, drain', held', dropped, fetch, claim, -⟩ := s.chu.readied_keeps
      have empty : s.chu.readied.queue = [] := by
        rw [← List.length_eq_zero_iff, s.chu.readied_length, queue]
        rfl
      have placed := s.chu.place_fresh (askedChime e 0)
      rw [asked, empty] at placed
      rw [placed] at chu
      obtain ⟨queue', voice', dropped', claims⟩ := Chu.settled_takes (c := { s.chu.readied with
        queue := placeChime (askedChime e arrival) [], arrivals := s.chu.nextArrival + 1 }) (only := askedChime e arrival)
        (state.trans idle) (drain'.trans drain) (held'.trans held) rfl (chimeStore s)
      rw [chu, queue', voice', dropped']
      exact ⟨answers, rfl, dropped, rfl, rfl, rfl, rfl, rfl, rfl, rfl, fun fetch' claim' => claims (fetch.trans fetch') (claim.trans claim')⟩

end Play

end Sys2Proof.Machine
end

section
/-! SUPPORT. The completions of the clip fetches and of the audio fetches (R151, R152, R158). -/

namespace Sys2Proof.Machine

variable {s : State} {beats : List ReadBeat}

/-! ## The five checks (R151) -/

theorem clipEntryFailure_eq_none (beats : List ReadBeat) (storePages : Nat) :
    clipEntryFailure beats storePages = none ↔ anyPoison beats = false ∧ ValidClipEntry (beatData beats) storePages := by
  have valid : ValidClipEntry (beatData beats) storePages ↔ get32 (beatData beats) 0 ≠ 0 ∧
      ¬ (get16 (beatData beats) 4 = 0 ∨ 4095 < get16 (beatData beats) 4) ∧ ¬ 15 < get8 (beatData beats) 6 ∧
      ¬ 8 * storePages < get32 (beatData beats) 0 + get16 (beatData beats) 4 := by
    refine ⟨fun ⟨offset, length, shift, store⟩ => ⟨offset, by omega, by omega, by omega⟩, fun ⟨offset, length, shift, store⟩ => ?_⟩
    exact ⟨offset, by omega, by omega, by omega⟩
  rw [valid]
  unfold clipEntryFailure
  dsimp only
  repeat' split
  all_goals simp_all

/-! ## CHU once a grant has ended -/

/-- CHU settles in the event of the grant that ends, and nothing beside FMC and STW changes. -/
theorem settleChu_ended (c : Chu) (s : State) : GrantEnded s (settleChu c (freeFmc s)) ∧
    ChangesOnly [.fmc, .chu, .stw] s (settleChu c (freeFmc s)) ∧ (settleChu c (freeFmc s)).chu = c.voiceTake.kick (chimeStore s) := by
  have settled := settleChu_changesOnly c (freeFmc s)
  exact ⟨settled .fmc (by decide), ((freeFmc_only s).mono (by simp)).trans (settled.mono (by simp)), settleChu_chu _ c⟩

/-- With its port free, a voice that lets go of its clip has no fetch in flight. -/
theorem Chu.silenceVoice_free {c : Chu} (free : c.claim = .idle) : c.silenceVoice.fetch = none ∧ c.silenceVoice.claim = .idle := by
  unfold Chu.silenceVoice Chu.giveUpFetch
  rw [free]
  exact ⟨rfl, rfl⟩

/-- With its port free, a voice that lets go of its clip takes the head of the queue and claims its directory entry (R151). -/
theorem Chu.silenced_kick_takes {c : Chu} {head : Chime} {rest : List Chime} (store : Option Region) (free : c.claim = .idle)
    (drain : c.drain = .none) (held : c.held = false) (queue : c.queue = head :: rest) :
    c.silenceVoice.voiceTake.kick store = { c.silenceVoice with
      queue := rest, voice := c.voice.taking head, fetch := some ⟨.directory, false, 0, []⟩
      claim := .waiting ⟨rowBase store + 16 * head.clip, 1⟩ } := by
  obtain ⟨fetch, claim⟩ := Chu.silenceVoice_free free
  rw [Chu.silenced_takes drain held queue]
  exact Chu.kick_starts (c := { c.silenceVoice with queue := rest, voice := c.voice.taking head }) store claim fetch (Voice.taking_need _ _)

/-- With no head to take it stays IDLE and claims nothing. -/
theorem Chu.silenced_kick_rests {c : Chu} (store : Option Region) (free : c.claim = .idle)
    (rests : c.queue = [] ∨ c.drain ≠ .none ∨ c.held = true) : c.silenceVoice.voiceTake.kick store = c.silenceVoice := by
  obtain ⟨fetch, claim⟩ := Chu.silenceVoice_free free
  obtain ⟨voice, -⟩ := c.silenceVoice_spec
  rw [Chu.silenced_rests rests]
  exact Chu.kick_rests store claim fetch (by rw [voice]; rfl)

/-! ## CLIP_DIRECTORY_FETCH_COMPLETE (R151) -/

/-- CHU once its claim has ended, with the voice and the fetch that are left. -/
def Chu.ended (c : Chu) (v : Voice) (fetch : Option ClipFetch) : Chu := { c with claim := .idle, fetch := fetch, voice := v }

/-- The voice with its directory entry, at block 0 (R151). -/
def Voice.withEntry (v : Voice) (e : ClipEntry) : Voice := { v with entry := some e, position := 0 }

/-- A busy voice takes no head. -/
theorem Chu.voiceTake_ended {c : Chu} {v : Voice} (busy : v.state ≠ .idle) (fetch : Option ClipFetch) :
    (c.ended v fetch).voiceTake = c.ended v fetch := Chu.voiceTake_rests (.inl (.inl busy))

theorem exec_clipDirectory_valid (busy : s.fmc.busy = some ⟨.clipDirectory, beats⟩) (live : s.chu.claim = .granted true)
    (fetch : s.chu.fetch = some ⟨.directory, false, 0, []⟩)
    (valid : clipEntryFailure beats (rowPages s.lyu.committed.map.chimeStore) = none) :
    exec .clipDirectoryFetchComplete s = .next (settleChu (s.chu.ended (s.chu.voice.withEntry
      (parseClipEntry (rowBase s.lyu.committed.map.chimeStore) (beatData beats))) none) (freeFmc s)) := by
  change execClipDirectoryFetchComplete s = _
  unfold execClipDirectoryFetchComplete
  simp only [busy, fetch, live, Claim.live, chimeStore, valid]
  rfl

theorem exec_clipDirectory_invalid {check : Nat} (busy : s.fmc.busy = some ⟨.clipDirectory, beats⟩) (live : s.chu.claim = .granted true)
    (fetch : s.chu.fetch = some ⟨.directory, false, 0, []⟩)
    (invalid : clipEntryFailure beats (rowPages s.lyu.committed.map.chimeStore) = some check) :
    exec .clipDirectoryFetchComplete s = .next (report ⟨.clipInvalid, .chime, .clipEntry s.chu.voice.chime.clip check, none⟩
      (settleChu (s.chu.ended s.chu.voice none).silenceVoice (freeFmc s))) := by
  change execClipDirectoryFetchComplete s = _
  unfold execClipDirectoryFetchComplete
  simp only [busy, fetch, live, Claim.live, chimeStore, invalid]
  rfl

/-- A STARTING voice with its entry needs block 0. -/
theorem Voice.need_first {v : Voice} {e : ClipEntry} (starting : v.state = .starting) (entry : v.entry = some e) (current : v.current = none) :
    v.need = some (.block 0) := by
  unfold Voice.need
  rw [starting, entry, current]
  rfl

/-! ## CLIP_BLOCK_FETCH_COMPLETE (R152) -/

section ClipBlock

variable {f : ClipFetch} {j : Nat} (busy : s.fmc.busy = some ⟨.clipBlock, beats⟩) (fetch : s.chu.fetch = some f)
  (target : f.target = .block j) (counts : f.givenUp = false) (live : s.chu.claim = .granted true)

include busy fetch counts live

theorem exec_clipBlock_goesOn (first : f.grants = 0) : exec .clipBlockFetchComplete s =
    .next (settleChu (s.chu.ended s.chu.voice (some { f with grants := 1, beats := f.beats ++ beats })) (freeFmc s)) := by
  change execClipBlockFetchComplete s = _
  unfold execClipBlockFetchComplete
  simp only [busy, fetch, counts, live, Claim.live, first]
  rfl

include target

theorem exec_clipBlock_fills (second : f.grants = 1) : exec .clipBlockFetchComplete s = .next (settleChu (s.chu.ended
    (s.chu.voice.takeBlock ⟨j, beatData (f.beats ++ beats), anyPoison (f.beats ++ beats)⟩) none) (freeFmc s)) := by
  change execClipBlockFetchComplete s = _
  unfold execClipBlockFetchComplete
  simp only [busy, fetch, counts, live, Claim.live, second, target]
  rfl

end ClipBlock

theorem Voice.takeBlock_state (v : Voice) (b : ClipBlock) : (v.takeBlock b).state = v.state := by
  unfold Voice.takeBlock
  split <;> rfl

/-! ## AUDIO_BLOCK_FETCH_COMPLETE (R158) -/

/-- AOP claims its next request in the event of the grant that ends, and keeps its rings. -/
theorem aopKick_ended (o : Aop) (s : State) : GrantEnded s (aopKick (setAop o (freeFmc s))) ∧
    ChangesOnly [.fmc, .aop, .stw] s (aopKick (setAop o (freeFmc s))) ∧ RingsKept o (aopKick (setAop o (freeFmc s))).aop := by
  have changed : ChangesOnly [.aop, .stw] (freeFmc s) (aopKick (setAop o (freeFmc s))) :=
    (setAop_changesOnly o _).trans ((aopKick_changesOnly _).mono (by simp))
  have rings := ringsKept_aopKick (setAop o (freeFmc s))
  rw [setAop_aop] at rings
  exact ⟨changed .fmc (by decide), ((freeFmc_only s).mono (by simp)).trans (changed.mono (by simp)), rings⟩

section Audio

variable {x : Channel} {f : AudioFetch}

/-- With a fetch in flight a kick changes no channel. -/
theorem aopKick_channels (flight : s.aop.inFlight = some (x, f)) : (aopKick s).aop.channels = s.aop.channels := by
  unfold aopKick
  rw [flight]
  split
  · rfl
  · next none => cases none
  · rfl

/-- The fetch in flight stays in flight when it is replaced. -/
theorem Aop.inFlight_setFetch {o : Aop} (flight : o.inFlight = some (x, f)) (g : AudioFetch) :
    (o.setFetch x (some g)).inFlight = some (x, g) := by
  unfold Aop.inFlight at flight
  split at flight
  · cases flight; rfl
  · next resting _ =>
    cases flight
    unfold Aop.inFlight
    rw [show (o.setFetch .b (some g)).channels.a.fetch = none from resting]
    rfl
  · cases flight

/-- AOP with its claim ended. -/
def Aop.claimEnded (o : Aop) : Aop := { o with claim := .idle }

section Completes

variable (busy : s.fmc.busy = some ⟨.audioBlock, beats⟩) (flight : s.aop.inFlight = some (x, f))

include busy flight

/-- The data of a fetch that no longer counts is discarded. -/
theorem exec_audioBlock_discards (dead : f.givenUp = true ∨ s.aop.claim.live = false) : exec .audioBlockFetchComplete s =
    .next (aopKick (setAop (s.aop.claimEnded.setFetch x none) (freeFmc s))) := by
  change execAudioBlockFetchComplete s = _
  unfold execAudioBlockFetchComplete
  simp only [busy, flight]
  rw [if_pos dead]
  rfl

theorem exec_audioBlock_goesOn (alive : ¬ (f.givenUp = true ∨ s.aop.claim.live = false)) (more : f.grants < 3) :
    exec .audioBlockFetchComplete s =
      .next (aopKick (setAop (s.aop.claimEnded.setFetch x (some { f with grants := f.grants + 1, beats := f.beats ++ beats })) (freeFmc s))) := by
  change execAudioBlockFetchComplete s = _
  unfold execAudioBlockFetchComplete
  simp only [busy, flight]
  rw [if_neg alive, if_pos (by omega)]
  rfl

/-- The channel with the fetched block in its ahead buffer. -/
def AudioChannel.filled (c : AudioChannel) (f : AudioFetch) (beats : List ReadBeat) : AudioChannel :=
  { c with fetch := none, ahead := c.ahead ++ [⟨f.index, beatData (f.beats ++ beats), anyPoison (f.beats ++ beats)⟩] }

theorem exec_audioBlock_fills (alive : ¬ (f.givenUp = true ∨ s.aop.claim.live = false)) (last : 3 ≤ f.grants) :
    exec .audioBlockFetchComplete s = .next (aopKick (setAop { s.aop.claimEnded with
      channels := s.aop.channels.set x ((s.aop.channels.get x).filled f beats) } (freeFmc s))) := by
  change execAudioBlockFetchComplete s = _
  unfold execAudioBlockFetchComplete
  simp only [busy, flight]
  rw [if_neg alive, if_neg (by omega)]
  rfl

end Completes

/-- The fetch that goes on stands with its grants and beats, and its next request is claimed (R158). -/
theorem audioFetch_goesOn (flight : s.aop.inFlight = some (x, f)) (g : AudioFetch) :
    ((aopKick (setAop (s.aop.claimEnded.setFetch x (some g)) (freeFmc s))).aop.channels.get x).fetch = some g ∧
    (s.aop.held = false → (aopKick (setAop (s.aop.claimEnded.setFetch x (some g)) (freeFmc s))).aop.claim =
      .waiting (audioRequest x s.lyu.committed g)) := by
  have flying : (setAop (s.aop.claimEnded.setFetch x (some g)) (freeFmc s)).aop.inFlight = some (x, g) := by
    rw [setAop_aop]
    exact Aop.inFlight_setFetch (o := s.aop.claimEnded) flight g
  have lyu : (setAop (s.aop.claimEnded.setFetch x (some g)) (freeFmc s)).lyu = s.lyu := setAop_changesOnly _ _ .lyu (by decide)
  constructor
  · rw [aopKick_channels flying, setAop_aop, Aop.setFetch, PerChannel.get_set_same]
  · intro free
    rw [aopKick_inFlight (by rw [setAop_aop]; exact free) (by rw [setAop_aop]; rfl) flying, lyu]

end Audio

/-! ## The statement -/

/-- Settles O57: each completion by the equation of its case, with the claim that follows it in the same event. -/
theorem clipAndAudioFetchesFillTheBuffers : Obligations.ClipAndAudioFetchesFillTheBuffers := by
  refine ⟨clipEntryFailure_eq_none, fun s beats busy live fetch starting current => ⟨fun valid => ?valid,
      fun check r invalid report => ?invalid⟩,
    fun s beats f j busy fetch target counts live playing => ⟨fun first => ?first, fun second => ?second⟩,
    fun s beats x f busy flight => ?audio⟩
  case valid =>
    obtain ⟨ended, only, chu⟩ := settleChu_ended (s.chu.ended (s.chu.voice.withEntry
      (parseClipEntry (rowBase s.lyu.committed.map.chimeStore) (beatData beats))) none) s
    rw [Chu.voiceTake_ended (v := s.chu.voice.withEntry _) (by simp [Voice.withEntry, starting]),
      Chu.kick_starts _ rfl rfl (Voice.need_first (v := s.chu.voice.withEntry _) starting rfl current)] at chu
    refine ⟨_, exec_clipDirectory_valid busy live fetch valid, ended, ?_, ?_, ?_, ?_, only⟩ <;> rw [chu] <;> rfl
  case invalid =>
    obtain ⟨ended, only, chu⟩ := settleChu_ended (s.chu.ended s.chu.voice none).silenceVoice s
    have reported := report_changesOnly r (settleChu (s.chu.ended s.chu.voice none).silenceVoice (freeFmc s))
    obtain ⟨-, -, tone, dropped, -⟩ := (s.chu.ended s.chu.voice none).silenceVoice_spec
    refine ⟨_, _, by rw [report]; exact exec_clipDirectory_invalid busy live fetch invalid, rfl, ?_,
      report_flt_congr r (only .flt (by decide)) (only .lyu (by decide)), fun rests => ?_, fun head rest queue drain held => ?_, ?_, ?_, only,
      (only.mono (by simp)).trans (reported.mono (by simp))⟩
    · exact (reported .fmc (by decide)).trans ended
    · rw [chu, Chu.silenced_kick_rests (c := s.chu.ended s.chu.voice none) _ rfl rests]
      obtain ⟨voice, queue, -⟩ := (s.chu.ended s.chu.voice none).silenceVoice_spec
      obtain ⟨fetch', claim⟩ := Chu.silenceVoice_free (c := s.chu.ended s.chu.voice none) rfl
      exact ⟨by rw [voice]; rfl, queue, fetch', claim⟩
    · rw [chu, Chu.silenced_kick_takes (c := s.chu.ended s.chu.voice none) _ rfl drain held queue]
      exact ⟨rfl, rfl, rfl, rfl, rfl, rfl, rfl⟩
    · obtain ⟨-, -, -, kicked, -⟩ := Chu.kick_keeps (chimeStore s) (s.chu.ended s.chu.voice none).silenceVoice.voiceTake
      rw [chu, kicked, Chu.voiceTake_dropped]
      exact dropped
    · obtain ⟨-, -, kicked, -⟩ := Chu.kick_keeps (chimeStore s) (s.chu.ended s.chu.voice none).silenceVoice.voiceTake
      rw [chu, kicked, Chu.voiceTake_tone]
      exact tone
  case first =>
    obtain ⟨ended, only, chu⟩ := settleChu_ended (s.chu.ended s.chu.voice (some { f with grants := 1, beats := f.beats ++ beats })) s
    rw [Chu.voiceTake_ended playing, Chu.kick_goesOn _ rfl rfl] at chu
    refine ⟨_, exec_clipBlock_goesOn busy fetch counts live first, ended, ?_, ?_, only⟩ <;> rw [chu] <;> rfl
  case second =>
    obtain ⟨ended, only, chu⟩ := settleChu_ended (s.chu.ended
      (s.chu.voice.takeBlock ⟨j, beatData (f.beats ++ beats), anyPoison (f.beats ++ beats)⟩) none) s
    rw [Chu.voiceTake_ended (by rw [Voice.takeBlock_state]; exact playing)] at chu
    obtain ⟨queue, voice, -⟩ := Chu.kick_keeps (chimeStore s) (s.chu.ended
      (s.chu.voice.takeBlock ⟨j, beatData (f.beats ++ beats), anyPoison (f.beats ++ beats)⟩) none)
    exact ⟨_, exec_clipBlock_fills busy fetch target counts live second, ended, (congrArg Chu.voice chu).trans voice,
      (congrArg Chu.queue chu).trans queue, only⟩
  case audio =>
    by_cases dead : f.givenUp = true ∨ s.aop.claim.live = false
    · obtain ⟨ended, only, rings⟩ := aopKick_ended (s.aop.claimEnded.setFetch x none) s
      obtain ⟨producer, consumer, ahead⟩ := ((ringsKept_fetch s.aop x none .idle).trans rings) x
      have void : f.givenUp = false → s.aop.claim = .granted true → False := fun counts live => by
        simp [counts, live, Claim.live] at dead
      exact ⟨_, exec_audioBlock_discards busy flight dead, ended, producer, consumer, fun _ => ahead,
        fun counts live => (void counts live).elim, fun counts live => (void counts live).elim, only⟩
    · have counts : f.givenUp = true → False := fun up => dead (.inl up)
      by_cases more : f.grants < 3
      · obtain ⟨ended, only, rings⟩ := aopKick_ended
          (s.aop.claimEnded.setFetch x (some { f with grants := f.grants + 1, beats := f.beats ++ beats })) s
        obtain ⟨producer, consumer, ahead⟩ := ((ringsKept_fetch s.aop x _ .idle).trans rings) x
        obtain ⟨fetch, claim⟩ := audioFetch_goesOn flight { f with grants := f.grants + 1, beats := f.beats ++ beats }
        exact ⟨_, exec_audioBlock_goesOn busy flight dead more, ended, producer, consumer, fun up => (counts up).elim,
          fun _ _ _ => ⟨ahead, fetch, claim⟩, fun _ _ last => by omega, only⟩
      · obtain ⟨ended, only, rings⟩ := aopKick_ended { s.aop.claimEnded with
          channels := s.aop.channels.set x ((s.aop.channels.get x).filled f beats) } s
        obtain ⟨producer, consumer, ahead⟩ := rings x
        rw [PerChannel.get_set_same] at producer consumer ahead
        exact ⟨_, exec_audioBlock_fills busy flight dead (Nat.le_of_not_lt more), ended, producer, consumer, fun up => (counts up).elim,
          fun _ _ few => absurd few more, fun _ _ _ => ahead, only⟩

end Sys2Proof.Machine
end
